-- ==== Sys2Proof/Word.lean ====
section
/-!
DEFINITION. The words of the part's serial links.

A station port and the seat loop carry nine-bit words: eight data bits, most significant first, and
then a parity bit (R75, R193). Every other quantity of the manual is a whole number with a range and
is a `Nat` in the model.
-/

namespace Sys2Proof

/-- Eight data bits of a link word. -/
abbrev Byte := BitVec 8

/-- A word as it travels: the eight data bits in bits 8..1 and the parity bit, sent last, in bit 0 (R193). -/
abbrev LinkWord := BitVec 9

end Sys2Proof
end

