-- ==== Sys2Proof/Syntax.lean ====
section
/-!
DEFINITION. The commands and events the part takes: one constructor for each row of
spec/opcode_table.json.

A row of the command catalogue (R197) carries the port it arrives on and the fields of its payload, each in
the width the catalogue gives it. The other rows are the part's events: its pins, its sensors, its
timers, the seat loop and the face chain.
-/

namespace Sys2Proof

/-- The role of a station port, fixed by the port itself (R192). -/
inductive Role where
  | desk
  | yard
  | accounts
  deriving DecidableEq, Repr

/-- The two fault inputs of a bridge stage (R64). -/
inductive FaultKind where
  | overcurrent
  | openLoad
  deriving DecidableEq, Repr

/-- The two gate sensors (R36, R37). -/
inductive GateSensor where
  | gateOpen
  | gateClosed
  deriving DecidableEq, Repr

/-- The payload of DECLARE LOT, in the catalogue's order and widths (R2, R197). -/
structure LotDecl where
  lot          : BitVec 16
  product      : BitVec 32
  grower       : BitVec 16
  grade        : Byte
  unitsTotal   : Byte
  stems        : BitVec 16
  minimum      : Byte
  startPrice   : BitVec 16
  floorPrice   : BitVec 16
  restartRaise : BitVec 16
  restartLimit : Byte
  container    : BitVec 16
  deriving DecidableEq, Repr

/-- One band of the payload of STEP TABLE (R118). -/
structure BandDecl where
  top  : BitVec 16
  step : Byte
  deriving DecidableEq, Repr

/-- Every command and event of spec/opcode_table.json, in the table's order.
In a catalogue command `p` is the port on which its frame arrives. -/
inductive Instr where
  /-- POWER_ON_RESET -/
  | powerOnReset
  /-- PIN_RESET, taken when RESET_N is released. -/
  | pinReset
  /-- SELECT_FALL of one port's select line. -/
  | selectFall (p : Role)
  /-- SELECT_RISE of one port's select line. -/
  | selectRise (p : Role)
  /-- UNKNOWN_COMMAND: a sound frame with a code outside the catalogue. -/
  | unknownCommand (p : Role) (code : Byte) (payload : List Byte)
  | readEvents (p : Role)
  | setEventMask (p : Role) (mask : Byte)
  | check (p : Role) (value : Byte)
  | portReset (p : Role)
  | readIdentity (p : Role)
  | readLot (p : Role) (lot : BitVec 16)
  | readTrain (p : Role) (train : BitVec 16)
  | readRail (p : Role)
  | readClock (p : Role)
  | readSeat (p : Role) (address : BitVec 16)
  | readBuyer (p : Role) (buyer : BitVec 16)
  | readFace (p : Role)
  | readDrive (p : Role)
  | readLog (p : Role) (index count : Byte)
  | declareLot (p : Role) (d : LotDecl)
  | dropLot (p : Role) (lot : BitVec 16)
  | announceTrain (p : Role) (train : BitVec 16) (trolleys : Byte) (lots : List (BitVec 16))
  | cancelTrain (p : Role) (train : BitVec 16)
  | reorder (p : Role) (train : BitVec 16)
  | eject (p : Role)
  | holdRail (p : Role)
  | release (p : Role)
  | retry (p : Role) (sec : Byte)
  | resolve (p : Role) (sec placement : Byte)
  | clearSection (p : Role) (sec : Byte)
  /-- JOG; the duration is in 0.1 s. -/
  | jog (p : Role) (channel direction duration : Byte)
  /-- SET_MOVE_LIMIT; the limit is in 0.1 s. -/
  | setMoveLimit (p : Role) (sec limit : Byte)
  /-- SET_GATE_TIME; the time is in 10 ms. -/
  | setGateTime (p : Role) (time : Byte)
  | setChannel (p : Role) (channel mode generator stop : Byte)
  | setFaultReport (p : Role) (overcurrent openLoad : Byte)
  | clearDriveFaults (p : Role)
  | setGenerator (p : Role) (generator enable period duty : Byte)
  | load (p : Role) (lot : BitVec 16)
  | start (p : Role)
  | halt (p : Role)
  | resume (p : Role)
  | withdraw (p : Role)
  | setPrice (p : Role) (price : BitVec 16)
  /-- TICK; the period is in ms. -/
  | tick (p : Role) (period : Byte)
  /-- SHOW; the time is in 0.1 s. -/
  | showTime (p : Role) (time : Byte)
  | auto (p : Role) (value : Byte)
  /-- AUTO_DELAY; the delay is in 0.1 s. -/
  | autoDelay (p : Role) (delay : Byte)
  | stepTable (p : Role) (bands : List BandDecl)
  | setScanCount (p : Role) (count : BitVec 16)
  | unbind (p : Role) (address : BitVec 16)
  | void (p : Role) (seq : BitVec 32)
  | setFaceMap (p : Role) (group phase generator : Byte)
  | faceTest (p : Role)
  | openAccount (p : Role) (buyer : BitVec 16) (limit : BitVec 32) (fee : Byte)
  | closeAccount (p : Role) (buyer : BitVec 16)
  | setLimit (p : Role) (buyer : BitVec 16) (limit : BitVec 32)
  | setFee (p : Role) (buyer : BitVec 16) (fee : Byte)
  | suspend (p : Role) (buyer : BitVec 16)
  | reinstate (p : Role) (buyer : BitVec 16)
  | payment (p : Role) (buyer : BitVec 16) (amount : BitVec 32)
  | dayClose (p : Role) (buyer : BitVec 16)
  | post (p : Role) (seq : BitVec 32)
  /-- PRESENCE_EDGE: the presence input of section `sec` changes to `level`. -/
  | presenceEdge (sec : Fin 7) (level : Bool)
  | tagDelivered (tag : BitVec 16)
  | tagWaitExpiry
  /-- MOVE_LIMIT_EXPIRY of the move in supply slot `slot`. -/
  | moveLimitExpiry (slot : Fin 3)
  /-- GATE_SENSOR_EDGE: the sensor's level changes to `level`. -/
  | gateSensorEdge (sensor : GateSensor) (level : Bool)
  | gateTimerExpiry
  | confirmationTimerExpiry
  | jogTimerExpiry
  | deadTimeExpiry (channel : Fin 8)
  | faultAssertion (channel : Fin 8) (kind : FaultKind)
  | faultRelease (channel : Fin 8) (kind : FaultKind)
  | generatorPeriodStart (generator : Fin 6)
  | beacon
  /-- POLL_SLOT of the address that follows in the scan (R72). -/
  | pollSlot
  /-- REPLY_WINDOW_END: `reply` is what the polled seat sent in the window, empty for no reply. -/
  | replyWindowEnd (reply : List LinkWord)
  | tickTimerExpiry
  | showTimerExpiry
  | autoTimerExpiry
  | faceTestTimerExpiry
  | faceChainLatch
  /-- WORD_CLOCKED: the master of port `p` clocks one word. -/
  | wordClocked (p : Role) (word : LinkWord)
  /-- FRAME_LINE_ERROR: the words of a whole frame in which the port finds a line error, or which it completes
  in a poisoned window. -/
  | frameLineError (p : Role) (words : List LinkWord)
  | generatorOffPhase (generator : Fin 6)
  deriving DecidableEq, Repr

end Sys2Proof
end

