-- ==== Sys2Proof/Decode.lean ====
section
/-!
DEFINITION. Link words, the check word and the command catalogue: what a station frame spells.

The rows of spec/opcode_table.json give no bits, so `decodeTableWord` reads none of them. The encoding the
manual does give is the station frame's (R193, R194, R197): a command code, a length and payload bytes. Both
directions of it are here: `frameOf` writes a command's code and payload, `decodeCommand` reads them.
-/

namespace Sys2Proof

/-! ## Link words (R75, R193) -/

/-- The eight data bits of a word. -/
def LinkWord.data (w : LinkWord) : Byte := w.extractLsb' 1 8

/-- The number of ones among the low `n` bits. -/
def onesBelow (w : LinkWord) : Nat → Nat
  | 0 => 0
  | n + 1 => onesBelow w n + (w.getLsbD n).toNat

/-- Good parity: the number of ones in the nine bits is odd (R193). -/
def LinkWord.parityGood (w : LinkWord) : Bool := onesBelow w 9 % 2 == 1

/-- The word that carries `b` with good parity. -/
def LinkWord.sound (b : Byte) : LinkWord :=
  let even : LinkWord := b ++ (0#1)
  if LinkWord.parityGood even then even else b ++ (1#1)

/-- The word data-out carries while no reply is being sent: data 0xFF (R193). -/
def LinkWord.idle : LinkWord := LinkWord.sound 0xFF

/-- An idle word: data 0xFF and good parity (R193). -/
def LinkWord.isIdle (w : LinkWord) : Bool := w.data == 0xFF && w.parityGood

/-! ## The check word (R194) -/

/-- One bit step of the CRC-8 register under x^8 + x^2 + x + 1. -/
def crcShift (r : Byte) : Byte :=
  if r.msb then (r <<< 1) ^^^ 0x07 else r <<< 1

/-- `n` bit steps. -/
def crcShifts (r : Byte) : Nat → Byte
  | 0 => r
  | n + 1 => crcShifts (crcShift r) n

/-- The CRC-8 register after one more byte. -/
def crcByte (r b : Byte) : Byte := crcShifts (r ^^^ b) 8

/-- The CRC-8 of a run of bytes: the register starts at 0 and the result is used as it stands (R194). -/
def crc8 (bytes : List Byte) : Byte := bytes.foldl crcByte 0

/-! ## Fields of more than one byte, most significant byte first (R194) -/

/-- The two bytes of a 16-bit field. -/
def split2 (v : BitVec 16) : List Byte := [v.extractLsb' 8 8, v.extractLsb' 0 8]

/-- The four bytes of a 32-bit field. -/
def split4 (v : BitVec 32) : List Byte :=
  [v.extractLsb' 24 8, v.extractLsb' 16 8, v.extractLsb' 8 8, v.extractLsb' 0 8]

/-- The 16-bit field of two bytes. -/
def join2 (a b : Byte) : BitVec 16 := a ++ b

/-- The 32-bit field of four bytes. -/
def join4 (a b c d : Byte) : BitVec 32 := (a ++ b) ++ (c ++ d)

/-! ## The command catalogue (R197) -/

/-- "All" of the catalogue. -/
def allRoles : List Role := [.desk, .yard, .accounts]

/-- The permitted roles of a command code; none for a code outside the catalogue (R197). -/
def rolesOf (code : Byte) : Option (List Role) :=
  let c := code.toNat
  if 0x01 ≤ c ∧ c ≤ 0x05 then some allRoles
  else if 0x10 ≤ c ∧ c ≤ 0x16 then some allRoles
  else if c = 0x17 then some [.desk, .yard]
  else if c = 0x18 then some [.desk, .accounts]
  else if 0x20 ≤ c ∧ c ≤ 0x24 then some [.yard]
  else if 0x28 ≤ c ∧ c ≤ 0x30 then some [.yard]
  else if 0x34 ≤ c ∧ c ≤ 0x36 then some [.yard]
  else if c = 0x37 then some [.desk, .yard]
  else if 0x40 ≤ c ∧ c ≤ 0x4F then some [.desk]
  else if 0x60 ≤ c ∧ c ≤ 0x68 then some [.accounts]
  else none

/-- The bytes of a list of lot numbers. -/
def lotsBytes : List (BitVec 16) → List Byte
  | [] => []
  | l :: ls => split2 l ++ lotsBytes ls

/-- The lot numbers of a run of bytes, two bytes each; none where a byte is left over. -/
def bytesLots : List Byte → Option (List (BitVec 16))
  | [] => some []
  | a :: b :: rest => (bytesLots rest).map (join2 a b :: ·)
  | [_] => none

/-- The bytes of a list of bands. -/
def bandsBytes : List BandDecl → List Byte
  | [] => []
  | b :: bs => split2 b.top ++ [b.step] ++ bandsBytes bs

/-- The bands of a run of bytes, three bytes each; none where bytes are left over. -/
def bytesBands : List Byte → Option (List BandDecl)
  | [] => some []
  | a :: b :: c :: rest => (bytesBands rest).map (⟨join2 a b, c⟩ :: ·)
  | _ => none

/-- The 22 payload bytes of DECLARE LOT. -/
def declBytes (d : LotDecl) : List Byte :=
  split2 d.lot ++ split4 d.product ++ split2 d.grower ++ [d.grade, d.unitsTotal] ++ split2 d.stems ++ [d.minimum] ++
    split2 d.startPrice ++ split2 d.floorPrice ++ split2 d.restartRaise ++ [d.restartLimit] ++ split2 d.container

/-- A command's frame: the port it arrives on, its code and its payload, as the catalogue lays them out (R197).
An event of the table that is no frame of a catalogue command has none. -/
def frameOf : Instr → Option (Role × Byte × List Byte)
  | .readEvents p => some (p, 0x01, [])
  | .setEventMask p m => some (p, 0x02, [m])
  | .check p v => some (p, 0x03, [v])
  | .portReset p => some (p, 0x04, [])
  | .readIdentity p => some (p, 0x05, [])
  | .readLot p n => some (p, 0x10, split2 n)
  | .readTrain p n => some (p, 0x11, split2 n)
  | .readRail p => some (p, 0x12, [])
  | .readClock p => some (p, 0x13, [])
  | .readSeat p a => some (p, 0x14, split2 a)
  | .readBuyer p b => some (p, 0x15, split2 b)
  | .readFace p => some (p, 0x16, [])
  | .readDrive p => some (p, 0x17, [])
  | .readLog p i n => some (p, 0x18, [i, n])
  | .declareLot p d => some (p, 0x20, declBytes d)
  | .dropLot p n => some (p, 0x21, split2 n)
  | .announceTrain p t k ls => some (p, 0x22, split2 t ++ [k] ++ lotsBytes ls)
  | .cancelTrain p t => some (p, 0x23, split2 t)
  | .reorder p t => some (p, 0x24, split2 t)
  | .eject p => some (p, 0x28, [])
  | .holdRail p => some (p, 0x29, [])
  | .release p => some (p, 0x2A, [])
  | .retry p k => some (p, 0x2B, [k])
  | .resolve p k a => some (p, 0x2C, [k, a])
  | .clearSection p k => some (p, 0x2D, [k])
  | .jog p c d t => some (p, 0x2E, [c, d, t])
  | .setMoveLimit p k v => some (p, 0x2F, [k, v])
  | .setGateTime p v => some (p, 0x30, [v])
  | .setChannel p c m g st => some (p, 0x34, [c, m, g, st])
  | .setFaultReport p a b => some (p, 0x35, [a, b])
  | .clearDriveFaults p => some (p, 0x36, [])
  | .setGenerator p g e c d => some (p, 0x37, [g, e, c, d])
  | .load p n => some (p, 0x40, split2 n)
  | .start p => some (p, 0x41, [])
  | .halt p => some (p, 0x42, [])
  | .resume p => some (p, 0x43, [])
  | .withdraw p => some (p, 0x44, [])
  | .setPrice p v => some (p, 0x45, split2 v)
  | .tick p v => some (p, 0x46, [v])
  | .showTime p v => some (p, 0x47, [v])
  | .auto p v => some (p, 0x48, [v])
  | .autoDelay p v => some (p, 0x49, [v])
  | .stepTable p bs => some (p, 0x4A, bandsBytes bs)
  | .setScanCount p n => some (p, 0x4B, split2 n)
  | .unbind p a => some (p, 0x4C, split2 a)
  | .void p q => some (p, 0x4D, split4 q)
  | .setFaceMap p g f n => some (p, 0x4E, [g, f, n])
  | .faceTest p => some (p, 0x4F, [])
  | .openAccount p b l f => some (p, 0x60, split2 b ++ split4 l ++ [f])
  | .closeAccount p b => some (p, 0x61, split2 b)
  | .setLimit p b l => some (p, 0x62, split2 b ++ split4 l)
  | .setFee p b f => some (p, 0x63, split2 b ++ [f])
  | .suspend p b => some (p, 0x64, split2 b)
  | .reinstate p b => some (p, 0x65, split2 b)
  | .payment p b a => some (p, 0x66, split2 b ++ split4 a)
  | .dayClose p b => some (p, 0x67, split2 b)
  | .post p q => some (p, 0x68, split4 q)
  | .powerOnReset | .pinReset | .selectFall _ | .selectRise _ | .unknownCommand _ _ _ => none
  | .presenceEdge _ _ | .tagDelivered _ | .tagWaitExpiry | .moveLimitExpiry _ | .gateSensorEdge _ _ => none
  | .gateTimerExpiry | .confirmationTimerExpiry | .jogTimerExpiry | .deadTimeExpiry _ => none
  | .faultAssertion _ _ | .faultRelease _ _ | .generatorPeriodStart _ | .generatorOffPhase _ => none
  | .beacon | .pollSlot | .replyWindowEnd _ | .tickTimerExpiry | .showTimerExpiry | .autoTimerExpiry => none
  | .faceTestTimerExpiry | .faceChainLatch | .wordClocked _ _ | .frameLineError _ _ => none

/-! ## Reading a payload -/

/-- An empty payload. -/
def read0 (i : Instr) : List Byte → Option Instr
  | [] => some i
  | _ => none

/-- A payload of one byte. -/
def read1 (f : Byte → Instr) : List Byte → Option Instr
  | [a] => some (f a)
  | _ => none

/-- A payload of two one-byte fields. -/
def read11 (f : Byte → Byte → Instr) : List Byte → Option Instr
  | [a, b] => some (f a b)
  | _ => none

/-- A payload of three one-byte fields. -/
def read111 (f : Byte → Byte → Byte → Instr) : List Byte → Option Instr
  | [a, b, c] => some (f a b c)
  | _ => none

/-- A payload of four one-byte fields. -/
def read1111 (f : Byte → Byte → Byte → Byte → Instr) : List Byte → Option Instr
  | [a, b, c, d] => some (f a b c d)
  | _ => none

/-- A payload of one two-byte field. -/
def read2 (f : BitVec 16 → Instr) : List Byte → Option Instr
  | [a, b] => some (f (join2 a b))
  | _ => none

/-- A payload of one four-byte field. -/
def read4 (f : BitVec 32 → Instr) : List Byte → Option Instr
  | [a, b, c, d] => some (f (join4 a b c d))
  | _ => none

/-- A payload of a two-byte and a one-byte field. -/
def read21 (f : BitVec 16 → Byte → Instr) : List Byte → Option Instr
  | [a, b, c] => some (f (join2 a b) c)
  | _ => none

/-- A payload of a two-byte and a four-byte field. -/
def read24 (f : BitVec 16 → BitVec 32 → Instr) : List Byte → Option Instr
  | [a, b, c, d, e, g] => some (f (join2 a b) (join4 c d e g))
  | _ => none

/-- A payload of a two-byte, a four-byte and a one-byte field. -/
def read241 (f : BitVec 16 → BitVec 32 → Byte → Instr) : List Byte → Option Instr
  | [a, b, c, d, e, g, h] => some (f (join2 a b) (join4 c d e g) h)
  | _ => none

/-- The payload of DECLARE LOT. -/
def readDecl (f : LotDecl → Instr) : List Byte → Option Instr
  | [l1, l2, p1, p2, p3, p4, g1, g2, gr, u, s1, s2, m, a1, a2, b1, b2, r1, r2, rl, c1, c2] =>
    some (f { lot := join2 l1 l2, product := join4 p1 p2 p3 p4, grower := join2 g1 g2, grade := gr, unitsTotal := u,
              stems := join2 s1 s2, minimum := m, startPrice := join2 a1 a2, floorPrice := join2 b1 b2,
              restartRaise := join2 r1 r2, restartLimit := rl, container := join2 c1 c2 })
  | _ => none

/-- The payload of ANNOUNCE TRAIN: an even length, or a length below 3, is no length of the command (R197). -/
def readAnnounce (f : BitVec 16 → Byte → List (BitVec 16) → Instr) : List Byte → Option Instr
  | a :: b :: k :: rest => (bytesLots rest).map (f (join2 a b) k)
  | _ => none

/-- The payload of STEP TABLE: 24 bytes. -/
def readBands (f : List BandDecl → Instr) (bytes : List Byte) : Option Instr :=
  if bytes.length = 24 then (bytesBands bytes).map f else none

/-- The command that a code and payload spell on port `p`; none where the payload length is none the catalogue gives
for the code, or the code is outside the catalogue (R197). -/
def decodeCommand (p : Role) (code : Byte) (payload : List Byte) : Option Instr :=
  match code.toNat with
  | 0x01 => read0 (.readEvents p) payload
  | 0x02 => read1 (.setEventMask p) payload
  | 0x03 => read1 (.check p) payload
  | 0x04 => read0 (.portReset p) payload
  | 0x05 => read0 (.readIdentity p) payload
  | 0x10 => read2 (.readLot p) payload
  | 0x11 => read2 (.readTrain p) payload
  | 0x12 => read0 (.readRail p) payload
  | 0x13 => read0 (.readClock p) payload
  | 0x14 => read2 (.readSeat p) payload
  | 0x15 => read2 (.readBuyer p) payload
  | 0x16 => read0 (.readFace p) payload
  | 0x17 => read0 (.readDrive p) payload
  | 0x18 => read11 (.readLog p) payload
  | 0x20 => readDecl (.declareLot p) payload
  | 0x21 => read2 (.dropLot p) payload
  | 0x22 => readAnnounce (.announceTrain p) payload
  | 0x23 => read2 (.cancelTrain p) payload
  | 0x24 => read2 (.reorder p) payload
  | 0x28 => read0 (.eject p) payload
  | 0x29 => read0 (.holdRail p) payload
  | 0x2A => read0 (.release p) payload
  | 0x2B => read1 (.retry p) payload
  | 0x2C => read11 (.resolve p) payload
  | 0x2D => read1 (.clearSection p) payload
  | 0x2E => read111 (.jog p) payload
  | 0x2F => read11 (.setMoveLimit p) payload
  | 0x30 => read1 (.setGateTime p) payload
  | 0x34 => read1111 (.setChannel p) payload
  | 0x35 => read11 (.setFaultReport p) payload
  | 0x36 => read0 (.clearDriveFaults p) payload
  | 0x37 => read1111 (.setGenerator p) payload
  | 0x40 => read2 (.load p) payload
  | 0x41 => read0 (.start p) payload
  | 0x42 => read0 (.halt p) payload
  | 0x43 => read0 (.resume p) payload
  | 0x44 => read0 (.withdraw p) payload
  | 0x45 => read2 (.setPrice p) payload
  | 0x46 => read1 (.tick p) payload
  | 0x47 => read1 (.showTime p) payload
  | 0x48 => read1 (.auto p) payload
  | 0x49 => read1 (.autoDelay p) payload
  | 0x4A => readBands (.stepTable p) payload
  | 0x4B => read2 (.setScanCount p) payload
  | 0x4C => read2 (.unbind p) payload
  | 0x4D => read4 (.void p) payload
  | 0x4E => read111 (.setFaceMap p) payload
  | 0x4F => read0 (.faceTest p) payload
  | 0x60 => read241 (.openAccount p) payload
  | 0x61 => read2 (.closeAccount p) payload
  | 0x62 => read24 (.setLimit p) payload
  | 0x63 => read21 (.setFee p) payload
  | 0x64 => read2 (.suspend p) payload
  | 0x65 => read2 (.reinstate p) payload
  | 0x66 => read24 (.payment p) payload
  | 0x67 => read2 (.dayClose p) payload
  | 0x68 => read4 (.post p) payload
  | _ => none

/-! ## Frames as words (R194) -/

/-- The data bytes of a frame that the check word covers: code, length and payload. -/
def frameBytes (code : Byte) (payload : List Byte) : List Byte :=
  code :: BitVec.ofNat 8 payload.length :: payload

/-- The words of a sound frame: code, length, payload and, with the check on, the CRC-8 of those words. -/
def frameWords (check : Bool) (code : Byte) (payload : List Byte) : List LinkWord :=
  let bytes := frameBytes code payload
  (if check then bytes ++ [crc8 bytes] else bytes).map LinkWord.sound

/-- Whether `ws` is one whole frame by its own length word, under the check setting `check`: it does not begin with
an idle word, and it has exactly the extent its length word gives (R193, R194). -/
def wholeFrame (check : Bool) : List LinkWord → Bool
  | c :: l :: rest => !c.isIdle && rest.length == l.data.toNat + check.toNat
  | _ => false

/-! ## The table's bits -/

/-- The command that a table word spells. No row of spec/opcode_table.json gives bits, so no word spells one
(DESIGN CHOICE, log entry 21). -/
def decodeTableWord (_nbits _w : Nat) : Option Instr := none

end Sys2Proof
end

