-- ==== Sys2Proof/Config.lean ====
section
/-!
DEFINITION. What the part fixes: the capacities of its collections, its fixed times, its identity, and the two values
the manual leaves open.

Times are in units of 0.1 ms, the unit of run time (00_scope.md, "Time").
-/

namespace Sys2Proof.Config

/-! ## Capacities (00_scope.md, "Principal capacities") -/

/-- Lots in the lot table (R1). -/
def lotCapacity : Nat := 128
/-- Trains in the train table (R8). -/
def trainCapacity : Nat := 24
/-- Lots in one train (R8). -/
def trainLots : Nat := 12
/-- Beacons the beacon table keeps (R74). -/
def beaconCapacity : Nat := 8
/-- Entries the tick history keeps (R98). -/
def historyCapacity : Nat := 32
/-- Entries of the contender list (R134). -/
def contenderCapacity : Nat := 8
/-- Buyers in the buyer table (R151). -/
def buyerCapacity : Nat := 512
/-- Records in the purchase log (R168). -/
def logCapacity : Nat := 128
/-- The count of records at which HIGH is raised (R169). -/
def logHigh : Nat := 96
/-- Payload words of a frame (R194). -/
def maxPayload : Nat := 64

/-- The lamps of RING (R181). -/
def ringLamps : Nat := 100
/-- The character cells of PRICE, LOT, BUYER and PREVIEW together (R181). -/
def faceCells : Nat := 52

/-! ## Fixed times, in 0.1 ms -/

/-- One millisecond. -/
def perMs : Nat := 10
/-- 0.1 s. -/
def perTenth : Nat := 1000
/-- The tag wait of 2.0 s (R25). -/
def tagWait : Nat := 20000
/-- What the confirmation timer adds to the gate time: 2.0 s (R37). -/
def confirmExtra : Nat := 20000
/-- The reversal dead time of 1 ms (R58). -/
def deadTime : Nat := 10
/-- The face test's 2.0 s (R188). -/
def faceTest : Nat := 20000
/-- The top of run time (R91). -/
def maxRunTime : Nat := 4294967295

/-! ## Ranges -/

/-- The top of limits and of pending and owed sums, in cents (R151). -/
def maxLimit : Nat := 2000000000
/-- The top of the fee rate, in parts per thousand (R151). -/
def maxFee : Nat := 100
/-- The top of a day total (R151). -/
def maxDayTotal : Nat := 4294967295
/-- The top of a day count (R151). -/
def maxDayCount : Nat := 65535
/-- The top of a price (00_scope.md, "Money"). -/
def maxPrice : Nat := 9999
/-- The silence count at which a seat goes OFFLINE (R79). -/
def maxSilence : Nat := 16

/-! ## Identity (R202) -/

def vendorCode : BitVec 16 := 0x0D31
def partCode : BitVec 16 := 0x0CA8
def revision : Byte := 0x01

/-! ## The open values -/

/-- FREE VALUE (DESIGN CHOICE, log entry 7). READ RAIL gives the time left on a move's limit timer and on the jog timer in units of
0.1 s (R54), and the manual does not say how a time between two such units is rounded. Whether the part rounds
a time left, given in 0.1 ms, up to the next 0.1 s is this constant, which has no body. -/
opaque roundsUp : Nat → Bool

/-- FREE VALUE (DESIGN CHOICE, log entry 13). The face chain shifts out its lamps without pause (R189), and the manual gives no
rate. How many places it shifts out while a given time in 0.1 ms passes is this constant, which has no body, applied to
the number of the draw and the time. -/
opaque chainShift : Nat → Nat → Nat

/-- FREE VALUE (DESIGN CHOICE, log entry 13). How many segments a character cell has beyond its first. The manual does not say:
it gives only that a cell has segments, in a fixed order (R189). -/
opaque furtherSegments : Nat

/-- The segments of a character cell. -/
def cellSegments : Nat := furtherSegments + 1

/-- FREE VALUE (DESIGN CHOICE, log entry 13). Whether the dash lights the segment at a place of the cell's order. -/
opaque dashLit : Nat → Bool

/-- FREE VALUE (DESIGN CHOICE, log entry 13). Whether a digit lights the segment at a place of the cell's order. Of the figure 8
it is read only at segments that the dash lights, since the two together light every segment (R188, `Cell.lit`). -/
opaque digitLit : Fin 10 → Nat → Bool

/-- Places of the face chain: the lamps of RING, and then the segments of the character cells (R181, R189). -/
def chainLength : Nat := ringLamps + faceCells * cellSegments

end Sys2Proof.Config
end

