-- ==== Sys2Proof/Machine/State.lean ====
section
/-!
DEFINITION. The state of the part: one structure for each block and the records it owns, the levels of the input pins,
and the queue of commands that wait.

Tables whose order carries no meaning are lists of (key, record) with the keys strictly rising, so that equal tables
are equal data. Collections of fixed size are vectors. Every timer is `none` while stopped and `some t` while running
with `t` × 0.1 ms left.
-/

namespace Sys2Proof.Machine

/-- A table keyed by number, held with its keys strictly rising (DEDUCED, log entry 3). -/
abbrev Tbl (α : Type) := List (Nat × α)

/-- A timer: stopped, or running with the time left in units of 0.1 ms. -/
abbrev Timer := Option Nat

/-- A section of the rail, INTAKE 0, STAGE1 to STAGE4, PRESENT 5, DISPATCH 6 (R24). -/
abbrev Sec := Fin 7

/-- A drive channel D0 to D7 (R55). -/
abbrev Chan := Fin 8

/-- A pulse generator G0 to G5 (R61). -/
abbrev Gen := Fin 6

/-- A seat address (R71). -/
abbrev SeatAddr := Fin 256

/-! ## Lot Store (chapter 1) -/

/-- Lot states (R1), in the order of the table that defines them. -/
inductive LotState where
  | declared | announced | waiting | loaded | onClock | closed
  deriving DecidableEq, Repr

/-- Lot outcomes (R1). -/
inductive LotOutcome where
  | soldOut | part | noSale
  deriving DecidableEq, Repr

/-- The record of a lot's last sale (R1). -/
structure LastSale where
  price : Nat
  buyer : Nat
  units : Nat
  deriving DecidableEq, Repr

/-- A lot entry without its number, which is its key (R1). -/
structure Lot where
  train         : Option Nat
  place         : Option Nat
  product       : Nat
  grower        : Nat
  grade         : Nat
  unitsTotal    : Nat
  stems         : Nat
  minimum       : Nat
  startPrice    : Nat
  floorPrice    : Nat
  restartRaise  : Nat
  restartLimit  : Nat
  container     : Nat
  state         : LotState
  outcome       : Option LotOutcome
  remaining     : Nat
  sold          : Nat
  withdrawn     : Nat
  restartsUsed  : Nat
  pendingCount  : Nat
  lastSale      : Option LastSale
  deriving DecidableEq, Repr

/-- Train states (R8). -/
inductive TrainState where
  | announced | misorder | onRail | presented | done | leaving
  deriving DecidableEq, Repr

/-- A train record without its id, which is its key (R8). -/
structure Train where
  trolleys : Nat
  lots     : List Nat
  state    : TrainState
  sec      : Option Sec
  deriving DecidableEq, Repr

/-- The three collections of the Lot Store (R1, R8, R14). -/
structure LotStore where
  lots   : Tbl Lot
  trains : Tbl Train
  /-- The announcement queue, head first (R14). -/
  queue  : List Nat
  deriving DecidableEq, Repr

/-! ## Rail Controller (chapter 2) -/

/-- Section conditions (R24). -/
inductive Cond where
  | clear | occupied | reserved | blocked
  deriving DecidableEq, Repr

/-- A section record; INTAKE's unknown tag stands beside the table (R24). -/
structure SecRec where
  cond      : Cond
  occupant  : Option Nat
  /-- In units of 0.1 s. -/
  moveLimit : Nat
  deriving DecidableEq, Repr

/-- Where a move goes: a section, or OUT for an eject (R29, R30). -/
inductive Dest where
  | sec (k : Sec)
  | out
  deriving DecidableEq, Repr

/-- A move in flight, in its supply slot (R32). -/
structure Move where
  train   : Option Nat
  source  : Sec
  dest    : Dest
  /-- The time left on the limit timer, in 0.1 ms. -/
  left    : Nat
  deriving DecidableEq, Repr

/-- Causes of a stall (R46). -/
inductive Cause where
  | timeout | driveFault | gate | sensor
  deriving DecidableEq, Repr

/-- A stall record without its from-section, which is its place in the stall list (R46). -/
structure Stall where
  train : Option Nat
  /-- Absent for a gate operation and for a lone SENSOR edge. -/
  dest  : Option Dest
  cause : Cause
  deriving DecidableEq, Repr

/-- Hold states (R39). -/
inductive Hold where
  | none | pending | held
  deriving DecidableEq, Repr

/-- Gate positions (R35). -/
inductive GatePos where
  | closed | opening | opened | closing | unknown
  deriving DecidableEq, Repr

/-- States of the admission wait (R25). -/
inductive AdmState where
  | idle | waitTag | waitPresence
  deriving DecidableEq, Repr

/-- Directions of drive (R55). -/
inductive Dir where
  | forward | reverse
  deriving DecidableEq, Repr

/-- A jog in flight (R51). -/
structure Jog where
  chan : Chan
  dir  : Dir
  left : Nat
  deriving DecidableEq, Repr

/-- The state of the Rail Controller (R24, R25, R31, R35, R39, R46, R51). -/
structure Rail where
  secs         : Vector SecRec 7
  unknownTag   : Option Nat
  slots        : Vector (Option Move) 3
  ejectPending : Bool
  /-- The stall list, by from-section. -/
  stalls       : Vector (Option Stall) 7
  hold         : Hold
  gate         : GatePos
  /-- In ms. -/
  gateTime     : Nat
  gateTimer    : Timer
  confirmTimer : Timer
  adm          : AdmState
  heldTag      : Option Nat
  admTimer     : Timer
  jog          : Option Jog
  deriving DecidableEq, Repr

/-! ## Drive Unit (chapter 3) -/

/-- Channel outputs (R55). -/
inductive Output where
  | off | forward | reverse
  deriving DecidableEq, Repr

/-- The rest of a channel whose output is OFF (R55). -/
inductive Rest where
  | opened | braked
  deriving DecidableEq, Repr

/-- Drive modes (R55). -/
inductive DriveMode where
  | continuous | pulsed
  deriving DecidableEq, Repr

/-- Stop modes (R55). -/
inductive StopMode where
  | coast | brake
  deriving DecidableEq, Repr

/-- A channel record (R55), with the reversal dead time of its turn (R58). -/
structure Channel where
  output   : Output
  rest     : Rest
  turn     : Option Dir
  deadTime : Timer
  mode     : DriveMode
  gen      : Gen
  stop     : StopMode
  latch    : Option FaultKind
  deriving DecidableEq, Repr

/-- Generator periods, by period code (R61). -/
inductive Period where
  | us50 | ms1 | ms250 | s1
  deriving DecidableEq, Repr

/-- A generator record (R61). `dutyNow` is the duty of the period in progress and `on` its present output: a duty
written alone waits for the next period (R62; DEDUCED, log entry 17). -/
structure Generator where
  enabled : Bool
  period  : Period
  duty    : Nat
  dutyNow : Nat
  on      : Bool
  deriving DecidableEq, Repr

/-- The state of the Drive Unit. -/
structure Drive where
  chans           : Vector Channel 8
  gens            : Vector Generator 6
  reportOvercurrent : Bool
  reportOpenLoad  : Bool
  deriving DecidableEq, Repr

/-! ## Seat Scanner (chapter 4) -/

/-- Seat links (R71). -/
inductive Link where
  | online | offline
  deriving DecidableEq, Repr

/-- Verdicts (R71). -/
inductive Verdict where
  | accepted | refused
  deriving DecidableEq, Repr

/-- Answer codes, from code 1 (R85). -/
inductive AnswerCode where
  | ready | denied | wait | late | qty | limit | won | released
  deriving DecidableEq, Repr

/-- A pending answer (R85). -/
structure Answer where
  code  : AnswerCode
  value : Nat
  deriving DecidableEq, Repr

/-- A seat record (R71). -/
structure Seat where
  link     : Link
  buyer    : Option Nat
  quantity : Nat
  answer   : Option Answer
  verdict  : Verdict
  silence  : Nat
  deriving DecidableEq, Repr

/-- A beacon table entry (R74). -/
structure BeaconRec where
  number  : Byte
  segment : Byte
  runTime : Nat
  running : Bool
  deriving DecidableEq, Repr

/-- The scan position (R72). -/
inductive ScanPos where
  | beacon
  | seat (a : SeatAddr)
  deriving DecidableEq, Repr

/-- MODEL'S OWN (DEDUCED, log entry 5). How far the step at the scan position has come: the beacon or slot is still due, its
frame has been sent and, in a slot, the reply window is open, or the slot has ended. -/
inductive ScanStage where
  | due | sent | ended
  deriving DecidableEq, Repr

/-- The state of the Seat Scanner (R71, R72, R74). -/
structure Scanner where
  seats     : Vector Seat 256
  beacons   : List BeaconRec
  scanCount : Nat
  nextCount : Option Nat
  pos       : ScanPos
  stage     : ScanStage
  beaconNo  : Byte
  /-- The words of the frame last sent on the loop (R75). -/
  sent      : List LinkWord
  deriving DecidableEq, Repr

/-! ## Clock Engine (chapters 5 to 7) -/

/-- Clock states (R91). -/
inductive ClockState where
  | idle | loaded | running | contest | showing | halted
  deriving DecidableEq, Repr

/-- Halt reasons (R91). -/
inductive HaltReason where
  | desk | logFull | restartLimit
  deriving DecidableEq, Repr

/-- Segment kinds (R91). -/
inductive SegmentKind where
  | first | restarted
  deriving DecidableEq, Repr

/-- Showing kinds (R91). -/
inductive ShowingKind where
  | sale | floor
  deriving DecidableEq, Repr

/-- A tick history entry: the price that held from a run time on (R98). -/
structure TickRec where
  runTime : Nat
  price   : Nat
  deriving DecidableEq, Repr

/-- A band of the step table (R117). -/
structure Band where
  top  : Nat
  step : Nat
  deriving DecidableEq, Repr

/-- A contender list entry (R134). -/
structure Contender where
  seat     : SeatAddr
  buyer    : Nat
  quantity : Nat
  time     : Nat
  deriving DecidableEq, Repr

/-- The clock record, the contest and the step table (R91, R117, R134). -/
structure Clock where
  state         : ClockState
  halt          : Option HaltReason
  lot           : Option Nat
  price         : Nat
  runTime       : Nat
  segment       : Byte
  kind          : SegmentKind
  history       : List TickRec
  stopTime      : Option Nat
  stopPrice     : Option Nat
  showing       : Option ShowingKind
  notedHalt     : Bool
  notedWithdraw : Bool
  /-- In ms. -/
  tickPeriod    : Nat
  /-- In units of 0.1 s. -/
  showTime      : Nat
  auto          : Bool
  /-- In units of 0.1 s. -/
  autoDelay     : Nat
  tickTimer     : Timer
  showTimer     : Timer
  autoTimer     : Timer
  steps         : Vector Band 8
  contenders    : List Contender
  opener        : Option SeatAddr
  /-- A presentation notice told by the Rail Controller and not yet taken (R94, R116; DESIGN CHOICE, log entry 10). -/
  noticeWaiting : Bool
  deriving DecidableEq, Repr

/-! ## Account Store (chapter 8) -/

/-- Buyer states (R151). -/
inductive BuyerState where
  | active | suspended
  deriving DecidableEq, Repr

/-- A buyer record without its number, which is its key (R151). `pendingSum` is the manual's Pending. -/
structure Buyer where
  state      : BuyerState
  limit      : Nat
  pendingSum : Nat
  owed       : Nat
  fee        : Nat
  seat       : Option SeatAddr
  dayTotal   : Nat
  dayCount   : Nat
  deriving DecidableEq, Repr

/-- The last-refusal record (R162). -/
structure Refused where
  buyer     : Nat
  total     : Nat
  available : Int
  deriving DecidableEq, Repr

/-- The state of the Account Store. -/
structure Accounts where
  buyers      : Tbl Buyer
  lastRefusal : Option Refused
  deriving DecidableEq, Repr

/-! ## Purchase Log (chapter 9) -/

/-- Purchase record states (R167). -/
inductive RecordState where
  | pending | void
  deriving DecidableEq, Repr

/-- A purchase record (R167). -/
structure Purchase where
  seq       : BitVec 32
  state     : RecordState
  lot       : Nat
  buyer     : Nat
  seat      : SeatAddr
  units     : Nat
  price     : Nat
  goods     : Nat
  fee       : Nat
  container : Nat
  total     : Nat
  segment   : Byte
  time      : Nat
  /-- The restart flag: set when the segment was a RESTARTED one. -/
  restart   : Bool
  carried   : Bool
  deriving DecidableEq, Repr

/-- The purchase log, oldest first, and the next sequence number (R168). -/
structure Log where
  records : List Purchase
  nextSeq : BitVec 32
  deriving DecidableEq, Repr

/-! ## Face Driver (chapter 10) -/

/-- What the PRICE group shows (R184). -/
inductive PriceShow where
  | blank
  | dashes
  | price (n : Nat)
  deriving DecidableEq, Repr

/-- What the LOT group shows (R185). -/
structure LotPanel where
  lot       : Nat
  product   : Nat
  grower    : Nat
  grade     : Nat
  remaining : Nat
  deriving DecidableEq, Repr

/-- What the BUYER group shows (R185). -/
structure BuyerPanel where
  buyer : Nat
  units : Nat
  deriving DecidableEq, Repr

/-- The face image: the content of each lamp group (R181). -/
structure FaceImage where
  ring    : Option Nat
  price   : PriceShow
  lot     : Option LotPanel
  buyer   : Option BuyerPanel
  preview : List Nat
  deriving DecidableEq, Repr

/-- What a character cell shows: nothing, a digit or a dash (R181), or in a face test the figure 8 and its dash together
(R188). -/
inductive Cell where
  | dark
  | digit (d : Fin 10)
  | dash
  | test
  deriving DecidableEq, Repr

/-- A level for every lamp: the places of the face chain whose lamps are on, rising (R189). The RING lamps have the places 0 to
99, and after them stand the segments of the character cells, cell after cell: 4 of PRICE, 25 of LOT, 8 of BUYER and 15 of
PREVIEW (R181). -/
structure Lamps where
  lit : List Nat
  deriving DecidableEq, Repr

/-- The face record (R181), the lamps and the pass in progress (R189). The phase map's cell for group `g` and phase `f` is
3 × g + f. -/
structure Face where
  map       : Vector Gen 15
  image     : FaceImage
  testTimer : Timer
  /-- The levels that the lamps took at the last latch. -/
  lamps     : Lamps
  /-- How many places of the chain the pass in progress has shifted out (DESIGN CHOICE, log entry 13). -/
  shifted   : Nat
  /-- The levels that the pass in progress carries, settled at the places already shifted out. -/
  carried   : Lamps
  deriving DecidableEq, Repr

/-! ## Station Ports (chapter 11) -/

/-- Whether a select window is open (R192). -/
inductive Window where
  | closed | opened
  deriving DecidableEq, Repr

/-- The phase within an open window (R192). -/
inductive PortPhase where
  | frame | reply
  deriving DecidableEq, Repr

/-- A port record (R192). Its role is its place in `Ports`. `discarded`, `crc` and `parityBad` are what the port must
carry of the words it receives and does not keep (R194, R196; DEDUCED, log entry 18). `selectLow` is the level of the select pin and `out` the
word last sent on data-out. -/
structure Port where
  window       : Window
  phase        : PortPhase
  frame        : List LinkWord
  discarded    : Nat
  crc          : Byte
  parityBad    : Bool
  replyLeft    : List LinkWord
  poisoned     : Bool
  checkNow     : Bool
  checkNext    : Bool
  resetPending : Bool
  /-- The event set, as its image (R199). -/
  events       : Byte
  /-- The mask, as its image (R199). -/
  mask         : Byte
  selectLow    : Bool
  out          : LinkWord
  deriving DecidableEq, Repr

/-- The three ports. -/
structure Ports where
  desk     : Port
  yard     : Port
  accounts : Port
  deriving DecidableEq, Repr

/-- The kinds of whole-part reset (R202). -/
inductive ResetCause where
  | power | pin
  deriving DecidableEq, Repr

/-- The levels of the sensor and fault input pins. -/
structure Inputs where
  presence    : Vector Bool 7
  gateOpen    : Bool
  gateClosed  : Bool
  overcurrent : Vector Bool 8
  openLoad    : Vector Bool 8
  deriving DecidableEq, Repr

/-! ## What the manual leaves open -/

/-- MODEL'S OWN (DESIGN CHOICE, log entries 10 and 13). What the steps of a run read where the manual gives no rule. -/
structure Choices where
  /-- How many free values of `Config.chainShift` have been drawn. -/
  draws : Nat
  /-- For each presentation notice still to come, whether it waits until the part next idles; past the end of the list none
  does. -/
  late  : List Bool
  deriving DecidableEq, Repr

/-! ## The machine -/

/-- The whole state of the part, and the commands and events that wait, first in, first out. -/
structure State where
  lots       : LotStore
  rail       : Rail
  drive      : Drive
  scan       : Scanner
  clock      : Clock
  accounts   : Accounts
  log        : Log
  face       : Face
  ports      : Ports
  resetCause : ResetCause
  inputs     : Inputs
  choices    : Choices
  pending    : List Instr
  deriving DecidableEq, Repr

/-- The faults a step can stop with. There is none: the manual gives every command and event of the table an effect in
every state of the part. -/
inductive Fault where
  deriving DecidableEq, Repr

/-- The refusals a step can answer. -/
inductive Refusal where
  /-- A command whose meaning has not been written; raised by `exec` alone. Safe: nothing is claimed of it. -/
  | notModelled (mnemonic : String)
  deriving DecidableEq, Repr

/-! ## Reset values -/

/-- A section after a reset that finds no presence there (R53). -/
def SecRec.reset : SecRec := { cond := .clear, occupant := none, moveLimit := 80 }

/-- The Rail Controller after a reset (R25, R34, R37, R39, R46, R53), with every presence input false and the gate-closed
sensor true (DESIGN CHOICE, log entry 2). -/
def Rail.reset : Rail :=
  { secs := Vector.replicate 7 SecRec.reset, unknownTag := none, slots := Vector.replicate 3 none, ejectPending := false,
    stalls := Vector.replicate 7 none, hold := .none, gate := .closed, gateTime := 400, gateTimer := none,
    confirmTimer := none, adm := .idle, heldTag := none, admTimer := none, jog := none }

/-- A channel after a reset (R55). -/
def Channel.reset : Channel :=
  { output := .off, rest := .opened, turn := none, deadTime := none, mode := .continuous, gen := 0, stop := .coast,
    latch := none }

/-- A generator after a reset (R61). -/
def Generator.reset : Generator := { enabled := false, period := .ms1, duty := 0, dutyNow := 0, on := false }

/-- The Drive Unit after a reset (R55, R61, R65). -/
def Drive.reset : Drive :=
  { chans := Vector.replicate 8 Channel.reset, gens := Vector.replicate 6 Generator.reset, reportOvercurrent := false,
    reportOpenLoad := false }

/-- A seat after a reset (R71). -/
def Seat.reset : Seat :=
  { link := .online, buyer := none, quantity := 1, answer := none, verdict := .accepted, silence := 0 }

/-- The Seat Scanner after a reset (R71, R72, R74). -/
def Scanner.reset : Scanner :=
  { seats := Vector.replicate 256 Seat.reset, beacons := [], scanCount := 256, nextCount := none, pos := .beacon,
    stage := .due, beaconNo := 0, sent := [] }

/-- The Clock Engine after a reset (R91, R117, R134). -/
def Clock.reset : Clock :=
  { state := .idle, halt := none, lot := none, price := 0, runTime := 0, segment := 0, kind := .first, history := [],
    stopTime := none, stopPrice := none, showing := none, notedHalt := false, notedWithdraw := false, tickPeriod := 20,
    showTime := 20, auto := false, autoDelay := 30, tickTimer := none, showTimer := none, autoTimer := none,
    steps := Vector.replicate 8 { top := 9999, step := 1 }, contenders := [], opener := none, noticeWaiting := false }

/-- The blank face image (R181). -/
def FaceImage.blank : FaceImage := { ring := none, price := .blank, lot := none, buyer := none, preview := [] }

/-- Every lamp off (R189). -/
def Lamps.off : Lamps := { lit := [] }

/-- The Face Driver after a reset (R181), the chain at the beginning of a pass (R189). -/
def Face.reset : Face :=
  { map := Vector.replicate 15 5, image := FaceImage.blank, testTimer := none, lamps := Lamps.off, shifted := 0,
    carried := Lamps.off }

/-- A port after a reset (R192), its select line high and data-out at 0xFF with its parity bit (DESIGN CHOICE, log entry 2). -/
def Port.reset : Port :=
  { window := .closed, phase := .frame, frame := [], discarded := 0, crc := 0, parityBad := false, replyLeft := [],
    poisoned := false, checkNow := false, checkNext := false, resetPending := false, events := 0, mask := 0,
    selectLow := false, out := 0x1FF }

/-- The input levels of `State.reset` (DESIGN CHOICE, log entry 2). -/
def Inputs.reset : Inputs :=
  { presence := Vector.replicate 7 false, gateOpen := false, gateClosed := true, overcurrent := Vector.replicate 8 false,
    openLoad := Vector.replicate 8 false }

/-- No free value drawn yet, and every presentation notice taken within its event (DESIGN CHOICE, log entries 10 and 13). -/
def Choices.reset : Choices := { draws := 0, late := [] }

/-- The part right after a power-on reset, nothing waiting. -/
def State.reset : State :=
  { lots := { lots := [], trains := [], queue := [] }, rail := Rail.reset, drive := Drive.reset, scan := Scanner.reset,
    clock := Clock.reset, accounts := { buyers := [], lastRefusal := none }, log := { records := [], nextSeq := 1 },
    face := Face.reset, ports := { desk := Port.reset, yard := Port.reset, accounts := Port.reset }, resetCause := .power,
    inputs := Inputs.reset, choices := Choices.reset, pending := [] }

end Sys2Proof.Machine
end

