-- ==== Sys2Proof/Machine/Ops.lean ====
section
/-!
DEFINITION. The named operations over tables, ports and timers that every block's meaning is written with, and the
byte encodings of reply fields (R195).
-/

namespace Sys2Proof.Machine

/-! ## Tables -/

/-- The record under key `k`. -/
def Tbl.get {α : Type} : Tbl α → Nat → Option α
  | [], _ => none
  | (k', v) :: t, k => if k' = k then some v else Tbl.get t k

/-- The table with `v` under key `k`, in place of any record there, keys rising. -/
def Tbl.put {α : Type} : Tbl α → Nat → α → Tbl α
  | [], k, v => [(k, v)]
  | (k', v') :: t, k, v =>
    if k < k' then (k, v) :: (k', v') :: t else if k = k' then (k, v) :: t else (k', v') :: Tbl.put t k v

/-- The table without key `k`. -/
def Tbl.erase {α : Type} (t : Tbl α) (k : Nat) : Tbl α := t.filter fun e => e.1 ≠ k

/-- The table with `f` applied to every record. -/
def Tbl.mapAll {α : Type} (t : Tbl α) (f : Nat → α → α) : Tbl α := t.map fun e => (e.1, f e.1 e.2)

/-- The table with `f` applied to the record under key `k`, if there is one. -/
def Tbl.modify {α : Type} (t : Tbl α) (k : Nat) (f : α → α) : Tbl α :=
  t.mapAll fun k' v => if k' = k then f v else v

/-- The canonical form: keys strictly rising. -/
def Tbl.wf {α : Type} (t : Tbl α) : Bool := decide ((t.map (·.1)).Pairwise (· < ·))

/-! ## Timers -/

/-- A timer after `n` × 0.1 ms. -/
def Timer.after (n : Nat) (t : Timer) : Timer := t.map (· - n)

/-! ## Ports -/

/-- The port of a role. -/
def Ports.get (ps : Ports) : Role → Port
  | .desk => ps.desk
  | .yard => ps.yard
  | .accounts => ps.accounts

/-- The ports with the record of one role replaced. -/
def Ports.set (ps : Ports) (p : Role) (r : Port) : Ports :=
  match p with
  | .desk => { ps with desk := r }
  | .yard => { ps with yard := r }
  | .accounts => { ps with accounts := r }

/-- The port record of a role. -/
def State.port (s : State) (p : Role) : Port := s.ports.get p

/-- The state with the port record of one role replaced. -/
def State.setPort (s : State) (p : Role) (r : Port) : State := { s with ports := s.ports.set p r }

/-! ## Reply fields (R195) -/

/-- A reply's payload under construction. -/
abbrev Bytes := List Byte

/-- A number in one byte. -/
def num1 (n : Nat) : Bytes := [BitVec.ofNat 8 n]

/-- A number in two bytes, most significant first. -/
def num2 (n : Nat) : Bytes := split2 (BitVec.ofNat 16 n)

/-- A number in four bytes, most significant first. -/
def num4 (n : Nat) : Bytes := split4 (BitVec.ofNat 32 n)

/-- A signed number in four bytes, two's complement. -/
def signed4 (n : Int) : Bytes := split4 (BitVec.ofInt 32 n)

/-- A yes/no value: 0 for no and 1 for yes. -/
def yesNo (b : Bool) : Bytes := num1 b.toNat

/-- An optional field: a presence byte, and then the value, or zeros in its full width of `width` bytes. -/
def optional {α : Type} (width : Nat) (enc : α → Bytes) : Option α → Bytes
  | some v => num1 1 ++ enc v
  | none => num1 0 ++ List.replicate width 0

/-- A list of varying length: a count byte, and then the entries. -/
def counted {α : Type} (enc : α → Bytes) (l : List α) : Bytes := num1 l.length ++ l.flatMap enc

/-- A list of fixed length: the entries alone. -/
def fixed {α : Type} (enc : α → Bytes) (l : List α) : Bytes := l.flatMap enc

/-! ## Replies (R195, R198) -/

/-- Status codes (R198). -/
inductive Status where
  | ok | linkError | unknown | notPermitted | length | range | state | busy | notFound | full | order | locked | inUse
  | sensor
  deriving DecidableEq, Repr

/-- A status code's byte (R198). -/
def Status.code : Status → Byte
  | .ok => 0x00
  | .linkError => 0x01
  | .unknown => 0x02
  | .notPermitted => 0x03
  | .length => 0x04
  | .range => 0x05
  | .state => 0x06
  | .busy => 0x07
  | .notFound => 0x08
  | .full => 0x09
  | .order => 0x0A
  | .locked => 0x0B
  | .inUse => 0x0C
  | .sensor => 0x0D

/-- A reply: a status and its payload. -/
structure Reply where
  status  : Status
  payload : Bytes
  deriving DecidableEq, Repr

/-- A reply with no payload. -/
def Reply.bare (st : Status) : Reply := { status := st, payload := [] }

/-- OK with a payload. -/
def Reply.done (payload : Bytes) : Reply := { status := .ok, payload := payload }

/-- What an owner answers when it takes a command: the part's records after it, and the reply. -/
abbrev Taken := State × Reply

/-- A refusal: the records stay as they were (00_scope.md, "Taken, refused, clamped"). -/
def refuse (s : State) (st : Status) : Taken := (s, Reply.bare st)

/-- The words of a reply: status, payload length in two words, payload and, with the check on, the CRC-8 of those words
(R195). -/
def replyWords (check : Bool) (r : Reply) : List LinkWord :=
  let bytes := r.status.code :: num2 r.payload.length ++ r.payload
  (if check then bytes ++ [crc8 bytes] else bytes).map LinkWord.sound

end Sys2Proof.Machine
end

