-- ==== Sys2Proof/Machine/Arith.lean ====
section
/-!
DEFINITION. Price and amount arithmetic (chapter 6): the step table, the descent step, the ring index, price-at, the
amounts of a purchase and the credit comparison.
-/

namespace Sys2Proof.Machine

/-- The band of a price: the first band whose top is at least the price (R119). -/
def bandOf (steps : Vector Band 8) (price : Nat) : Option Band := steps.toList.find? fun b => price ≤ b.top

/-- The step of a price (R119). Every price 1..9999 has a band, because the top of band 8 is 9999 (otherwise:
DESIGN CHOICE, log entry 19). -/
def stepOf (steps : Vector Band 8) (price : Nat) : Nat :=
  match bandOf steps price with
  | some b => b.step
  | none => 1

/-- The price after a tick taken at a price above the floor: the price less its step, or the floor where the signed
difference is below it (R120). -/
def descend (steps : Vector Band 8) (price floor : Nat) : Nat :=
  if (price : Int) - (stepOf steps price : Int) < (floor : Int) then floor else price - stepOf steps price

/-- The ring index: the remainder of the price divided by 100 (R121). -/
def ringIndex (price : Nat) : Nat := price % 100

/-- The tick history with an entry appended; a 33rd entry drops the oldest (R98). -/
def pushTick (h : List TickRec) (e : TickRec) : List TickRec :=
  let h' := h ++ [e]
  h'.drop (h'.length - Config.historyCapacity)

/-- Price-at: the price of the newest entry whose run time is at or before `t`, or of the oldest entry where there is none
such (R122). -/
def priceAt (h : List TickRec) (t : Nat) : Nat :=
  match (h.filter fun e => e.runTime ≤ t).getLast? with
  | some e => e.price
  | none =>
    match h.head? with
    | some e => e.price
    | none => 0

/-- The four amounts of a purchase (R124 to R126). -/
structure Amounts where
  goods     : Nat
  fee       : Nat
  container : Nat
  total     : Nat
  deriving DecidableEq, Repr

/-- Goods u × s × p (R124); fee (goods × f + 500) / 1000, the remainder discarded (R125); container u × c and line total
(R126). -/
def amounts (units stems price feeRate charge : Nat) : Amounts :=
  let goods := units * stems * price
  let fee := (goods * feeRate + 500) / 1000
  let container := units * charge
  { goods := goods, fee := fee, container := container, total := goods + fee + container }

/-- The available amount, signed (R128, R151). -/
def Buyer.available (b : Buyer) : Int := (b.limit : Int) - (b.pendingSum : Int) - (b.owed : Int)

/-- The credit comparison: accepted when pending + owed + line total is at most the limit (R128). -/
def Buyer.creditOk (b : Buyer) (total : Nat) : Bool := decide (b.pendingSum + b.owed + total ≤ b.limit)

/-- The quantity test: it fails when the quantity is below the minimum purchase and the remaining units are at least the
minimum (R132). -/
def quantityOk (quantity minimum remaining : Nat) : Bool := !(decide (quantity < minimum) && decide (minimum ≤ remaining))

end Sys2Proof.Machine
end

