-- ==== Sys2Proof/Machine/Flags.lean ====
section
/-!
DEFINITION. The event kinds of the three ports, their places in the one-byte image, and the attention line (R199).
-/

namespace Sys2Proof.Machine

/-- Every event kind of every port (R199). LOGFULL is a kind of the desk port and a kind of the accounts port. -/
inductive Event where
  | clock | sale | closed | presented | logFullDesk | seat
  | admitted | misorder | unknownTag | stall | fault | holdAck | want | dispatched
  | log | high | refusal | logFullAccounts
  deriving DecidableEq, Repr

/-- The port whose set holds the kind (R199). -/
def Event.role : Event → Role
  | .clock | .sale | .closed | .presented | .logFullDesk | .seat => .desk
  | .admitted | .misorder | .unknownTag | .stall | .fault | .holdAck | .want | .dispatched => .yard
  | .log | .high | .refusal | .logFullAccounts => .accounts

/-- The kind's bit in the image of its port's set (R199). -/
def Event.mask : Event → Byte
  | .clock => 0x01
  | .sale => 0x02
  | .closed => 0x04
  | .presented => 0x08
  | .logFullDesk => 0x10
  | .seat => 0x20
  | .admitted => 0x01
  | .misorder => 0x02
  | .unknownTag => 0x04
  | .stall => 0x08
  | .fault => 0x10
  | .holdAck => 0x20
  | .want => 0x40
  | .dispatched => 0x80
  | .log => 0x01
  | .high => 0x02
  | .refusal => 0x04
  | .logFullAccounts => 0x08

/-- The bits that name a kind on a port's role (R199, R200). -/
def kindBits : Role → Byte
  | .desk => 0x3F
  | .yard => 0xFF
  | .accounts => 0x0F

/-- A port with the kinds of an image set in its event set: each is held at most once (R199). -/
def Port.raiseBits (r : Port) (bits : Byte) : Port := { r with events := r.events ||| bits }

/-- The part with one event raised in the set of its port, whether or not a window is open and whether or not the kind
is in the mask (R199). -/
def State.raise (s : State) (e : Event) : State := s.setPort e.role ((s.port e.role).raiseBits e.mask)

/-- Whether a kind is in its port's set. -/
def State.holds (s : State) (e : Event) : Bool := (s.port e.role).events &&& e.mask != 0

/-- The attention line: asserted while the event set and the mask hold a kind in common (R199). -/
def State.attention (s : State) (p : Role) : Bool := (s.port p).events &&& (s.port p).mask != 0

end Sys2Proof.Machine
end

