-- ==== Sys2Proof/Machine/AccountOps.lean ====
section
/-!
DEFINITION. The Account Store's and the Purchase Log's own operations (chapters 8 and 9).
-/

namespace Sys2Proof.Machine

/-! ## The Account Store (R151 to R163) -/

/-- A change of one buyer record. -/
def Accounts.onBuyer (a : Accounts) (b : Nat) (f : Buyer → Buyer) : Accounts := { a with buyers := a.buyers.modify b f }

/-- The record that OPEN ACCOUNT creates, with its limit and fee rate clamped (R152). -/
def Buyer.opened (limit fee : Nat) : Buyer :=
  { state := .active, limit := min limit Config.maxLimit, pendingSum := 0, owed := 0, fee := min fee Config.maxFee,
    seat := none, dayTotal := 0, dayCount := 0 }

/-- Pending raised at a strike (R145, R157). -/
def Buyer.raisePending (b : Buyer) (total : Nat) : Buyer := { b with pendingSum := b.pendingSum + total }

/-- Pending lowered at a void (R157, R175). -/
def Buyer.lowerPending (b : Buyer) (total : Nat) : Buyer := { b with pendingSum := b.pendingSum - total }

/-- A posted record's total moved from pending to owed and counted in the day, each day figure stopping at its top
(R157, R160, R173). -/
def Buyer.posted (b : Buyer) (total : Nat) : Buyer :=
  { b with pendingSum := b.pendingSum - total, owed := b.owed + total,
           dayTotal := min (b.dayTotal + total) Config.maxDayTotal, dayCount := min (b.dayCount + 1) Config.maxDayCount }

/-- Whether a buyer is present and ACTIVE: the state question (R161). -/
def Accounts.isActive (a : Accounts) (b : Nat) : Bool :=
  match a.buyers.get b with
  | some r => r.state = .active
  | none => false

/-- The clear request: a buyer's seat field made absent (R163). -/
def Accounts.clearSeat (a : Accounts) (b : Nat) : Accounts := a.onBuyer b fun r => { r with seat := none }

/-- The seat request of a LOGIN of buyer `b` at seat `x`, bound to `c` or to none: the table of R80, none where it is
refused (R163). -/
def Accounts.seatRequest (a : Accounts) (x : SeatAddr) (b : Nat) (c : Option Nat) : Option Accounts :=
  if b = 0 then none
  else match a.buyers.get b with
    | none => none
    | some r =>
      if r.state = .suspended then none
      else
        let cleared := match c with
          | some c' => if c' = b then a else a.clearSeat c'
          | none => a
        match r.seat with
        | some y => if y = x then some cleared else none
        | none => some (cleared.onBuyer b fun r' => { r' with seat := some x })

/-- Every seat field made absent (R151). -/
def Accounts.clearSeats (a : Accounts) : Accounts :=
  { a with buyers := a.buyers.mapAll fun _ r => { r with seat := none } }

/-- The last-refusal record written, and REFUSAL raised (R143, R162). -/
def State.writeRefusal (s : State) (b total : Nat) (available : Int) : State :=
  ({ s with accounts := { s.accounts with lastRefusal := some { buyer := b, total := total, available := available } } } :
    State).raise .refusal

/-- A change of one buyer record of the part. -/
def State.onBuyer (s : State) (b : Nat) (f : Buyer → Buyer) : State := { s with accounts := s.accounts.onBuyer b f }

/-! ## The Purchase Log (R167 to R175) -/

/-- The free-entry question (R170). -/
def State.logFree (s : State) : Bool := decide (s.log.records.length < Config.logCapacity)

/-- LOGFULL set in the desk port's and the accounts port's event sets (R171). -/
def State.raiseLogFull (s : State) : State := (s.raise .logFullDesk).raise .logFullAccounts

/-- A record appended (R169): it takes the next sequence number and joins the tail, PENDING and not carried; LOG is
raised, HIGH at 96 records and LOGFULL at 128. -/
def State.append (s : State) (rec : BitVec 32 → Purchase) : State :=
  let n := s.log.nextSeq
  let s1 : State := { s with log := { records := s.log.records ++ [rec n], nextSeq := n + 1 } }
  let s2 := s1.raise .log
  let s3 := if s1.log.records.length = Config.logHigh then s2.raise .high else s2
  if s1.log.records.length = Config.logCapacity then s3.raiseLogFull else s3

/-- The head of the log removed, with LOGFULL where the log held 128 records (R173 steps 3 and 4). -/
def State.dropHead (s : State) : State :=
  let s1 : State := { s with log := { s.log with records := s.log.records.tail } }
  if s.log.records.length = Config.logCapacity then s1.raiseLogFull else s1

/-- The record with a sequence number. -/
def Log.find (l : Log) (n : BitVec 32) : Option Purchase := l.records.find? fun r => r.seq = n

/-- The record with a sequence number marked VOID, its place kept (R175 step 1). -/
def Log.markVoid (l : Log) (n : BitVec 32) : Log :=
  { l with records := l.records.map fun r => if r.seq = n then { r with state := .void } else r }

/-- Every record marked carried, as a pin reset leaves the log (R179). -/
def Log.carryAll (l : Log) : Log := { l with records := l.records.map fun r => { r with carried := true } }

end Sys2Proof.Machine
end

