-- ==== Sys2Proof/Machine/DriveUnit.lean ====
section
/-!
DEFINITION. The Drive Unit's own operations (chapter 3): energise and stop requests, turns, fault latches, generators,
and the bridge controls that follow from a channel record.
-/

namespace Sys2Proof.Machine

/-! ## One channel -/

/-- The output that drives in a direction. -/
def Dir.output : Dir → Output
  | .forward => .forward
  | .reverse => .reverse

/-- An energise request on a channel record, and whether it is accepted: a latched fault refuses it, a channel at rest
takes the direction, a channel driven in the other direction begins a turn, and a pending turn takes the newer
direction (R57, R58). -/
def Channel.energise (c : Channel) (d : Dir) : Channel × Bool :=
  match c.latch with
  | some _ => (c, false)
  | none =>
    match c.turn with
    | some _ => ({ c with turn := some d }, true)
    | none =>
      if c.output = .off then ({ c with output := d.output, rest := .opened }, true)
      else if c.output = d.output then (c, true)
      else ({ c with output := .off, rest := .opened, turn := some d, deadTime := some Config.deadTime }, true)

/-- The rest a stop applies (R59). -/
def StopMode.rest : StopMode → Rest
  | .coast => .opened
  | .brake => .braked

/-- A stop request on a channel record: output OFF and the stop mode's rest, a pending turn abandoned; a latched fault
leaves the record as it is (R58, R59). -/
def Channel.halt (c : Channel) : Channel :=
  match c.latch with
  | some _ => c
  | none => { c with output := .off, rest := c.stop.rest, turn := none, deadTime := none }

/-- A fault latching on a channel: forced OFF in COAST, a brake released and a pending turn dropped (R58, R64). -/
def Channel.latchFault (c : Channel) (k : FaultKind) : Channel :=
  { c with output := .off, rest := .opened, turn := none, deadTime := none, latch := some k }

/-- The end of the reversal dead time: the channel drives in the pending direction (R58). -/
def Channel.turnOver (c : Channel) : Channel :=
  match c.turn with
  | some d => { c with output := d.output, rest := .opened, turn := none, deadTime := none }
  | none => { c with deadTime := none }

/-! ## The channel table -/

/-- An energise request on a channel of the table (R57). -/
def Drive.energise (d : Drive) (k : Chan) (dir : Dir) : Drive × Bool :=
  let r := d.chans[k].energise dir
  ({ d with chans := d.chans.set k r.1 }, r.2)

/-- A stop request on a channel of the table (R59). -/
def Drive.halt (d : Drive) (k : Chan) : Drive := { d with chans := d.chans.set k d.chans[k].halt }

/-- A fault latch set on a channel of the table (R64). -/
def Drive.latchFault (d : Drive) (k : Chan) (f : FaultKind) : Drive :=
  { d with chans := d.chans.set k (d.chans[k].latchFault f) }

/-- Whether a channel holds a fault latch. -/
def Drive.latched (d : Drive) (k : Chan) : Bool := d.chans[k].latch.isSome

/-- The report enable of a fault kind (R65). -/
def Drive.reports (d : Drive) : FaultKind → Bool
  | .overcurrent => d.reportOvercurrent
  | .openLoad => d.reportOpenLoad

/-- What a channel latches when it is examined against its fault inputs: OVERCURRENT before OPEN_LOAD (R67). -/
def Inputs.fault (i : Inputs) (k : Chan) : Option FaultKind :=
  if i.overcurrent[k] then some .overcurrent else if i.openLoad[k] then some .openLoad else none

/-- A channel cleared of its latch and examined against its fault inputs (R67, R68). -/
def Channel.relatch (c : Channel) (f : Option FaultKind) : Channel :=
  match f with
  | some k => c.latchFault k
  | none => { c with latch := none }

/-- Every channel cleared of its latch and examined against its fault inputs (R67 steps 1 and 2, R68). -/
def Drive.relatchAll (d : Drive) (i : Inputs) : Drive :=
  { d with chans := Vector.ofFn fun k : Fin 8 => d.chans[k].relatch (i.fault k) }

/-! ## Generators -/

/-- A new period beginning with the duty written (R61, R62). -/
def Generator.beginPeriod (g : Generator) : Generator := { g with dutyNow := g.duty, on := decide (0 < g.duty) }

/-- The start of the next period of an enabled generator (R61, R62). A period does not end in its on-phase but at duty 255,
so there is none while that phase lasts (DESIGN CHOICE, log entry 6). -/
def Generator.periodStart (g : Generator) : Generator :=
  if g.enabled ∧ ¬ (g.on ∧ g.dutyNow < 255) then g.beginPeriod else g

/-- SET GENERATOR on a record (R62): a generator newly enabled or given another period begins a new period at the write;
a duty written alone waits for the next period; a disabled generator's output is off. -/
def Generator.write (g : Generator) (enabled : Bool) (period : Period) (duty : Nat) : Generator :=
  let g' := { g with enabled := enabled, period := period, duty := duty }
  if ¬ enabled then { g' with dutyNow := duty, on := false }
  else if ¬ g.enabled ∨ g.period ≠ period then g'.beginPeriod
  else g'

/-- The end of an on-phase: there is none at duty 0 and no off-phase at duty 255 (R61). -/
def Generator.offPhase (g : Generator) : Generator :=
  if g.enabled ∧ g.on ∧ g.dutyNow < 255 then { g with on := false } else g

/-! ## The bridge controls -/

/-- What a channel's four bridge controls do (11_station_ports.md, "Pin summary"): all four off, both low sides held on, or
one high side and the opposite low side. -/
inductive Bridge where
  | opened | lowSides | forward | reverse
  deriving DecidableEq, Repr

/-- Whether an energised channel's bridge is driven at this moment (R60). -/
def Drive.driven (d : Drive) (k : Chan) : Bool :=
  match d.chans[k].mode with
  | .continuous => true
  | .pulsed => d.gens[d.chans[k].gen].on

/-- The bridge controls of a channel (R57, R59, R60). -/
def Drive.bridge (d : Drive) (k : Chan) : Bridge :=
  match d.chans[k].output with
  | .off => match d.chans[k].rest with
    | .opened => .opened
    | .braked => .lowSides
  | .forward => if d.driven k then .forward else .opened
  | .reverse => if d.driven k then .reverse else .opened

end Sys2Proof.Machine
end

