-- ==== Sys2Proof/Machine/Operands.lean ====
section
/-!
DEFINITION. How the bytes of a payload name the part's things (R195, R197), and the codes by which a reply names them.

A value of a named set is sent as its position in the list of values of the table that defines the field, counting from
0, unless a rule gives codes of its own (R195).
-/

namespace Sys2Proof.Machine

/-- A value clamped into `lo..hi` (00_scope.md, "Taken, refused, clamped"). -/
def clamp (lo hi n : Nat) : Nat := max lo (min hi n)

/-- A number below `n`, for the operands that name a section, a channel, a generator or a seat. -/
def index (n : Nat) (v : Nat) : Option (Fin n) := if h : v < n then some ⟨v, h⟩ else none

/-- A section number 0..6. -/
def secOf (b : Byte) : Option Sec := index 7 b.toNat

/-- A channel number 0..7. -/
def chanOf (b : Byte) : Option Chan := index 8 b.toNat

/-- A generator number 0..5. -/
def genOf (b : Byte) : Option Gen := index 6 b.toNat

/-- JOG direction: FORWARD 0, REVERSE 1 (R197). -/
def dirOf (b : Byte) : Option Dir :=
  if b = 0 then some .forward else if b = 1 then some .reverse else none

/-- RESOLVE placement (R48). -/
inductive Placement where
  | atFrom | atTo
  deriving DecidableEq, Repr

/-- RESOLVE placement: AT_FROM 0, AT_TO 1 (R197). -/
def placementOf (b : Byte) : Option Placement :=
  if b = 0 then some .atFrom else if b = 1 then some .atTo else none

/-- SET CHANNEL drive mode: CONTINUOUS 0, PULSED 1 (R197). -/
def driveModeOf (b : Byte) : Option DriveMode :=
  if b = 0 then some .continuous else if b = 1 then some .pulsed else none

/-- SET CHANNEL stop mode: COAST 0, BRAKE 1 (R197). -/
def stopModeOf (b : Byte) : Option StopMode :=
  if b = 0 then some .coast else if b = 1 then some .brake else none

/-- The on/off byte of CHECK and SET FAULT REPORT: any value but 0 and 1 is refused (R65, R201). -/
def onOffOf (b : Byte) : Option Bool :=
  if b = 0 then some false else if b = 1 then some true else none

/-- The on/off byte of AUTO and the enable of SET GENERATOR: 0 is off and any other value is on (R197). -/
def looseOnOf (b : Byte) : Bool := b != 0

/-- Period codes (R61). -/
def periodOf (b : Byte) : Option Period :=
  if b = 0 then some .us50 else if b = 1 then some .ms1 else if b = 2 then some .ms250 else if b = 3 then some .s1 else none

/-- The face map's cell for a group 0..4 and a phase 0..2 (R183). -/
def cellOf (group phase : Byte) : Option (Fin 15) :=
  if group.toNat ≤ 4 ∧ phase.toNat ≤ 2 then index 15 (3 * group.toNat + phase.toNat) else none

/-! ## Codes in replies -/

def LotState.code : LotState → Nat
  | .declared => 0 | .announced => 1 | .waiting => 2 | .loaded => 3 | .onClock => 4 | .closed => 5

def LotOutcome.code : LotOutcome → Nat
  | .soldOut => 0 | .part => 1 | .noSale => 2

def TrainState.code : TrainState → Nat
  | .announced => 0 | .misorder => 1 | .onRail => 2 | .presented => 3 | .done => 4 | .leaving => 5

def Cond.code : Cond → Nat
  | .clear => 0 | .occupied => 1 | .reserved => 2 | .blocked => 3

/-- A section is sent as its number, and the to-section OUT as 7 (R195). -/
def Dest.code : Dest → Nat
  | .sec k => k.val
  | .out => 7

def Cause.code : Cause → Nat
  | .timeout => 0 | .driveFault => 1 | .gate => 2 | .sensor => 3

/-- The order in which R39 names the hold states, since no table defines the field (DESIGN CHOICE, log entry 8). -/
def Hold.code : Hold → Nat
  | .none => 0 | .pending => 1 | .held => 2

/-- The order in which R35 names the gate positions, since no table defines the field (DESIGN CHOICE, log entry 8). -/
def GatePos.code : GatePos → Nat
  | .closed => 0 | .opening => 1 | .opened => 2 | .closing => 3 | .unknown => 4

def AdmState.code : AdmState → Nat
  | .idle => 0 | .waitTag => 1 | .waitPresence => 2

def Dir.code : Dir → Nat
  | .forward => 0 | .reverse => 1

def Output.code : Output → Nat
  | .off => 0 | .forward => 1 | .reverse => 2

def Rest.code : Rest → Nat
  | .opened => 0 | .braked => 1

def DriveMode.code : DriveMode → Nat
  | .continuous => 0 | .pulsed => 1

def StopMode.code : StopMode → Nat
  | .coast => 0 | .brake => 1

/-- Fault latch: none, OVERCURRENT, OPEN_LOAD (R55). -/
def latchCode : Option FaultKind → Nat
  | none => 0 | some .overcurrent => 1 | some .openLoad => 2

def Period.code : Period → Nat
  | .us50 => 0 | .ms1 => 1 | .ms250 => 2 | .s1 => 3

def Link.code : Link → Nat
  | .online => 0 | .offline => 1

def Verdict.code : Verdict → Nat
  | .accepted => 0 | .refused => 1

/-- Answer codes (R85). -/
def AnswerCode.code : AnswerCode → Nat
  | .ready => 1 | .denied => 2 | .wait => 3 | .late => 4 | .qty => 5 | .limit => 6 | .won => 7 | .released => 8

def ClockState.code : ClockState → Nat
  | .idle => 0 | .loaded => 1 | .running => 2 | .contest => 3 | .showing => 4 | .halted => 5

def HaltReason.code : HaltReason → Nat
  | .desk => 0 | .logFull => 1 | .restartLimit => 2

def SegmentKind.code : SegmentKind → Nat
  | .first => 0 | .restarted => 1

def ShowingKind.code : ShowingKind → Nat
  | .sale => 0 | .floor => 1

def BuyerState.code : BuyerState → Nat
  | .active => 0 | .suspended => 1

def RecordState.code : RecordState → Nat
  | .pending => 0 | .void => 1

def ResetCause.code : ResetCause → Nat
  | .power => 0 | .pin => 1

end Sys2Proof.Machine
end

