-- ==== Sys2Proof/Machine/LotOps.lean ====
section
/-!
DEFINITION. The Lot Store's own operations (chapter 1), each taken on its three collections alone.
-/

namespace Sys2Proof.Machine

/-! ## Lots -/

/-- The RANGE tests of DECLARE LOT (R2). -/
def LotDecl.inRange (d : LotDecl) : Bool :=
  d.lot.toNat ≠ 0 && d.grade.toNat ≤ 15 && 1 ≤ d.unitsTotal.toNat && 1 ≤ d.stems.toNat && d.stems.toNat ≤ 500 &&
    1 ≤ d.minimum.toNat && d.minimum.toNat ≤ d.unitsTotal.toNat && 1 ≤ d.startPrice.toNat &&
    d.startPrice.toNat ≤ 9999 && 1 ≤ d.floorPrice.toNat && d.floorPrice.toNat ≤ d.startPrice.toNat &&
    d.restartRaise.toNat ≤ 999 && d.restartLimit.toNat ≤ 15 && d.container.toNat ≤ 9999

/-- The entry that DECLARE LOT creates (R2). -/
def Lot.ofDecl (d : LotDecl) : Lot :=
  { train := none, place := none, product := d.product.toNat, grower := d.grower.toNat, grade := d.grade.toNat,
    unitsTotal := d.unitsTotal.toNat, stems := d.stems.toNat, minimum := d.minimum.toNat,
    startPrice := d.startPrice.toNat, floorPrice := d.floorPrice.toNat, restartRaise := d.restartRaise.toNat,
    restartLimit := d.restartLimit.toNat, container := d.container.toNat, state := .declared, outcome := none,
    remaining := d.unitsTotal.toNat, sold := 0, withdrawn := 0, restartsUsed := 0, pendingCount := 0, lastSale := none }

/-- The outcome of a closed lot from its units sold (R7 step 2). -/
def Lot.outcomeOf (l : Lot) : LotOutcome :=
  if l.sold = l.unitsTotal then .soldOut else if l.sold = 0 then .noSale else .part

/-- The closing of a lot entry (R7 steps 1 to 3). -/
def Lot.close (l : Lot) : Lot :=
  { l with withdrawn := l.withdrawn + l.remaining, remaining := 0, outcome := some l.outcomeOf, state := .closed }

/-- A strike of `u` units at price `p` to buyer `b` (R16). -/
def Lot.strike (l : Lot) (u p b : Nat) : Lot :=
  { l with remaining := l.remaining - u, sold := l.sold + u, pendingCount := l.pendingCount + 1,
           lastSale := some { price := p, buyer := b, units := u } }

/-- The return of a voided record's units (R17 steps 1 to 4): to remaining, or to withdrawn once the lot is CLOSED, whose
outcome is then set anew. -/
def Lot.giveBack (l : Lot) (u : Nat) : Lot :=
  let l1 := { l with sold := l.sold - u, pendingCount := l.pendingCount - 1 }
  if l.state = .closed then { l1 with withdrawn := l.withdrawn + u, outcome := some l1.outcomeOf }
  else { l1 with remaining := l.remaining + u }

/-- A lot entry that meets the three conditions of R19. -/
def Lot.freeable (l : Lot) : Bool := l.state = .closed && l.train.isNone && l.pendingCount = 0

/-- A lot that is LOADED or ON_CLOCK: the lot lock is in force (R42). -/
def Lot.onSale (l : Lot) : Bool := l.state = .loaded || l.state = .onClock

/-- Whether the lot lock is in force (R42). -/
def LotStore.locked (ls : LotStore) : Bool := ls.lots.any fun e => e.2.onSale

/-- The freeing test of a lot (R19). -/
def LotStore.freeTest (ls : LotStore) (n : Nat) : LotStore :=
  match ls.lots.get n with
  | some l => if l.freeable then { ls with lots := ls.lots.erase n } else ls
  | none => ls

/-- A change of one lot entry. -/
def LotStore.onLot (ls : LotStore) (n : Nat) (f : Lot → Lot) : LotStore := { ls with lots := ls.lots.modify n f }

/-- A change of one train record. -/
def LotStore.onTrain (ls : LotStore) (t : Nat) (f : Train → Train) : LotStore :=
  { ls with trains := ls.trains.modify t f }

/-! ## Loading, running and closing (R5 to R7) -/

/-- Whether the train of a lot is PRESENTED. -/
def LotStore.lotPresented (ls : LotStore) (l : Lot) : Bool :=
  match l.train with
  | some t => match ls.trains.get t with
    | some tr => tr.state = .presented
    | none => false
  | none => false

/-- The Lot Store's answer to a load request: NOT_FOUND, STATE, or OK (R5). -/
def LotStore.loadStatus (ls : LotStore) (n : Nat) : Status :=
  match ls.lots.get n with
  | none => .notFound
  | some l => if l.state = .waiting ∧ ls.lotPresented l then .ok else .state

/-- A load request taken: any LOADED lot returns to WAITING and the named lot becomes LOADED (R5). -/
def LotStore.load (ls : LotStore) (n : Nat) : LotStore :=
  let unloaded := ls.lots.mapAll fun _ l => if l.state = .loaded then { l with state := .waiting } else l
  { ls with lots := unloaded.modify n fun l => { l with state := .loaded } }

/-- A lot put ON_CLOCK at a segment start (R6). -/
def LotStore.toClock (ls : LotStore) (n : Nat) : LotStore :=
  ls.onLot n fun l => if l.state = .loaded then { l with state := .onClock } else l

/-- Whether every lot of a list is CLOSED. -/
def LotStore.allClosed (ls : LotStore) (ns : List Nat) : Bool :=
  ns.all fun n => match ls.lots.get n with
    | some l => l.state = .closed
    | none => false

/-- The examination of a lot's train at its closing: a PRESENTED train whose lots are all CLOSED becomes DONE
(R7 step 4, R12). -/
def LotStore.trainTest (ls : LotStore) (t : Nat) : LotStore :=
  match ls.trains.get t with
  | some tr => if tr.state = .presented ∧ ls.allClosed tr.lots then ls.onTrain t fun r => { r with state := .done } else ls
  | none => ls

/-- The closing of a LOADED or ON_CLOCK lot (R7), with the freeing test R19 makes at a closing. -/
def LotStore.close (ls : LotStore) (n : Nat) : LotStore :=
  match ls.lots.get n with
  | some l =>
    if l.onSale then
      let ls1 := ls.onLot n Lot.close
      let ls2 := match l.train with
        | some t => ls1.trainTest t
        | none => ls1
      ls2.freeTest n
    else ls
  | none => ls

/-- The PRESENTED train, if there is one. -/
def LotStore.presented (ls : LotStore) : Option Train :=
  (ls.trains.find? fun e => e.2.state = .presented).map (·.2)

/-- Whether a lot of the table is WAITING. -/
def LotStore.isWaiting (ls : LotStore) (n : Nat) : Bool :=
  match ls.lots.get n with
  | some l => l.state = .waiting
  | none => false

/-- The first WAITING lot of the presented train, in place order (R94). -/
def LotStore.firstWaiting (ls : LotStore) : Option Nat :=
  match ls.presented with
  | some tr => tr.lots.find? ls.isWaiting
  | none => none

/-! ## Sales (R16 to R19) -/

/-- A strike applied to a lot (R16). -/
def LotStore.strike (ls : LotStore) (n u p b : Nat) : LotStore := ls.onLot n fun l => l.strike u p b

/-- A voided record's units returned to its lot, and the freeing test (R17). -/
def LotStore.giveBack (ls : LotStore) (n u : Nat) : LotStore := (ls.onLot n fun l => l.giveBack u).freeTest n

/-- A posted record's count taken from its lot, and the freeing test (R18). -/
def LotStore.posted (ls : LotStore) (n : Nat) : LotStore :=
  (ls.onLot n fun l => { l with pendingCount := l.pendingCount - 1 }).freeTest n

/-! ## Trains (R8 to R15) -/

/-- The state of a train, if it has a record. -/
def LotStore.trainState (ls : LotStore) (t : Nat) : Option TrainState := (ls.trains.get t).map (·.state)

/-- The first lot of a list that fails a test. -/
def firstFailing (ok : Nat → Bool) (ns : List Nat) : Option Nat := ns.find? fun n => !ok n

/-- Lots of a list given to a train, at places counted from `place` (R9 step 2). -/
def LotStore.giveLots (ls : LotStore) (t : Nat) : List Nat → Nat → LotStore
  | [], _ => ls
  | n :: ns, place =>
    LotStore.giveLots (ls.onLot n fun l => { l with state := .announced, train := some t, place := some place }) t ns
      (place + 1)

/-- ANNOUNCE TRAIN taken (R9). -/
def LotStore.announce (ls : LotStore) (t trolleys : Nat) (ns : List Nat) : LotStore :=
  let ls1 : LotStore :=
    { ls with trains := ls.trains.put t { trolleys := trolleys, lots := ns, state := .announced, sec := none } }
  let ls2 := ls1.giveLots t ns 1
  { ls2 with queue := ls2.queue ++ [t] }

/-- Lots of a list returned to DECLARED (R10 step 2). -/
def LotStore.takeLots (ls : LotStore) : List Nat → LotStore
  | [] => ls
  | n :: ns => LotStore.takeLots (ls.onLot n fun l => { l with state := .declared, train := none, place := none }) ns

/-- CANCEL TRAIN taken (R10). -/
def LotStore.cancel (ls : LotStore) (t : Nat) (tr : Train) : LotStore :=
  let ls1 := ({ ls with queue := ls.queue.filter (· ≠ t) } : LotStore).takeLots tr.lots
  { ls1 with trains := ls1.trains.erase t }

/-- A train moved to the head of the queue (R15). -/
def LotStore.toHead (ls : LotStore) (t : Nat) : LotStore := { ls with queue := t :: ls.queue.filter (· ≠ t) }

/-- Outcomes of the admission decision (R26). -/
inductive Admission where
  | admitted | misorder | unknown
  deriving DecidableEq, Repr

/-- The admission decision: the tag compared with the queue as it stands (R26). -/
def LotStore.admission (ls : LotStore) (tag : Nat) : Admission :=
  if ls.trainState tag = some .announced then
    if ls.queue.head? = some tag then .admitted else .misorder
  else .unknown

/-- A train admitted: it leaves the queue and is ON_RAIL at INTAKE (R11). -/
def LotStore.admitTrain (ls : LotStore) (t : Nat) : LotStore :=
  ({ ls with queue := ls.queue.filter (· ≠ t) } : LotStore).onTrain t fun r => { r with state := .onRail, sec := some 0 }

/-- A train held MISORDER at INTAKE, its queue place kept (R11). -/
def LotStore.misorder (ls : LotStore) (t : Nat) : LotStore :=
  ls.onTrain t fun r => { r with state := .misorder, sec := some 0 }

/-- A MISORDER train ejected: ANNOUNCED again at its queue place (R11). -/
def LotStore.ejected (ls : LotStore) (t : Nat) : LotStore :=
  ls.onTrain t fun r => if r.state = .misorder then { r with state := .announced, sec := none } else r

/-- A train recorded at a section, LEAVING where the section is DISPATCH (R11, R12). -/
def LotStore.placed (ls : LotStore) (t : Nat) (k : Sec) : LotStore :=
  ls.onTrain t fun r => if k = 6 then { r with state := .leaving, sec := some k } else { r with sec := some k }

/-- The presentation of a train: PRESENTED at PRESENT, and its ANNOUNCED lots WAITING (R4). -/
def LotStore.present (ls : LotStore) (t : Nat) : LotStore :=
  let ls1 := ls.onTrain t fun r => { r with state := .presented, sec := some 5 }
  { ls1 with lots := ls1.lots.mapAll fun _ l =>
      if l.train = some t ∧ l.state = .announced then { l with state := .waiting } else l }

/-- The lots of a departed train, in place order: freed at pending count 0, otherwise kept with train and place absent
(R13). -/
def LotStore.releaseLots (ls : LotStore) : List Nat → LotStore
  | [] => ls
  | n :: ns =>
    let ls1 := match ls.lots.get n with
      | some l =>
        if l.pendingCount = 0 then { ls with lots := ls.lots.erase n }
        else ls.onLot n fun r => { r with train := none, place := none }
      | none => ls
    LotStore.releaseLots ls1 ns

/-- The departure of a train (R13). -/
def LotStore.depart (ls : LotStore) (t : Nat) : LotStore :=
  match ls.trains.get t with
  | some tr =>
    let ls1 := ls.releaseLots tr.lots
    { ls1 with trains := ls1.trains.erase t }
  | none => ls

end Sys2Proof.Machine
end

