-- ==== Sys2Proof/Machine/RailOps.lean ====
section
/-!
DEFINITION. The Rail Controller's own operations (chapter 2): stalls, gate operations, eligibility, the move arbiter and
the hold. Each works on the rail and the Drive Unit alone, reads the Lot Store, and notes the yard events it raises.
-/

namespace Sys2Proof.Machine

/-- What a rail operation works on: the rail, the Drive Unit, and the yard event kinds raised so far (as bits of the
yard port's image). -/
structure RailWork where
  rail   : Rail
  drive  : Drive
  raised : Byte
  deriving DecidableEq, Repr

/-! ## Sections -/

/-- A change of one section record. -/
def Rail.onSec (r : Rail) (k : Sec) (f : SecRec → SecRec) : Rail := { r with secs := r.secs.set k (f r.secs[k]) }

/-- A section made CLEAR; at INTAKE the unknown tag goes too, and a pending eject is dropped (R24, R28). -/
def Rail.clearSec (r : Rail) (k : Sec) : Rail :=
  let r1 := r.onSec k fun x => { x with cond := .clear, occupant := none }
  if k = 0 then { r1 with unknownTag := none, ejectPending := false } else r1

/-- A section made OCCUPIED by `t`. -/
def Rail.occupy (r : Rail) (k : Sec) (t : Option Nat) : Rail :=
  r.onSec k fun x => { x with cond := .occupied, occupant := t }

/-- A section made OCCUPIED by the occupant it keeps. -/
def Rail.reoccupy (r : Rail) (k : Sec) : Rail := r.onSec k fun x => { x with cond := .occupied }

/-- A section made BLOCKED, with the occupant it keeps. -/
def Rail.block (r : Rail) (k : Sec) : Rail := r.onSec k fun x => { x with cond := .blocked }

/-- A section made BLOCKED with occupant `t`. -/
def Rail.blockWith (r : Rail) (k : Sec) (t : Option Nat) : Rail :=
  r.onSec k fun x => { x with cond := .blocked, occupant := t }

/-- Whether the occupant of a section is a train in state `st`. -/
def Rail.holdsTrain (r : Rail) (ls : LotStore) (k : Sec) (st : TrainState) : Bool :=
  match r.secs[k].occupant with
  | some t => ls.trainState t = some st
  | none => false

/-! ## Moves in flight -/

/-- The channels of a move: D(k) and D(k+1) of a forward move, D0 of an eject (R29, R30). -/
def Move.chans (m : Move) : List Chan :=
  match m.dest with
  | .sec b => [m.source.castSucc, b.castSucc]
  | .out => [m.source.castSucc]

/-- Whether a section is the from-section or the to-section of a move. -/
def Move.touches (m : Move) (k : Sec) : Bool := m.source = k || m.dest = .sec k

/-- The supply slots, in order. -/
def allSlots : List (Fin 3) := [0, 1, 2]

/-- The first slot whose move meets a test. -/
def Rail.findSlot (r : Rail) (p : Move → Bool) : Option (Fin 3) :=
  allSlots.find? fun i => match r.slots[i] with
    | some m => p m
    | none => false

/-- The lowest-numbered free supply slot (R31). -/
def Rail.freeSlot (r : Rail) : Option (Fin 3) := allSlots.find? fun i => r.slots[i].isNone

/-- The slot of the move in flight at a section. The moves in flight share no section (R31). -/
def Rail.slotAt (r : Rail) (k : Sec) : Option (Fin 3) := r.findSlot fun m => m.touches k

/-- The slot of the move in flight that runs a channel. -/
def Rail.slotOfChan (r : Rail) (c : Chan) : Option (Fin 3) := r.findSlot fun m => m.chans.contains c

/-- The slot of an eject in flight. -/
def Rail.ejectSlot (r : Rail) : Option (Fin 3) := r.findSlot fun m => m.dest = .out

/-- Whether a move is in flight. -/
def Rail.moving (r : Rail) : Bool := (r.findSlot fun _ => true).isSome

/-- Whether a gate operation is in flight (R35). -/
def Rail.gateMoving (r : Rail) : Bool := r.gate = .opening || r.gate = .closing

/-- A move removed and its slot freed. -/
def Rail.freeMove (r : Rail) (i : Fin 3) : Rail := { r with slots := r.slots.set i none }

/-! ## Requests to the Drive Unit -/

/-- Stop requests to a list of channels (R59). -/
def RailWork.haltAll (w : RailWork) : List Chan → RailWork
  | [] => w
  | c :: cs => RailWork.haltAll { w with drive := w.drive.halt c } cs

/-- Energise requests in one direction to a list of channels, and whether every one was accepted (R32, R57). -/
def RailWork.energiseAll (w : RailWork) (dir : Dir) : List Chan → RailWork × Bool
  | [] => (w, true)
  | c :: cs =>
    let e := w.drive.energise c dir
    let r := RailWork.energiseAll { w with drive := e.1 } dir cs
    (r.1, e.2 && r.2)

/-- A yard event noted. -/
def RailWork.note (w : RailWork) (e : Event) : RailWork := { w with raised := w.raised ||| e.mask }

/-- A change of the rail alone. -/
def RailWork.onRail (w : RailWork) (f : Rail → Rail) : RailWork := { w with rail := f w.rail }

/-! ## Stalls (R43 to R46) -/

/-- A stall record added, and STALL raised. -/
def RailWork.addStall (w : RailWork) (k : Sec) (st : Stall) : RailWork :=
  (w.onRail fun r => { r with stalls := r.stalls.set k (some st) }).note .stall

/-- A move in flight stalled (R43 steps 1 to 5): its channels stopped, its sections BLOCKED, a stall record added, STALL
raised, and its slot freed. -/
def RailWork.stallMove (w : RailWork) (i : Fin 3) (cause : Cause) : RailWork :=
  match w.rail.slots[i] with
  | none => w
  | some m =>
    let w1 := w.haltAll m.chans
    let w2 := w1.onRail fun r => match m.dest with
      | .sec b => (r.blockWith m.source m.train).blockWith b none
      | .out => r.block m.source
    let w3 := w2.addStall m.source { train := m.train, dest := some m.dest, cause := cause }
    w3.onRail fun r => r.freeMove i

/-- A gate operation stalled (R44 steps 1 to 5). -/
def RailWork.stallGate (w : RailWork) (cause : Cause) : RailWork :=
  let w1 := w.haltAll [7]
  let w2 := w1.onRail fun r =>
    ({ r with gate := .unknown, gateTimer := none, confirmTimer := none } : Rail).block 5
  w2.addStall 5 { train := w.rail.secs[(5 : Sec)].occupant, dest := none, cause := cause }

/-- A lone unexpected edge (R45): the section BLOCKED with what it keeps, a record with cause SENSOR, STALL raised and, at
INTAKE, the admission wait abandoned (DEDUCED, log entry 12). -/
def RailWork.stallEdge (w : RailWork) (k : Sec) : RailWork :=
  let w1 := w.onRail fun r =>
    let r1 := r.block k
    if k = 0 then { r1 with adm := .idle, heldTag := none, admTimer := none } else r1
  w1.addStall k { train := w.rail.secs[k].occupant, dest := none, cause := .sensor }

/-- Whether a stall record names a section: as its from-section or as its to-section (R46). -/
def Rail.stallNames (r : Rail) (k : Sec) : Bool :=
  r.stalls[k].isSome || r.stalls.toList.any fun st => match st with
    | some x => x.dest = some (.sec k)
    | none => false

/-- A stall record taken from the list. -/
def Rail.dropStall (r : Rail) (k : Sec) : Rail := { r with stalls := r.stalls.set k none }

/-! ## The gate (R36, R37) -/

/-- The wanted position: OPEN while PRESENT is OCCUPIED by a DONE train, and CLOSED otherwise (R36). -/
def Rail.wanted (r : Rail) (ls : LotStore) : GatePos :=
  if r.secs[(5 : Sec)].cond = .occupied ∧ r.holdsTrain ls 5 .done then .opened else .closed

/-- The conditions of R36 on a gate operation toward the wanted position, but for the hold. -/
def Rail.gateDue (r : Rail) (ls : LotStore) : Bool :=
  r.gate ≠ r.wanted ls && !r.gateMoving && r.secs[(5 : Sec)].cond ≠ .blocked && (r.slotAt 5).isNone

/-- The timers that start with a gate operation: the gate time, and the gate time plus 2.0 s (R37). -/
def Rail.startGateTimers (r : Rail) : Rail :=
  { r with gateTimer := some (r.gateTime * Config.perMs),
           confirmTimer := some (r.gateTime * Config.perMs + Config.confirmExtra) }

/-- A gate operation begun: an opening energises D7 FORWARD and stalls at once where D7 refuses; a closing stops D7
(R37). -/
def RailWork.beginGate (w : RailWork) (ls : LotStore) : RailWork :=
  if w.rail.wanted ls = .opened then
    let e := w.energiseAll .forward [7]
    let w1 := e.1.onRail fun r => ({ r with gate := .opening } : Rail).startGateTimers
    if e.2 then w1 else w1.stallGate .driveFault
  else (w.haltAll [7]).onRail fun r => ({ r with gate := .closing } : Rail).startGateTimers

/-- Whether the awaited sensor of the gate operation in flight is true (R37). -/
def Rail.gateSeen (r : Rail) (i : Inputs) : Bool :=
  match r.gate with
  | .opening => i.gateOpen
  | .closing => i.gateClosed
  | _ => false

/-- The completion of a gate operation: the position OPEN or CLOSED, and the confirmation timer stopped (R37). -/
def Rail.completeGate (r : Rail) : Rail :=
  match r.gate with
  | .opening => { r with gate := .opened, gateTimer := none, confirmTimer := none }
  | .closing => { r with gate := .closed, gateTimer := none, confirmTimer := none }
  | _ => r

/-! ## Eligibility and the arbiter (R28, R30, R31, R32) -/

/-- The conditions of R30 on the forward move from `a` to `b`, but for the hold. -/
def Rail.moveDue (r : Rail) (ls : LotStore) (a b : Sec) : Bool :=
  r.secs[a].cond = .occupied && (r.findSlot fun m => m.source = a).isNone &&
    (if a = 5 then r.holdsTrain ls a .done && r.gate = .opened else r.holdsTrain ls a .onRail) &&
    r.secs[b].cond = .clear && (b ≠ 5 || r.gate = .closed)

/-- The conditions of R28 on the eject, but for the hold. While an eject is pending INTAKE holds its occupant, so it is
OCCUPIED where it is not BLOCKED, and no move runs out of it (DEDUCED, log entry 20). -/
def Rail.ejectDue (r : Rail) : Bool :=
  r.ejectPending && r.secs[(0 : Sec)].cond = .occupied && (r.findSlot fun m => m.source = 0).isNone

/-- The forward moves, from-section and to-section, highest destination first (R31). -/
def forwardMoves : List (Sec × Sec) := [(5, 6), (4, 5), (3, 4), (2, 3), (1, 2), (0, 1)]

/-- The forward move that the arbiter would grant next (R31). -/
def Rail.nextMove (r : Rail) (ls : LotStore) : Option (Sec × Sec) :=
  forwardMoves.find? fun m => r.moveDue ls m.1 m.2

/-- The grant of a forward move (R32): recorded in its slot, the destination RESERVED, both channels energised FORWARD and
the limit timer started; a refusal by the Drive Unit stalls it at once. -/
def RailWork.grantMove (w : RailWork) (i : Fin 3) (a b : Sec) : RailWork :=
  let m : Move := { train := w.rail.secs[a].occupant, source := a, dest := .sec b,
                    left := w.rail.secs[b].moveLimit * Config.perTenth }
  let w1 := w.onRail fun r =>
    ({ r with slots := r.slots.set i (some m) } : Rail).onSec b fun x => { x with cond := .reserved, occupant := none }
  let e := w1.energiseAll .forward m.chans
  if e.2 then e.1 else e.1.stallMove i .driveFault

/-- The grant of an eject (R29): D0 energised REVERSE with INTAKE's limit, INTAKE left OCCUPIED. -/
def RailWork.grantEject (w : RailWork) (i : Fin 3) : RailWork :=
  let m : Move := { train := w.rail.secs[(0 : Sec)].occupant, source := 0, dest := .out,
                    left := w.rail.secs[(0 : Sec)].moveLimit * Config.perTenth }
  let w1 := w.onRail fun r => { r with slots := r.slots.set i (some m), ejectPending := false }
  let e := w1.energiseAll .reverse m.chans
  if e.2 then e.1 else e.1.stallMove i .driveFault

/-- The arbiter (R31): while a slot is free and a move is eligible, the move with the highest destination is granted to
the lowest free slot, an eject after every forward move. A grant fills a slot or stalls and blocks a section, so ten
rounds are more than can be needed (DEDUCED, log entry 22). -/
def RailWork.arbitrate (ls : LotStore) : Nat → RailWork → RailWork
  | 0, w => w
  | n + 1, w =>
    match w.rail.freeSlot with
    | none => w
    | some i =>
      match w.rail.nextMove ls with
      | some m => RailWork.arbitrate ls n (w.grantMove i m.1 m.2)
      | none => if w.rail.ejectDue then RailWork.arbitrate ls n (w.grantEject i) else w

/-- A pending hold with nothing left in flight becomes HELD with HOLD_ACK (R39). -/
def RailWork.holdTest (w : RailWork) : RailWork :=
  if w.rail.hold = .pending ∧ ¬ w.rail.moving ∧ ¬ w.rail.gateMoving then
    (w.onRail fun r => { r with hold := .held }).note .holdAck
  else w

/-- What the Rail Controller does once an event has changed a condition of eligibility: the hold is examined, then, with
no hold, the gate operation and the moves (R30, R31, R36, R39). -/
def RailWork.settle (ls : LotStore) (w : RailWork) : RailWork :=
  let w1 := w.holdTest
  if w1.rail.hold = .none then
    let w2 := if w1.rail.gateDue ls then w1.beginGate ls else w1
    RailWork.arbitrate ls 10 w2
  else w1

/-! ## What the hold keeps back (R41) -/

/-- An operation that is eligible but for the hold. -/
inductive Held where
  | move (b : Sec)
  | eject
  | gate (toward : GatePos)
  deriving DecidableEq, Repr

/-- The destinations of the forward moves that are eligible but for the hold. -/
def Rail.heldMoves (r : Rail) (ls : LotStore) : List Sec :=
  ((forwardMoves.filter fun m => r.moveDue ls m.1 m.2).map (·.2)).reverse

/-- The operations the hold keeps back: none while the hold is NONE. -/
def Rail.heldBack (r : Rail) (ls : LotStore) : List Held :=
  if r.hold = .none then []
  else (r.heldMoves ls).map .move ++ (if r.ejectDue then [.eject] else []) ++
    (if r.gateDue ls then [.gate (r.wanted ls)] else [])

/-! ## Jog and fault reports (R52, R65) -/

/-- The jog ended, its channel stopped in its stop mode (R52). -/
def RailWork.endJog (w : RailWork) : RailWork :=
  match w.rail.jog with
  | some j => (w.haltAll [j.chan]).onRail fun r => { r with jog := none }
  | none => w

/-- A jog of D4 or D5 ended because a lot has become LOADED (R42, R52). -/
def RailWork.lotLoaded (w : RailWork) : RailWork :=
  match w.rail.jog with
  | some j => if j.chan = 4 ∨ j.chan = 5 then w.endJog else w
  | none => w

/-- A fault report acted on (R65): a move of the channel stalls, a gate operation of D7 stalls, D7 outside one makes the
gate UNKNOWN, and a jog of the channel ends. FAULT is raised where the kind's report enable is on. -/
def RailWork.report (w : RailWork) (c : Chan) (k : FaultKind) : RailWork :=
  let w1 := if w.drive.reports k then w.note .fault else w
  let w2 := match w1.rail.slotOfChan c with
    | some i => w1.stallMove i .driveFault
    | none =>
      if c = 7 then
        if w1.rail.gateMoving then w1.stallGate .driveFault else w1.onRail fun r => { r with gate := .unknown }
      else w1
  match w2.rail.jog with
  | some j => if j.chan = c then w2.onRail fun r => { r with jog := none } else w2
  | none => w2

/-- The reports of the latches a list of channels holds, in channel order (R67 step 3). -/
def RailWork.reportLatched (w : RailWork) : List Chan → RailWork
  | [] => w
  | c :: cs =>
    let w1 := match w.drive.chans[c].latch with
      | some k => w.report c k
      | none => w
    RailWork.reportLatched w1 cs

/-! ## The rail within the part -/

/-- A rail operation carried out: the rail and the Drive Unit as it leaves them, and its events raised. -/
def State.onRail (s : State) (f : RailWork → RailWork) : State :=
  let w := f { rail := s.rail, drive := s.drive, raised := 0 }
  ({ s with rail := w.rail, drive := w.drive } : State).setPort .yard ((s.port .yard).raiseBits w.raised)

/-- Eligibility examined again (R30, R36). -/
def State.settle (s : State) : State := s.onRail fun w => w.settle s.lots

/-- WANT raised if an operation has become eligible but for the hold since `before` (R41). -/
def State.wantSince (s before : State) : State :=
  if (s.rail.heldBack s.lots).any fun h => !(before.rail.heldBack before.lots).contains h then s.raise .want else s

end Sys2Proof.Machine
end

