-- ==== Sys2Proof/Machine/FaceOps.lean ====
section
/-!
DEFINITION. The Face Driver's own operations (chapter 10): the face image that the records give, the phase, and the lamp
levels of a face chain pass.
-/

namespace Sys2Proof.Machine

/-! ## The image (R184 to R187) -/

/-- The entry of the current lot. -/
def State.curLot (s : State) : Option Lot :=
  match s.clock.lot with
  | some n => s.lots.lots.get n
  | none => none

/-- The RING group (R184). -/
def ringOf (c : Clock) : Option Nat := if c.state = .idle then none else some (ringIndex c.price)

/-- The PRICE group (R184): in a showing after a sale it shows the price of the lot's last sale. -/
def priceOf (c : Clock) (l : Option Lot) : PriceShow :=
  match c.state with
  | .idle => .blank
  | .showing => match c.showing with
    | some .floor => .dashes
    | some .sale => match l.bind (·.lastSale) with
      | some sale => .price sale.price
      | none => .price c.price
    | none => .price c.price
  | .loaded | .running | .contest | .halted => .price c.price

/-- The LOT group (R185). -/
def lotPanelOf (c : Clock) (l : Option Lot) : Option LotPanel :=
  if c.state = .idle then none
  else match c.lot, l with
    | some n, some e => some { lot := n, product := e.product, grower := e.grower, grade := e.grade, remaining := e.remaining }
    | _, _ => none

/-- The BUYER group (R185). -/
def buyerPanelOf (c : Clock) (l : Option Lot) : Option BuyerPanel :=
  if c.state = .showing ∧ c.showing = some .sale then
    (l.bind (·.lastSale)).map fun sale => { buyer := sale.buyer, units := sale.units }
  else none

/-- The lots of a train, in place order. -/
def LotStore.trainLots (ls : LotStore) (t : Nat) : List Nat :=
  match ls.trains.get t with
  | some tr => tr.lots
  | none => []

/-- The WAITING lots of the presented train, in place order (R186, first source). -/
def LotStore.waitingLots (ls : LotStore) : List Nat :=
  match ls.presented with
  | some tr => tr.lots.filter ls.isWaiting
  | none => []

/-- STAGE4 to INTAKE, nearest to the clock first (R186). -/
def previewSecs : List Sec := [4, 3, 2, 1, 0]

/-- The lots of the trains on the rail short of PRESENT (R186, second source). -/
def railLots (r : Rail) (ls : LotStore) : List Nat :=
  previewSecs.flatMap fun k => match r.secs[k].occupant with
    | some t => ls.trainLots t
    | none => []

/-- The lots of the queued trains; a MISORDER train counted at INTAKE is passed over (R186, third source). -/
def queueLots (r : Rail) (ls : LotStore) : List Nat :=
  ls.queue.flatMap fun t =>
    if ls.trainState t = some .misorder ∧ r.secs[(0 : Sec)].occupant = some t then [] else ls.trainLots t

/-- The PREVIEW group: the first three lots coming to the clock (R186). -/
def previewOf (r : Rail) (ls : LotStore) : List Nat := (ls.waitingLots ++ railLots r ls ++ queueLots r ls).take 3

/-- The face image that the records give as they stand (R187). -/
def State.imageNow (s : State) : FaceImage :=
  { ring := ringOf s.clock, price := priceOf s.clock s.curLot, lot := lotPanelOf s.clock s.curLot,
    buyer := buyerPanelOf s.clock s.curLot, preview := previewOf s.rail s.lots }

/-- The image formed anew within an event that changes a record it shows (R187). -/
def State.reface (s : State) : State := { s with face := { s.face with image := s.imageNow } }

/-- The displayed price of a beacon and of READ FACE: 0 while PRICE is blank, 0xFFFF while it shows dashes (R73, R195). -/
def PriceShow.coded : PriceShow → Nat
  | .blank => 0
  | .dashes => 0xFFFF
  | .price n => n

/-! ## The phase and the phase map (R182, R183) -/

/-- The phases of the face (R182), RUN 0, STOP 1, REST 2. -/
inductive FacePhase where
  | run | stop | rest
  deriving DecidableEq, Repr

/-- The phase follows the clock state (R182). -/
def phaseOf : ClockState → FacePhase
  | .running => .run
  | .contest | .showing => .stop
  | .idle | .loaded | .halted => .rest

/-- A phase's number (R183). -/
def FacePhase.idx : FacePhase → Fin 3
  | .run => 0 | .stop => 1 | .rest => 2

/-- The map's cell for a group and the current phase. -/
def mapCell (group : Fin 5) (ph : FacePhase) : Fin 15 :=
  ⟨3 * group.val + ph.idx.val, by have := group.isLt; have := ph.idx.isLt; omega⟩

/-- Whether the generator that lights a group in the current phase is on (R182). -/
def State.groupOn (s : State) (group : Fin 5) : Bool :=
  s.drive.gens[s.face.map[mapCell group (phaseOf s.clock.state)]].on

/-! ## Character cells and lamps (R181, R188, R189) -/

/-- A number in decimal, right-aligned in a field, the positions to its left blank; a value of 0 shows as a single 0 (R181). -/
def numberCells : Nat → Nat → List Cell
  | 0, _ => []
  | w + 1, n =>
    (if n < 10 then List.replicate w .dark else numberCells w (n / 10)) ++ [.digit ⟨n % 10, Nat.mod_lt _ (by omega)⟩]

/-- The PRICE group's four cells. -/
def PriceShow.cells : PriceShow → List Cell
  | .blank => List.replicate 4 .dark
  | .dashes => List.replicate 4 .dash
  | .price n => numberCells 4 n

/-- The LOT group's cells: lot number 5, product code 10, grower code 5, grade 2, units remaining 3 (R181). -/
def lotCells : Option LotPanel → List Cell
  | some l => numberCells 5 l.lot ++ numberCells 10 l.product ++ numberCells 5 l.grower ++ numberCells 2 l.grade ++
      numberCells 3 l.remaining
  | none => List.replicate 25 .dark

/-- The BUYER group's cells: buyer number 5, units 3 (R181). -/
def buyerCells : Option BuyerPanel → List Cell
  | some b => numberCells 5 b.buyer ++ numberCells 3 b.units
  | none => List.replicate 8 .dark

/-- The PREVIEW group's cells: three lot numbers of 5, left to right, the positions beyond the list blank (R181, R186). -/
def previewCells (l : List Nat) : List Cell :=
  l.flatMap (numberCells 5) ++ List.replicate (15 - 5 * l.length) .dark

/-- The cells of a group whose generator is on, and dark cells otherwise. -/
def litCells (on : Bool) (cells : List Cell) : List Cell := if on then cells else List.replicate cells.length .dark

/-- The level of the lamp at a place of the chain. -/
def Lamps.on (l : Lamps) (place : Nat) : Bool := l.lit.contains place

/-- The form of a record of levels: the places rise and lie on the chain. -/
abbrev Lamps.wf (l : Lamps) : Prop := l.lit.Pairwise (· < ·) ∧ ∀ p ∈ l.lit, p < Config.chainLength

/-- Whether a digit lights a segment. The figure 8 and the dash together are every segment of a cell (R188), so the 8 lights
every segment that the dash does not; beyond that the figures' forms are free values (log entry 13). -/
def digitLit (d : Fin 10) (j : Nat) : Bool := Config.digitLit d j || (d == 8 && !Config.dashLit j)

/-- Whether a segment is lit by what its cell shows (R181), in a face test by the figure 8 or by its dash (R188). -/
def Cell.lit : Cell → Nat → Bool
  | .dark, _ => false
  | .digit d, j => digitLit d j
  | .dash, j => Config.dashLit j
  | .test, j => digitLit 8 j || Config.dashLit j

/-- The segments that are lit by what a cell shows, in the cell's order. -/
def Cell.segments : Cell → List Nat
  | .dark => []
  | c => (List.range Config.cellSegments).filter c.lit

/-- The chain's place of segment `j` of cell `i` (R189). -/
def segmentPlace (i j : Nat) : Nat := Config.ringLamps + i * Config.cellSegments + j

/-- The lit places of a run of cells of which the first is cell `i`. -/
def cellPlaces : Nat → List Cell → List Nat
  | _, [] => []
  | i, c :: cs => c.segments.map (segmentPlace i) ++ cellPlaces (i + 1) cs

/-- The levels in a face test, without regard to image, map and generators: every lamp of RING, and in every cell the figure 8
and its dash together (R188). -/
def Lamps.testing : Lamps :=
  { lit := List.range Config.ringLamps ++ cellPlaces 0 (List.replicate Config.faceCells .test) }

/-- What the character cells show where their groups are lit, in the order of the chain: PRICE, LOT, BUYER, PREVIEW (R189). -/
def State.cellsShown (s : State) : List Cell :=
  litCells (s.groupOn 1) s.face.image.price.cells ++ litCells (s.groupOn 2) (lotCells s.face.image.lot) ++
    litCells (s.groupOn 3) (buyerCells s.face.image.buyer) ++ litCells (s.groupOn 4) (previewCells s.face.image.preview)

/-- The place of RING's lit lamp, where the group is lit. -/
def State.ringShown (s : State) : List Nat :=
  if s.groupOn 0 then s.face.image.ring.toList.filter (· < Config.ringLamps) else []

/-- The level of every lamp as the records stand (R189). -/
def State.levels (s : State) : Lamps :=
  if s.face.testTimer.isSome then Lamps.testing
  else { lit := s.ringShown ++ cellPlaces 0 (s.cellsShown.take Config.faceCells) }

/-! ## The face chain (R189) -/

/-- The levels of `x` at the first `n` places of the chain, and those of `y` at the others. -/
def Lamps.upTo (n : Nat) (x y : Lamps) : Lamps := { lit := x.lit.filter (· < n) ++ y.lit.filter (n ≤ ·) }

/-- Some further places of the pass in progress shifted out, with the levels `now` (R189). -/
def Face.shiftOut (f : Face) (places : Nat) (now : Lamps) : Face :=
  { f with carried := Lamps.upTo f.shifted f.carried now, shifted := min (f.shifted + places) Config.chainLength }

/-- The end of a pass: what is left of it is shifted out with the levels `now`, the lamps take the levels carried in it, and
the next pass begins (R189). -/
def Face.latch (f : Face) (now : Lamps) : Face :=
  { f with lamps := Lamps.upTo f.shifted f.carried now, carried := Lamps.upTo f.shifted f.carried now, shifted := 0 }

end Sys2Proof.Machine
end

