-- ==== Sys2Proof/Machine/ClockOps.lean ====
section
/-!
DEFINITION. The Clock Engine's own operations (chapter 5): changes of the clock state, loading, run segments, the showing
and the closing of a lot; and the passage of time for every timer of the part.
-/

namespace Sys2Proof.Machine

/-- A change of the clock record. -/
def State.onClock (s : State) (f : Clock → Clock) : State := { s with clock := f s.clock }

/-- A change of the Lot Store. -/
def State.onLots (s : State) (f : LotStore → LotStore) : State := { s with lots := f s.lots }

/-- The clock state and halt reason set. CLOCK is raised at each change of either (R92), and the face test ends when the
clock leaves IDLE (R188). -/
def State.setClock (s : State) (st : ClockState) (h : Option HaltReason) : State :=
  let test := if s.clock.state = .idle ∧ st ≠ .idle then none else s.face.testTimer
  let s1 : State := { s with clock := { s.clock with state := st, halt := h }, face := { s.face with testTimer := test } }
  if s.clock.state = st ∧ s.clock.halt = h then s1 else s1.raise .clock

/-! ## Loading (R93, R94) -/

/-- The auto timer's start: the auto delay in force (R112, R113). -/
def Clock.autoStart (c : Clock) : Timer := some (c.autoDelay * Config.perTenth)

/-- A lot loaded, the Lot Store having answered OK (R93). -/
def State.loadLot (s : State) (n : Nat) : State :=
  let s1 := (s.onLots fun ls => ls.load n).onRail RailWork.lotLoaded
  let price := match s1.lots.lots.get n with
    | some l => l.startPrice
    | none => 0
  let s2 := s1.onClock fun c =>
    { c with lot := some n, price := price, notedHalt := false, notedWithdraw := false, stopTime := none, stopPrice := none,
             showing := none, autoTimer := if c.auto then c.autoStart else c.autoTimer }
  s2.setClock .loaded none

/-- The first WAITING lot of the presented train loaded, if the Lot Store takes the request (R94, R110 step 5, R111). -/
def State.autoLoad (s : State) : State :=
  match s.lots.firstWaiting with
  | some n => if s.lots.loadStatus n = .ok then s.loadLot n else s
  | none => s

/-- The Rail Controller's notice that a train has been presented: acted on only in IDLE with auto mode on (R94). -/
def State.presentedNotice (s : State) : State :=
  if s.clock.state = .idle ∧ s.clock.auto then s.autoLoad else s

/-! ## Run segments (R95) -/

/-- The tick timer's load: the tick period in force (R95 step 7, R99). -/
def Clock.tickStart (c : Clock) : Timer := some (c.tickPeriod * Config.perMs)

/-- A run segment begun (R95): the lot ON_CLOCK, the segment id raised, the history seeded, stop fields and notes cleared,
the tick timer loaded, the clock RUNNING, and the beacon table emptied (R74). -/
def State.beginSegment (s : State) (kind : SegmentKind) : State :=
  let s1 := match s.clock.lot with
    | some n => s.onLots fun ls => ls.toClock n
    | none => s
  let s2 := s1.onClock fun c =>
    { c with segment := c.segment + 1, kind := kind, runTime := 0, history := [{ runTime := 0, price := c.price }],
             stopTime := none, stopPrice := none, showing := none, notedHalt := false, notedWithdraw := false,
             tickTimer := c.tickStart }
  let s3 := s2.setClock .running none
  { s3 with scan := { s3.scan with beacons := [] } }

/-! ## The showing (R105 to R108) -/

/-- SHOWING entered (R105): the tick timer stopped and the show timer started with the show time in force. -/
def State.enterShowing (s : State) (k : ShowingKind) : State :=
  (s.onClock fun c =>
    { c with showing := some k, tickTimer := none, showTimer := some (c.showTime * Config.perTenth) }).setClock .showing none

/-- The restart price: the smaller of the last sale price plus the restart raise and the start price (R107). -/
def Lot.restartPrice (l : Lot) : Nat :=
  match l.lastSale with
  | some sale => min (sale.price + l.restartRaise) l.startPrice
  | none => l.startPrice

/-- A showing ended with the clock HALTED at the restart price (R107). -/
def State.haltAfterShowing (s : State) (l : Lot) (h : HaltReason) : State :=
  (s.onClock fun c => { c with price := l.restartPrice, showing := none, notedHalt := false }).setClock .halted (some h)

/-- A showing ended with a restart (R108). -/
def State.restart (s : State) (l : Lot) : State :=
  let s1 := match s.clock.lot with
    | some n => s.onLots fun ls => ls.onLot n fun e => { e with restartsUsed := e.restartsUsed + 1 }
    | none => s
  (s1.onClock fun c => { c with price := l.restartPrice }).beginSegment .restarted

/-! ## The closing of a lot (R110) -/

/-- The current lot closed (R110): the timers stopped, the lot closed in the Lot Store, the clock IDLE at price 0, CLOSED
and CLOCK raised and, in auto mode, the next lot loaded. -/
def State.closeLot (s : State) : State :=
  let s1 := s.onClock fun c => { c with tickTimer := none, showTimer := none, autoTimer := none }
  let s2 := match s1.clock.lot with
    | some n => s1.onLots fun ls => ls.close n
    | none => s1
  let s3 := s2.onClock fun c =>
    { c with lot := none, stopTime := none, stopPrice := none, showing := none, notedHalt := false, notedWithdraw := false,
             price := 0 }
  let s4 := (s3.setClock .idle none).raise .closed
  if s4.clock.auto then s4.autoLoad else s4

/-- What follows a showing: the first row of R107 that applies. -/
def State.showingEnd (s : State) : State :=
  match s.curLot with
  | none => s.closeLot
  | some l =>
    if s.clock.notedWithdraw ∨ l.remaining = 0 ∨ s.clock.showing = some .floor then s.closeLot
    else if s.clock.notedHalt then s.haltAfterShowing l .desk
    else if l.restartsUsed = l.restartLimit then s.haltAfterShowing l .restartLimit
    else if s.logFree then s.restart l
    else s.haltAfterShowing l .logFull

/-! ## The tick (R99, R100) -/

/-- A tick taken in RUNNING: the price lowered by the descent step and the entry appended, or the floor end. -/
def State.tickTaken (s : State) (l : Lot) : State :=
  if l.floorPrice < s.clock.price then
    let price := descend s.clock.steps s.clock.price l.floorPrice
    s.onClock fun c =>
      { c with price := price, history := pushTick c.history { runTime := c.runTime, price := price },
               tickTimer := c.tickStart }
  else s.enterShowing .floor

/-! ## Time -/

/-- Whether run time counts (R97). -/
def Clock.counting (c : Clock) : Bool := c.state = .running || c.state = .contest

/-- The clock after `n` × 0.1 ms: run time counts up to its top, and the timers count down (R97). -/
def Clock.after (n : Nat) (c : Clock) : Clock :=
  { c with runTime := if c.counting then min (c.runTime + n) Config.maxRunTime else c.runTime,
           tickTimer := c.tickTimer.after n, showTimer := c.showTimer.after n, autoTimer := c.autoTimer.after n }

/-- The rail's timers after `n` × 0.1 ms. -/
def Rail.after (n : Nat) (r : Rail) : Rail :=
  { r with slots := r.slots.map fun m => m.map fun m => { m with left := m.left - n },
           gateTimer := r.gateTimer.after n, confirmTimer := r.confirmTimer.after n, admTimer := r.admTimer.after n,
           jog := r.jog.map fun j => { j with left := j.left - n } }

/-- The reversal dead times after `n` × 0.1 ms. -/
def Drive.after (n : Nat) (d : Drive) : Drive :=
  { d with chans := d.chans.map fun c => { c with deadTime := c.deadTime.after n } }

/-- The face after `n` × 0.1 ms: the pass in progress shifts out some further places with the levels `now`, how many being a
free value (R189; DESIGN CHOICE, log entry 13), and the face test counts down. -/
def Face.after (n draw : Nat) (now : Lamps) (f : Face) : Face :=
  { f.shiftOut (Config.chainShift draw n) now with testTimer := f.testTimer.after n }

/-- The part after `n` × 0.1 ms in which no event is taken (DESIGN CHOICE, log entry 4). -/
def State.elapse (n : Nat) (s : State) : State :=
  { s with clock := s.clock.after n, rail := s.rail.after n, drive := s.drive.after n,
           face := s.face.after n s.choices.draws s.levels,
           choices := { s.choices with draws := s.choices.draws + 1 } }

end Sys2Proof.Machine
end

