-- ==== Sys2Proof/Machine/ContestOps.lean ====
section
/-!
DEFINITION. Answers to seats, presses and contests (4.6, 4.7 and chapter 7).
-/

namespace Sys2Proof.Machine

/-! ## Answers (R85) -/

/-- A change of one seat record. -/
def State.onSeat (s : State) (a : SeatAddr) (f : Seat → Seat) : State :=
  { s with scan := { s.scan with seats := s.scan.seats.set a (f s.scan.seats[a]) } }

/-- An answer placed in a seat's record, in place of any pending one (R85). -/
def State.answer (s : State) (a : SeatAddr) (c : AnswerCode) (value : Nat) : State :=
  s.onSeat a fun x => { x with answer := some { code := c, value := value } }

/-! ## Press classification (R84) -/

/-- The classification of a press; a TIMED press carries its press time (R83). -/
inductive PressClass where
  | timed (t : Nat)
  | stale
  | early
  deriving DecidableEq, Repr

/-- A press handed to the Clock Engine (R83). -/
structure Press where
  seat     : SeatAddr
  buyer    : Option Nat
  quantity : Nat
  cls      : PressClass
  deriving DecidableEq, Repr

/-- The classification of a press naming beacon `n` and offset `d` (R84): the sum is formed without wrapping and clamped
to the run time as it stands. -/
def State.classify (s : State) (n : Byte) (d : Nat) : PressClass :=
  match s.scan.beacons.find? fun b => b.number = n with
  | none => .stale
  | some b =>
    if b.segment ≠ s.clock.segment then .stale
    else if ¬ b.running then .early
    else .timed (min (b.runTime + d) s.clock.runTime)

/-! ## Tests (R131, R132) -/

/-- The quantity test against the current lot as it stands (R132). -/
def State.quantityPasses (s : State) (q : Nat) : Bool :=
  match s.curLot with
  | some l => quantityOk q l.minimum l.remaining
  | none => true

/-- The buyer tests of R131: the seat is bound, and the buyer is present and ACTIVE. -/
def State.bidder (s : State) (b : Option Nat) : Option Nat :=
  match b with
  | some n => if s.accounts.isActive n then some n else none
  | none => none

/-! ## Opening and joining a contest (R131, R133, R135, R136) -/

/-- A contest opened by a valid press (R133). -/
def State.openContest (s : State) (x : Contender) : State :=
  (s.onClock fun c =>
    { c with tickTimer := none, stopTime := some c.runTime, stopPrice := some c.price, contenders := [x],
             opener := some x.seat }).setClock .contest none

/-- A press taken in RUNNING (R131). -/
def State.pressRunning (s : State) (p : Press) : State :=
  match p.cls with
  | .stale => s.answer p.seat .late 0
  | .early => s.answer p.seat .wait 0
  | .timed t =>
    match s.bidder p.buyer with
    | none => s.answer p.seat .denied 0
    | some b =>
      if s.quantityPasses p.quantity then
        s.openContest { seat := p.seat, buyer := b, quantity := p.quantity, time := t }
      else s.answer p.seat .qty 0

/-- The order of the contender list: press time, then seat number (R134). -/
def Contender.before (x y : Contender) : Bool :=
  decide (x.time < y.time) || (x.time == y.time && decide (x.seat < y.seat))

/-- A contender put in its place in press-time order (R136). -/
def insertContender (x : Contender) : List Contender → List Contender
  | [] => [x]
  | y :: ys => if x.before y then x :: y :: ys else y :: insertContender x ys

/-- A press inserted; a ninth entry is removed from the end and answered LATE (R136). -/
def State.insertPress (s : State) (x : Contender) : State :=
  let l := insertContender x s.clock.contenders
  let s1 := s.onClock fun c => { c with contenders := l.take Config.contenderCapacity }
  match l.drop Config.contenderCapacity with
  | [] => s1
  | y :: _ => s1.answer y.seat .late 0

/-- A press taken in CONTEST (R135). -/
def State.pressContest (s : State) (p : Press) : State :=
  if s.clock.contenders.any fun x => x.seat = p.seat then s
  else if s.clock.contenders.any fun x => p.buyer = some x.buyer then s
  else match p.cls with
    | .stale => s.answer p.seat .late 0
    | .early => s.answer p.seat .late 0
    | .timed t =>
      if s.clock.stopTime.any fun ts => ts < t then s.answer p.seat .late 0
      else match s.bidder p.buyer with
        | none => s.answer p.seat .denied 0
        | some b =>
          if s.quantityPasses p.quantity then
            s.insertPress { seat := p.seat, buyer := b, quantity := p.quantity, time := t }
          else s.answer p.seat .qty 0

/-- A press taken by the Clock Engine, against the clock state as it stands (R130). -/
def State.press (s : State) (p : Press) : State :=
  match s.clock.state with
  | .idle | .loaded | .halted => s.answer p.seat .wait 0
  | .showing => s.answer p.seat .late 0
  | .running => s.pressRunning p
  | .contest => s.pressContest p

/-! ## The close (R139 to R147) -/

/-- What the examination of one contender decides (R141): an answer that fails it, a credit refusal with its figures, or
the win with its units, price and amounts. -/
inductive Decision where
  | denied
  | qty
  | limit (total : Nat) (available : Int)
  | won (units price : Nat) (a : Amounts)
  deriving DecidableEq, Repr

/-- One contender examined against the lot and the buyer as they stand (R141 to R143). -/
def State.examine (s : State) (l : Lot) (x : Contender) : Decision :=
  match s.accounts.buyers.get x.buyer with
  | none => .denied
  | some b =>
    if b.state = .suspended then .denied
    else if ¬ quantityOk x.quantity l.minimum l.remaining then .qty
    else
      let u := min x.quantity l.remaining
      let p := priceAt s.clock.history x.time
      let a := amounts u l.stems p b.fee l.container
      if b.creditOk a.total then .won u p a else .limit a.total b.available

/-- LATE answered to every contender after the winner (R146 step 2). -/
def State.answerLate (s : State) : List Contender → State
  | [] => s
  | x :: xs => State.answerLate (s.answer x.seat .late 0) xs

/-- The contest's record emptied (R146 step 3, R147 step 1). -/
def State.endContest (s : State) : State := s.onClock fun c => { c with contenders := [], opener := none }

/-- The winner's record, as the Purchase Log completes it with the next sequence number (R144). -/
def purchaseOf (c : Clock) (lot : Nat) (x : Contender) (u p : Nat) (a : Amounts) (n : BitVec 32) : Purchase :=
  { seq := n, state := .pending, lot := lot, buyer := x.buyer, seat := x.seat, units := u, price := p, goods := a.goods,
    fee := a.fee, container := a.container, total := a.total, segment := c.segment, time := x.time,
    restart := c.kind = .restarted, carried := false }

/-- A close with a winner (R144 to R146). -/
def State.closeWon (s : State) (lot : Nat) (x : Contender) (after : List Contender) (u p : Nat) (a : Amounts) : State :=
  let s1 := s.append (purchaseOf s.clock lot x u p a)
  let s2 := (s1.onBuyer x.buyer fun b => b.raisePending a.total).onLots fun ls => ls.strike lot u p x.buyer
  let s3 := (s2.answer x.seat .won u).answerLate after
  (s3.endContest.enterShowing .sale).raise .sale

/-- A close with no winner (R147). -/
def State.closeNone (s : State) : State :=
  (s.endContest.setClock .running none).onClock fun c => { c with tickTimer := c.tickStart }

/-- The contenders examined in list order until one wins or all have failed (R141). -/
def State.cascade (s : State) (lot : Nat) (l : Lot) : List Contender → State
  | [] => s.closeNone
  | x :: xs =>
    match s.examine l x with
    | .denied => State.cascade (s.answer x.seat .denied 0) lot l xs
    | .qty => State.cascade (s.answer x.seat .qty 0) lot l xs
    | .limit total available =>
      State.cascade ((s.answer x.seat .limit 0).writeRefusal x.buyer total available) lot l xs
    | .won u p a => s.closeWon lot x xs u p a

/-- The close of a contest, one event of the Clock Engine (R140). -/
def State.closeContest (s : State) : State :=
  match s.clock.lot, s.curLot with
  | some n, some l => s.cascade n l s.clock.contenders
  | _, _ => s.closeNone

/-- The notice that an address is about to be polled: it closes the contest that the address opened (R76, R139). -/
def State.pollNotice (s : State) (a : SeatAddr) : State :=
  if s.clock.state = .contest ∧ s.clock.opener = some a then s.closeContest else s

end Sys2Proof.Machine
end

