-- ==== Sys2Proof/Machine/RailEvents.lean ====
section
/-!
DEFINITION. The Rail Controller's events that reach other blocks (2.2 to 2.4, 2.7): admission, arrival and presentation,
ejects, departure, and the taking of a presence edge.
-/

namespace Sys2Proof.Machine

/-- The end of an event that may have changed a condition of eligibility or a record the face shows: eligibility examined
again, WANT raised where an operation is newly held back since `before`, and the image formed anew
(R30, R36, R41, R187; DEDUCED, log entries 10 and 11). -/
def State.railDone (s before : State) : State := (s.settle.wantSince before).reface

/-- A change of the rail record alone. -/
def State.mapRail (s : State) (f : Rail → Rail) : State := { s with rail := f s.rail }

/-! ## Arrival at a section (R33, R35) -/

/-- The Clock Engine told of a presentation: it takes the notice within the event, or the notice waits, so that a command
may be taken before it (R94, R116; DESIGN CHOICE, log entry 10). -/
def State.tellClock (s : State) : State :=
  let s1 : State := { s with choices := { s.choices with late := s.choices.late.tail } }
  if s.choices.late.head? = some true then s1.onClock fun c => { c with noticeWaiting := true } else s1.presentedNotice

/-- A presentation notice that waited, taken: in IDLE with auto mode on the first WAITING lot is loaded, and otherwise it
changes nothing (R94, R116). -/
def State.takeNotice (s : State) : State :=
  let s1 := s.onClock fun c => { c with noticeWaiting := false }
  if s1.clock.state = .idle ∧ s1.clock.auto then s1.presentedNotice.railDone s else s1

/-- Presentation (R35): recorded by the Lot Store, PRESENTED raised, and the Clock Engine told. -/
def State.presentation (s : State) (t : Nat) : State := ((s.onLots fun ls => ls.present t).raise .presented).tellClock

/-- Steps 2 to 4 of R33 for a train conveyed from `a` to `b`. -/
def State.conveyed (s : State) (t : Option Nat) (a b : Sec) : State :=
  let s1 := s.mapRail fun r => (r.clearSec a).occupy b t
  match t with
  | some n =>
    let s2 := s1.onLots fun ls => ls.placed n b
    if b = 5 then s2.presentation n else s2
  | none => s1

/-- A forward move completed (R33). -/
def State.completeMove (s : State) (i : Fin 3) (m : Move) (b : Sec) : State :=
  let s1 := s.onRail fun w => w.haltAll m.chans
  (s1.conveyed m.train m.source b).mapRail fun r => r.freeMove i

/-! ## Ejects (R27, R29) -/

/-- INTAKE cleared of an ejected occupant, a MISORDER train returned to ANNOUNCED (R29 steps 2 and 3). -/
def State.intakeEmptied (s : State) : State :=
  let s1 := match s.rail.secs[(0 : Sec)].occupant with
    | some t => s.onLots fun ls => ls.ejected t
    | none => s
  s1.mapRail fun r => r.clearSec 0

/-- An eject completed (R29). -/
def State.completeEject (s : State) (i : Fin 3) (m : Move) : State :=
  ((s.onRail fun w => w.haltAll m.chans).intakeEmptied).mapRail fun r => r.freeMove i

/-- An eject pending dropped and an eject in flight ended for an occupant that is admitted: D0 stopped, the move removed,
no stall record (R27). -/
def RailWork.cutEject (w : RailWork) : RailWork :=
  let w1 := w.onRail fun r => { r with ejectPending := false }
  match w1.rail.ejectSlot with
  | some i => (w1.haltAll [0]).onRail fun r => r.freeMove i
  | none => w1

/-! ## Admission (R25 to R27) -/

/-- INTAKE recorded as holding train `t`: the unknown tag cleared, a BLOCKED section left BLOCKED with its record naming
the train (R26, R27). -/
def Rail.intakeTrain (r : Rail) (t : Nat) : Rail :=
  let cond := if r.secs[(0 : Sec)].cond = .blocked then .blocked else .occupied
  let r1 := r.onSec 0 fun x => { x with cond := cond, occupant := some t }
  { r1 with unknownTag := none,
            stalls := r1.stalls.set (0 : Sec) (r1.stalls[(0 : Sec)].map fun st => { st with train := some t }) }

/-- An eject in flight goes on for the train the occupant has become (R27). -/
def Rail.renameEject (r : Rail) (t : Nat) : Rail :=
  match r.ejectSlot with
  | some i => { r with slots := r.slots.set i (r.slots[i].map fun m => { m with train := some t }) }
  | none => r

/-- The admission wait left IDLE with no tag held (R26). -/
def Rail.endWait (r : Rail) : Rail := { r with adm := .idle, heldTag := none, admTimer := none }

/-- A train at INTAKE admitted (R11, R26, R27). -/
def State.admitAt (s : State) (t : Nat) : State :=
  (((s.onLots fun ls => ls.admitTrain t).mapRail fun r => r.intakeTrain t).onRail RailWork.cutEject).raise .admitted

/-- The admission decision made with a tag (R26). -/
def State.decideAdmission (s : State) (tag : Nat) : State :=
  let s1 := s.mapRail Rail.endWait
  match s1.lots.admission tag with
  | .admitted => s1.admitAt tag
  | .misorder =>
    ((s1.onLots fun ls => ls.misorder tag).mapRail fun r => (r.intakeTrain tag).renameEject tag).raise .misorder
  | .unknown =>
    (s1.mapRail fun r => { r.occupy 0 none with unknownTag := some tag }).raise .unknownTag

/-- Whether INTAKE is the from-section of a forward move in flight (R25). -/
def Rail.leavingIntake (r : Rail) : Bool := (r.findSlot fun m => m.source = 0 && m.dest ≠ .out).isSome

/-- A presence rise at a CLEAR INTAKE (R25). -/
def State.arrival (s : State) : State :=
  match s.rail.adm, s.rail.heldTag with
  | .waitPresence, some tag => s.decideAdmission tag
  | _, _ =>
    s.mapRail fun r => { r.occupy 0 none with adm := .waitTag, heldTag := none, admTimer := some Config.tagWait }

/-- A tag delivered by the reader (R25). -/
def State.tagTaken (s : State) (tag : Nat) : State :=
  if s.rail.adm = .waitTag then s.decideAdmission tag
  else if s.rail.secs[(0 : Sec)].cond = .clear ∨ s.rail.leavingIntake then
    s.mapRail fun r => { r with adm := .waitPresence, heldTag := some tag, admTimer := some Config.tagWait }
  else s

/-- The tag wait expired: the decision made with tag 0, or the held tag discarded (R25). -/
def State.tagWaitOver (s : State) : State :=
  if s.rail.adm = .waitTag then s.decideAdmission 0 else s.mapRail Rail.endWait

/-! ## Departure (R38) -/

/-- A train departed from DISPATCH (R38). -/
def State.departure (s : State) (t : Nat) : State :=
  ((s.onLots fun ls => ls.depart t).mapRail fun r => r.clearSec 6).raise .dispatched

/-- The LEAVING train that DISPATCH is OCCUPIED by. -/
def State.leavingTrain (s : State) : Option Nat :=
  match s.rail.secs[(6 : Sec)].occupant with
  | some t =>
    if s.rail.secs[(6 : Sec)].cond = .occupied ∧ s.lots.trainState t = some .leaving then some t else none
  | none => none

/-! ## Presence edges (R29, R33, R43, R45) -/

/-- An edge at a section of the move in slot `i`, the new level already the input's. -/
def State.moveEdge (s : State) (i : Fin 3) (m : Move) (k : Sec) (level : Bool) : State :=
  match m.dest with
  | .sec b =>
    if (k = b ∧ level) ∨ (k = m.source ∧ ¬ level) then
      if s.inputs.presence[b] ∧ ¬ s.inputs.presence[m.source] then s.completeMove i m b else s
    else s.onRail fun w => w.stallMove i .sensor
  | .out => if level then s.onRail fun w => w.stallMove i .sensor else s.completeEject i m

/-- An edge taken at a section, the new level already the input's: expected, or unexpected (R45). -/
def State.edge (s : State) (k : Sec) (level : Bool) : State :=
  match s.rail.slotAt k with
  | some i => match s.rail.slots[i] with
    | some m => s.moveEdge i m k level
    | none => s
  | none =>
    if k = 0 ∧ level ∧ s.rail.secs[k].cond = .clear then s.arrival
    else match (if k = 6 ∧ ¬ level then s.leavingTrain else none) with
      | some t => s.departure t
      | none =>
        if s.rail.secs[k].cond = .blocked then s
        else if k = 5 ∧ s.rail.gateMoving then s.onRail fun w => w.stallGate .sensor
        else s.onRail fun w => w.stallEdge k

/-! ## The reset survey (R53) -/

/-- The rail as a reset finds it: each section BLOCKED or CLEAR by its presence input, and the gate CLOSED or UNKNOWN by the
gate-closed sensor (R53). -/
def Rail.surveyed (i : Inputs) : Rail :=
  { Rail.reset with
    secs := Vector.ofFn fun k : Fin 7 =>
      { SecRec.reset with cond := if i.presence[k] then .blocked else .clear },
    gate := if i.gateClosed then .closed else .unknown }

end Sys2Proof.Machine
end

