-- ==== Sys2Proof/Machine/Reads.lean ====
section
/-!
DEFINITION. What the owners answer to the read commands: each record as it stands, in the field order of its rule and
the encoding of R195. A read changes no record.
-/

namespace Sys2Proof.Machine

/-! ## Lots and trains (R20, R21) -/

/-- A last sale record: price, buyer number, units. -/
def LastSale.bytes (x : LastSale) : Bytes := num2 x.price ++ num2 x.buyer ++ num1 x.units

/-- Every field of a lot entry, in the order of R20. -/
def Lot.bytes (n : Nat) (l : Lot) : Bytes :=
  num2 n ++ optional 2 num2 l.train ++ optional 1 num1 l.place ++ num4 l.product ++ num2 l.grower ++ num1 l.grade ++
    num1 l.unitsTotal ++ num2 l.stems ++ num1 l.minimum ++ num2 l.startPrice ++ num2 l.floorPrice ++ num2 l.restartRaise ++
    num1 l.restartLimit ++ num2 l.container ++ num1 l.state.code ++
    optional 1 (fun o : LotOutcome => num1 o.code) l.outcome ++ num1 l.remaining ++ num1 l.sold ++ num1 l.withdrawn ++
    num1 l.restartsUsed ++ num1 l.pendingCount ++ optional 5 LastSale.bytes l.lastSale

/-- READ LOT (R20). -/
def takeReadLot (n : Nat) (s : State) : Taken :=
  match s.lots.lots.get n with
  | some l => (s, Reply.done (l.bytes n))
  | none => refuse s .notFound

/-- A train's position in the announcement queue, 1 for the head. -/
def queuePosition (q : List Nat) (t : Nat) : Option Nat :=
  if q.contains t then some (q.idxOf t + 1) else none

/-- A train record, in the order of R21. -/
def Train.bytes (t : Nat) (tr : Train) (pos : Option Nat) : Bytes :=
  num2 t ++ num1 tr.trolleys ++ num1 tr.state.code ++ optional 1 (fun k : Sec => num1 k.val) tr.sec ++
    counted num2 tr.lots ++ optional 1 num1 pos

/-- READ TRAIN: the record named, or the announcement queue for train id 0 (R21). -/
def takeReadTrain (t : Nat) (s : State) : Taken :=
  if t = 0 then (s, Reply.done (counted num2 s.lots.queue))
  else match s.lots.trains.get t with
    | some tr => (s, Reply.done (tr.bytes t (queuePosition s.lots.queue t)))
    | none => refuse s .notFound

/-! ## The rail (R54) -/

/-- A time left in units of 0.1 s; the rounding between units is the open value `Config.roundsUp` (DESIGN CHOICE, log entry 7). -/
def tenthsLeft (t : Nat) : Nat :=
  t / Config.perTenth + (if t % Config.perTenth ≠ 0 ∧ Config.roundsUp t then 1 else 0)

/-- One section of READ RAIL: condition, occupant, INTAKE's unknown tag, presence level (1 for true;
DESIGN CHOICE, log entry 8) and move limit. -/
def State.secBytes (s : State) (k : Sec) : Bytes :=
  num1 s.rail.secs[k].cond.code ++ optional 2 num2 s.rail.secs[k].occupant ++
    (if k = 0 then optional 2 num2 s.rail.unknownTag else []) ++ yesNo s.inputs.presence[k] ++ num1 s.rail.secs[k].moveLimit

/-- A move in its slot: train, from-section, to-section or OUT, time left, which has no presence byte of its own beside the
slot's (DESIGN CHOICE, log entry 8). -/
def Move.bytes (m : Move) : Bytes :=
  optional 2 num2 m.train ++ num1 m.source.val ++ num1 m.dest.code ++ num1 (tenthsLeft m.left)

/-- A stall record with its from-section. -/
def Stall.bytes (k : Sec) (st : Stall) : Bytes :=
  optional 2 num2 st.train ++ num1 k.val ++ optional 1 (fun d : Dest => num1 d.code) st.dest ++ num1 st.cause.code

/-- The sections, in number order. -/
def allSecs : List Sec := [0, 1, 2, 3, 4, 5, 6]

/-- The stall list, by from-section ascending. -/
def Rail.stallList (r : Rail) : List (Sec × Stall) :=
  allSecs.filterMap fun k => (r.stalls[k]).map fun st => (k, st)

/-- The destinations of the moves held back by the hold, ascending, OUT last (R54; DEDUCED, log entry 8). -/
def Rail.heldDests (r : Rail) (ls : LotStore) : List Dest :=
  if r.hold = .none then [] else (r.heldMoves ls).map .sec ++ (if r.ejectDue then [.out] else [])

/-- A jog in flight: channel, direction, time left, which has no presence byte of its own (DESIGN CHOICE, log entry 8). -/
def Jog.bytes (j : Jog) : Bytes := num1 j.chan.val ++ num1 j.dir.code ++ num1 (tenthsLeft j.left)

/-- READ RAIL (R54). -/
def takeReadRail (s : State) : Taken :=
  let r := s.rail
  (s, Reply.done (fixed s.secBytes allSecs ++
    fixed (fun i : Fin 3 => optional 6 Move.bytes r.slots[i]) allSlots ++
    counted (fun d : Dest => num1 d.code) (r.heldDests s.lots) ++
    yesNo (r.hold ≠ .none && r.gateDue s.lots) ++ yesNo r.ejectPending ++
    counted (fun x : Sec × Stall => x.2.bytes x.1) r.stallList ++ num1 r.hold.code ++
    num1 r.gate.code ++ num1 (r.wanted s.lots).code ++ num2 r.gateTime ++ yesNo s.inputs.gateOpen ++
    yesNo s.inputs.gateClosed ++ num1 r.adm.code ++ optional 2 num2 r.heldTag ++ optional 3 Jog.bytes r.jog))

/-! ## The clock (R115, R150) -/

/-- A step table band: top and step. -/
def Band.bytes (b : Band) : Bytes := num2 b.top ++ num1 b.step

/-- READ CLOCK: the clock record, the timers, the tick history, the step table and the contest (R115, R150); auto mode is 1 for on
and 0 for off (DESIGN CHOICE, log entry 8). -/
def takeReadClock (s : State) : Taken :=
  let c := s.clock
  (s, Reply.done (num1 c.state.code ++ optional 1 (fun h : HaltReason => num1 h.code) c.halt ++ optional 2 num2 c.lot ++
    num2 c.price ++ num4 c.runTime ++ [c.segment] ++ num1 c.kind.code ++
    optional 4 num4 c.stopTime ++ optional 2 num2 c.stopPrice ++
    optional 1 (fun k : ShowingKind => num1 k.code) c.showing ++ yesNo c.notedHalt ++ yesNo c.notedWithdraw ++
    num1 c.tickPeriod ++ num1 c.showTime ++ yesNo c.auto ++ num1 c.autoDelay ++
    optional 2 num2 c.tickTimer ++ optional 4 num4 c.showTimer ++ optional 4 num4 c.autoTimer ++
    counted (fun e : TickRec => num4 e.runTime ++ num2 e.price) c.history ++ fixed Band.bytes c.steps.toList ++
    optional 1 (fun a : SeatAddr => num1 a.val) c.opener ++
    counted (fun x : Contender => num1 x.seat.val ++ num2 x.buyer ++ num1 x.quantity ++ num4 x.time) c.contenders))

/-! ## Seats (R88) -/

/-- A seat's record: link, bound buyer, quantity, answer code and value, verdict, silence count, and whether the address
is below the scan count in force. -/
def Seat.bytes (x : Seat) (polled : Bool) : Bytes :=
  num1 x.link.code ++ optional 2 num2 x.buyer ++ num1 x.quantity ++
    (match x.answer with
      | some a => num1 a.code.code ++ num1 a.value
      | none => num1 0 ++ num1 0) ++ num1 x.verdict.code ++ num1 x.silence ++ yesNo polled

/-- The scan position: an absent mark for BEACON, or the address (DEDUCED, log entry 8). -/
def ScanPos.bytes : ScanPos → Bytes
  | .beacon => optional 1 (fun a : SeatAddr => num1 a.val) none
  | .seat a => optional 1 (fun a : SeatAddr => num1 a.val) (some a)

/-- A beacon table entry. -/
def BeaconRec.bytes (b : BeaconRec) : Bytes := [b.number, b.segment] ++ num4 b.runTime ++ yesNo b.running

/-- The number of seats that meet a test, counting all 256 records. -/
def Scanner.countSeats (sc : Scanner) (p : Seat → Bool) : Nat := (sc.seats.toList.filter p).length

/-- READ SEAT: a seat's record, or the scanner's own state for address 256 (R88). -/
def takeReadSeat (a : Nat) (s : State) : Taken :=
  match index 256 a with
  | some x => (s, Reply.done (s.scan.seats[x].bytes (a < s.scan.scanCount)))
  | none =>
    if a = 256 then
      (s, Reply.done (num2 s.scan.scanCount ++ optional 2 num2 s.scan.nextCount ++ [s.scan.beaconNo] ++ s.scan.pos.bytes ++
        num2 (s.scan.countSeats fun x => x.link = .online) ++ num2 (s.scan.countSeats fun x => x.buyer.isSome) ++
        counted BeaconRec.bytes s.scan.beacons))
    else refuse s .range

/-! ## Buyers (R164, R165) -/

/-- A sum as the port sees it: 0 on the desk port (R164, R165, R178). -/
def money (p : Role) (n : Nat) : Nat := if p = .desk then 0 else n

/-- A signed sum as the port sees it. -/
def signedMoney (p : Role) (n : Int) : Int := if p = .desk then 0 else n

/-- A buyer record as the port sees it, in the order of R164. -/
def Buyer.bytes (p : Role) (n : Nat) (b : Buyer) : Bytes :=
  num2 n ++ num1 b.state.code ++ num4 (money p b.limit) ++ num4 (money p b.pendingSum) ++ num4 (money p b.owed) ++
    signed4 (signedMoney p b.available) ++ num1 (money p b.fee) ++ optional 1 (fun a : SeatAddr => num1 a.val) b.seat ++
    num4 (money p b.dayTotal) ++ num2 (money p b.dayCount)

/-- The last-refusal record as the port sees it (R165). -/
def Refused.bytes (p : Role) (x : Refused) : Bytes :=
  num2 x.buyer ++ num4 (money p x.total) ++ signed4 (signedMoney p x.available)

/-- READ BUYER: the record named, or the Account Store's own state for buyer number 0 (R164, R165). -/
def takeReadBuyer (p : Role) (n : Nat) (s : State) : Taken :=
  if n = 0 then
    (s, Reply.done (num2 s.accounts.buyers.length ++ num2 (Config.buyerCapacity - s.accounts.buyers.length) ++
      optional 10 (Refused.bytes p) s.accounts.lastRefusal))
  else match s.accounts.buyers.get n with
    | some b => (s, Reply.done (b.bytes p n))
    | none => refuse s .notFound

/-! ## The log (R177, R178) -/

/-- A purchase record as the port sees it, in the order of R167: the four amounts read as 0 on the desk port. -/
def Purchase.bytes (p : Role) (x : Purchase) : Bytes :=
  split4 x.seq ++ num1 x.state.code ++ num2 x.lot ++ num2 x.buyer ++ num1 x.seat.val ++ num1 x.units ++ num2 x.price ++
    num4 (money p x.goods) ++ num4 (money p x.fee) ++ num4 (money p x.container) ++ num4 (money p x.total) ++
    [x.segment] ++ num4 x.time ++ yesNo x.restart ++ yesNo x.carried

/-- READ LOG (R177, R178). -/
def takeReadLog (p : Role) (i n : Nat) (s : State) : Taken :=
  if n = 1 ∨ n = 2 then
    (s, Reply.done (num1 s.log.records.length ++ split4 s.log.nextSeq ++
      counted (Purchase.bytes p) ((s.log.records.drop i).take n)))
  else refuse s .range

/-! ## The face (R190) and the Drive Unit (R69) -/

/-- The fifteen cells of the phase map, in group order and, within each group, in phase order (R183). -/
def Face.mapBytes (f : Face) : Bytes := fixed (fun g : Gen => num1 g.val) f.map.toList

/-- READ FACE (R190). -/
def takeReadFace (s : State) : Taken :=
  let f := s.face
  (s, Reply.done (num1 (phaseOf s.clock.state).idx.val ++ f.mapBytes ++ optional 2 num2 f.testTimer ++
    optional 1 num1 f.image.ring ++ num2 f.image.price.coded ++
    optional 10 (fun l : LotPanel => num2 l.lot ++ num4 l.product ++ num2 l.grower ++ num1 l.grade ++ num1 l.remaining)
      f.image.lot ++
    optional 3 (fun b : BuyerPanel => num2 b.buyer ++ num1 b.units) f.image.buyer ++ counted num2 f.image.preview))

/-- A channel as READ DRIVE gives it: its record and the levels of its fault inputs (R69), 1 for an active input
(DESIGN CHOICE, log entry 8). -/
def State.chanBytes (s : State) (k : Chan) : Bytes :=
  let c := s.drive.chans[k]
  num1 c.output.code ++ num1 c.rest.code ++ optional 1 (fun d : Dir => num1 d.code) c.turn ++ num1 c.mode.code ++
    num1 c.gen.val ++ num1 c.stop.code ++ num1 (latchCode c.latch) ++ yesNo s.inputs.overcurrent[k] ++
    yesNo s.inputs.openLoad[k]

/-- The channels, in order. -/
def allChans : List Chan := [0, 1, 2, 3, 4, 5, 6, 7]

/-- A generator record: enabled, period code and duty. -/
def Generator.bytes (g : Generator) : Bytes := yesNo g.enabled ++ num1 g.period.code ++ num1 g.duty

/-- READ DRIVE (R69); a report enable is 1 for on, as SET FAULT REPORT codes it (DEDUCED, log entry 8). -/
def takeReadDrive (s : State) : Taken :=
  (s, Reply.done (fixed s.chanBytes allChans ++ yesNo s.drive.reportOvercurrent ++ yesNo s.drive.reportOpenLoad ++
    fixed Generator.bytes s.drive.gens.toList))

end Sys2Proof.Machine
end

