-- ==== Sys2Proof/Machine/AccountTakes.lean ====
section
/-!
DEFINITION. What the Account Store and the Purchase Log do when they take a command (chapters 8 and 9).
-/

namespace Sys2Proof.Machine

/-! ## Accounts (R152 to R160) -/

/-- A change of the buyer table. -/
def State.onBuyers (s : State) (f : Tbl Buyer → Tbl Buyer) : State :=
  { s with accounts := { s.accounts with buyers := f s.accounts.buyers } }

/-- OPEN ACCOUNT (R152). -/
def takeOpenAccount (n limit fee : Nat) (s : State) : Taken :=
  if n = 0 then refuse s .range
  else if (s.accounts.buyers.get n).isSome then refuse s .inUse
  else if Config.buyerCapacity ≤ s.accounts.buyers.length then refuse s .full
  else
    let b := Buyer.opened limit fee
    let s1 := s.onBuyers fun t => t.put n b
    (s1, Reply.done (num4 b.limit ++ num1 b.fee ++ num2 (Config.buyerCapacity - s1.accounts.buyers.length)))

/-- CLOSE ACCOUNT (R153): refused with STATE, and the three values, while pending, owed or the seat field stands. The seat is
sent as an optional field, a presence byte and the address or 0 (DESIGN CHOICE, log entry 8). -/
def takeCloseAccount (n : Nat) (s : State) : Taken :=
  match s.accounts.buyers.get n with
  | none => refuse s .notFound
  | some b =>
    if 0 < b.pendingSum ∨ 0 < b.owed ∨ b.seat.isSome then
      (s, { status := .state,
            payload := num4 b.pendingSum ++ num4 b.owed ++ optional 1 (fun a : SeatAddr => num1 a.val) b.seat })
    else (s.onBuyers fun t => t.erase n, Reply.done (num4 b.dayTotal ++ num2 b.dayCount))

/-- SET LIMIT (R154). -/
def takeSetLimit (n limit : Nat) (s : State) : Taken :=
  match s.accounts.buyers.get n with
  | none => refuse s .notFound
  | some b =>
    let b' := { b with limit := min limit Config.maxLimit }
    (s.onBuyer n fun r => { r with limit := min limit Config.maxLimit }, Reply.done (num4 b'.limit ++ signed4 b'.available))

/-- SET FEE (R155). -/
def takeSetFee (n fee : Nat) (s : State) : Taken :=
  match s.accounts.buyers.get n with
  | none => refuse s .notFound
  | some _ =>
    (s.onBuyer n fun r => { r with fee := min fee Config.maxFee }, Reply.done (num1 (min fee Config.maxFee)))

/-- SUSPEND and REINSTATE: the state set, and the reply carries it (R156). -/
def takeBuyerState (n : Nat) (st : BuyerState) (s : State) : Taken :=
  match s.accounts.buyers.get n with
  | none => refuse s .notFound
  | some _ => (s.onBuyer n fun r => { r with state := st }, Reply.done (num1 st.code))

/-- PAYMENT (R159): applied to owed alone. -/
def takePayment (n amount : Nat) (s : State) : Taken :=
  match s.accounts.buyers.get n with
  | none => refuse s .notFound
  | some b =>
    let applied := min amount b.owed
    (s.onBuyer n fun r => { r with owed := r.owed - applied },
      Reply.done (num4 applied ++ num4 (amount - applied) ++ num4 (b.owed - applied)))

/-- DAY CLOSE (R160). -/
def takeDayClose (n : Nat) (s : State) : Taken :=
  match s.accounts.buyers.get n with
  | none => refuse s .notFound
  | some b =>
    (s.onBuyer n fun r => { r with dayTotal := 0, dayCount := 0 }, Reply.done (num4 b.dayTotal ++ num2 b.dayCount))

/-! ## Settlement (R172 to R175) -/

/-- The sums and counts of a posted record moved (R173 steps 1 and 2); a VOID record moves none (R174), and a carried one
reaches no lot (R179). -/
def State.settleRecord (s : State) (r : Purchase) : State :=
  match r.state with
  | .void => s
  | .pending =>
    let s1 := s.onBuyer r.buyer fun b => b.posted r.total
    if r.carried then s1 else s1.onLots fun ls => ls.posted r.lot

/-- POST (R172 to R174). -/
def takePost (n : BitVec 32) (s : State) : Taken :=
  match s.log.records with
  | [] => refuse s .notFound
  | r :: _ =>
    if n ≠ r.seq then (s, { status := .order, payload := split4 r.seq })
    else ((s.settleRecord r).dropHead.reface, Reply.done (r.bytes .accounts))

/-- The units and the money of a voided record returned (R175 steps 1 to 3). -/
def State.voidRecord (s : State) (r : Purchase) : State :=
  let s1 := ({ s with log := s.log.markVoid r.seq } : State).onBuyer r.buyer fun b => b.lowerPending r.total
  if r.carried then s1 else s1.onLots fun ls => ls.giveBack r.lot r.units

/-- VOID (R175): the reply carries the sequence number, lot, buyer, units, and whether a lot was reached. -/
def takeVoid (n : BitVec 32) (s : State) : Taken :=
  match s.log.find n with
  | none => refuse s .notFound
  | some r =>
    match r.state with
    | .void => refuse s .state
    | .pending =>
      ((s.voidRecord r).reface,
        Reply.done (split4 r.seq ++ num2 r.lot ++ num2 r.buyer ++ num1 r.units ++ yesNo (!r.carried)))

end Sys2Proof.Machine
end

