-- ==== Sys2Proof/Machine/ClockTakes.lean ====
section
/-!
DEFINITION. What the Clock Engine does when it takes a desk command (chapter 5, and STEP TABLE of 6.1).
-/

namespace Sys2Proof.Machine

/-- Whether the clock descends or gathers contenders: RUNNING or CONTEST. -/
def Clock.busy (c : Clock) : Bool := c.state = .running || c.state = .contest

/-- LOAD (R93): BUSY in RUNNING, CONTEST, SHOWING and HALTED, and otherwise the Lot Store's answer (R5). The reply carries
the lot number and the price. -/
def takeLoad (n : Nat) (s : State) : Taken :=
  match s.clock.state with
  | .running | .contest | .showing | .halted => refuse s .busy
  | .idle | .loaded =>
    if s.lots.loadStatus n = .ok then
      let t := (s.loadLot n).railDone s
      (t, Reply.done (num2 n ++ num2 t.clock.price))
    else refuse s (s.lots.loadStatus n)

/-- START (R96). -/
def takeStart (s : State) : Taken :=
  match s.clock.state with
  | .running | .contest | .showing => refuse s .busy
  | .idle | .halted => refuse s .state
  | .loaded =>
    if s.logFree then
      (((s.onClock fun c => { c with autoTimer := none }).beginSegment .first).reface, Reply.done [])
    else refuse s .full

/-- HALT (R102). -/
def takeHalt (s : State) : Taken :=
  match s.clock.state with
  | .running => (((s.onClock fun c => { c with tickTimer := none }).setClock .halted (some .desk)).reface, Reply.done [])
  | .showing => (s.onClock fun c => { c with notedHalt := true }, Reply.done [])
  | .contest => refuse s .busy
  | .idle | .loaded | .halted => refuse s .state

/-- RESUME (R103). -/
def takeResume (s : State) : Taken :=
  match s.clock.state with
  | .halted => if s.logFree then ((s.beginSegment .restarted).reface, Reply.done []) else refuse s .full
  | .idle | .loaded => refuse s .state
  | .running | .contest | .showing => refuse s .busy

/-- The current lot's number, as a reply carries it. -/
def State.lotNumber (s : State) : Bytes := num2 (s.clock.lot.getD 0)

/-- The outcome with which the current lot closes at once (R7), as a reply carries it. -/
def State.closingOutcome (s : State) : Bytes :=
  match s.curLot with
  | some l => num1 l.outcomeOf.code
  | none => []

/-- WITHDRAW (R109): at once in LOADED, RUNNING and HALTED, noted in SHOWING. The reply carries the lot number and, for a
lot closed at once, its outcome. -/
def takeWithdraw (s : State) : Taken :=
  match s.clock.state with
  | .loaded | .running | .halted => (s.closeLot.railDone s, Reply.done (s.lotNumber ++ s.closingOutcome))
  | .showing => (s.onClock fun c => { c with notedWithdraw := true }, Reply.done s.lotNumber)
  | .contest => refuse s .busy
  | .idle => refuse s .state

/-- The price SET PRICE stores: clamped into the current lot's floor price..start price (R104). -/
def State.priceSet (s : State) (price : Nat) : Nat :=
  match s.curLot with
  | some l => clamp l.floorPrice l.startPrice price
  | none => s.clock.price

/-- SET PRICE (R104). -/
def takeSetPrice (price : Nat) (s : State) : Taken :=
  match s.clock.state with
  | .loaded | .halted =>
    ((s.onClock fun c => { c with price := s.priceSet price }).reface, Reply.done (num2 (s.priceSet price)))
  | .idle | .running | .contest | .showing => refuse s .state

/-- TICK: clamped into 2..250 ms (R101). -/
def takeTick (period : Nat) (s : State) : Taken :=
  (s.onClock fun c => { c with tickPeriod := clamp 2 250 period }, Reply.done (num1 (clamp 2 250 period)))

/-- SHOW: clamped into 0.5..10.0 s (R105). -/
def takeShow (time : Nat) (s : State) : Taken :=
  (s.onClock fun c => { c with showTime := clamp 5 100 time }, Reply.done [])

/-- AUTO on, from off (R111). -/
def State.autoOn (s : State) : State :=
  let s1 := s.onClock fun c => { c with auto := true }
  match s.clock.state with
  | .idle => s1.autoLoad.railDone s
  | .loaded => s1.onClock fun c => { c with autoTimer := c.autoStart }
  | .running | .contest | .showing | .halted => s1

/-- AUTO off, from on (R111). -/
def State.autoOff (s : State) : State := s.onClock fun c => { c with auto := false, autoTimer := none }

/-- AUTO (R111): any value but 0 is on (R197). The reply sends the mode as 1 for on and 0 for off (DESIGN CHOICE, log entry
8). -/
def takeAuto (value : Byte) (s : State) : Taken :=
  let on := looseOnOf value
  let t := if on = s.clock.auto then s else if on then s.autoOn else s.autoOff
  (t, Reply.done (yesNo t.clock.auto))

/-- AUTO DELAY: clamped into 0.0..25.5 s (R113). -/
def takeAutoDelay (delay : Nat) (s : State) : Taken :=
  (s.onClock fun c => { c with autoDelay := clamp 0 255 delay }, Reply.done [])

/-! ## The step table (R117, R118) -/

/-- The bands of a payload, a step of 0 clamped to 1 (R118). -/
def BandDecl.band (b : BandDecl) : Band := { top := b.top.toNat, step := max 1 b.step.toNat }

/-- The first band of a list, counted from `k`, that a test fails. -/
def firstBand (bad : Band → Bool) : List Band → Nat → Option Nat
  | [], _ => none
  | b :: bs, k => if bad b then some k else firstBand bad bs (k + 1)

/-- The first band, counted from `k`, whose top is below the top of the band before it. -/
def firstDrop : List Band → Nat → Option Nat
  | a :: b :: bs, k => if b.top < a.top then some (k + 1) else firstDrop (b :: bs) (k + 1)
  | _, _ => none

/-- The tests of STEP TABLE in their order: the number of the band that fails the first test that fails (R118). -/
def bandFailure (bs : Vector Band 8) : Option Nat :=
  match firstBand (fun b => decide (b.top = 0 ∨ 9999 < b.top)) bs.toList 1 with
  | some k => some k
  | none =>
    match firstDrop bs.toList 1 with
    | some k => some k
    | none => if bs[7].top = 9999 then none else some 8

/-- Eight bands, if a list holds eight. -/
def eightBands (bs : List BandDecl) : Option (Vector Band 8) :=
  if h : (bs.map BandDecl.band).toArray.size = 8 then some ⟨(bs.map BandDecl.band).toArray, h⟩ else none

/-- STEP TABLE (R118). A list of other than eight bands spells no frame of the command. -/
def takeStepTable (bands : List BandDecl) (s : State) : Taken :=
  match eightBands bands with
  | none => refuse s .length
  | some bs =>
    if s.clock.busy then refuse s .busy
    else match bandFailure bs with
      | some k => (s, { status := .range, payload := num1 k })
      | none => (s.onClock fun c => { c with steps := bs }, Reply.done (fixed Band.bytes bs.toList))

end Sys2Proof.Machine
end

