-- ==== Sys2Proof/Machine/DriveTakes.lean ====
section
/-!
DEFINITION. What the Drive Unit does when it takes a command (3.1, 3.3, 3.4).
-/

namespace Sys2Proof.Machine

/-- SET CHANNEL (R56): the three fields written, and the channel's reply in the form of READ DRIVE. -/
def takeSetChannel (channel mode generator stop : Byte) (s : State) : Taken :=
  match chanOf channel, driveModeOf mode, genOf generator, stopModeOf stop with
  | some c, some m, some g, some st =>
    let chan := { s.drive.chans[c] with mode := m, gen := g, stop := st }
    let s1 : State := { s with drive := { s.drive with chans := s.drive.chans.set c chan } }
    (s1, Reply.done (s1.chanBytes c))
  | _, _, _, _ => refuse s .range

/-- SET FAULT REPORT (R65). -/
def takeSetFaultReport (overcurrent openLoad : Byte) (s : State) : Taken :=
  match onOffOf overcurrent, onOffOf openLoad with
  | some a, some b => ({ s with drive := { s.drive with reportOvercurrent := a, reportOpenLoad := b } }, Reply.done [])
  | _, _ => refuse s .range

/-- CLEAR DRIVE FAULTS (R67): every latch cleared and every channel examined, each latch set reported, and the latches
as they stand returned. -/
def takeClearDriveFaults (s : State) : Taken :=
  let s1 : State := { s with drive := s.drive.relatchAll s.inputs }
  let s2 := s1.onRail fun w => w.reportLatched allChans
  (s2.railDone s, Reply.done (fixed (fun k : Chan => num1 (latchCode s1.drive.chans[k].latch)) allChans))

/-- SET GENERATOR (R62). -/
def takeSetGenerator (generator enable period duty : Byte) (s : State) : Taken :=
  match genOf generator, periodOf period with
  | some g, some pd =>
    let g' := s.drive.gens[g].write (looseOnOf enable) pd duty.toNat
    ({ s with drive := { s.drive with gens := s.drive.gens.set g g' } }, Reply.done g'.bytes)
  | _, _ => refuse s .range

end Sys2Proof.Machine
end

