-- ==== Sys2Proof/Machine/LotTakes.lean ====
section
/-!
DEFINITION. What the Lot Store does when it takes a command (1.2, 1.4, 1.5).
-/

namespace Sys2Proof.Machine

/-- DECLARE LOT (R2). -/
def takeDeclareLot (d : LotDecl) (s : State) : Taken :=
  let n := d.lot.toNat
  if ¬ LotDecl.inRange d then refuse s .range
  else if (s.lots.lots.get n).isSome then refuse s .inUse
  else if Config.lotCapacity ≤ s.lots.lots.length then refuse s .full
  else
    let s1 := s.onLots fun ls => { ls with lots := ls.lots.put n (Lot.ofDecl d) }
    (s1.reface, Reply.done (num1 (Config.lotCapacity - s1.lots.lots.length)))

/-- DROP LOT (R3). -/
def takeDropLot (n : Nat) (s : State) : Taken :=
  match s.lots.lots.get n with
  | none => refuse s .notFound
  | some l =>
    if l.state ≠ .declared then refuse s .state
    else ((s.onLots fun ls => { ls with lots := ls.lots.erase n }).reface, Reply.done [])

/-- Whether a lot of the table is DECLARED. -/
def LotStore.isDeclared (ls : LotStore) (n : Nat) : Bool :=
  match ls.lots.get n with
  | some l => l.state = .declared
  | none => false

/-- The admission decision made anew for an unknown occupant whose tag has just been announced (R9, R27). -/
def State.announcedTag (s : State) (t : Nat) : State :=
  if s.rail.unknownTag = some t then s.decideAdmission t else s

/-- ANNOUNCE TRAIN (R9). -/
def takeAnnounceTrain (t trolleys : Nat) (ns : List Nat) (s : State) : Taken :=
  if ns.length = 0 ∨ Config.trainLots < ns.length then refuse s .length
  else if t = 0 ∨ trolleys = 0 ∨ 6 < trolleys ∨ ¬ ns.Nodup then refuse s .range
  else if (s.lots.trains.get t).isSome then refuse s .inUse
  else if Config.trainCapacity ≤ s.lots.trains.length then refuse s .full
  else match firstFailing (fun n => (s.lots.lots.get n).isSome) ns with
    | some n => (s, { status := .notFound, payload := num2 n })
    | none =>
      match firstFailing s.lots.isDeclared ns with
      | some n => (s, { status := .state, payload := num2 n })
      | none =>
        let s1 := s.onLots fun ls => ls.announce t trolleys ns
        ((s1.announcedTag t).railDone s, Reply.done (num1 s1.lots.queue.length))

/-- CANCEL TRAIN (R10). -/
def takeCancelTrain (t : Nat) (s : State) : Taken :=
  match s.lots.trains.get t with
  | none => refuse s .notFound
  | some tr =>
    if tr.state ≠ .announced then refuse s .state
    else ((s.onLots fun ls => ls.cancel t tr).reface, Reply.done [])

/-- REORDER (R15): an ANNOUNCED train goes to the head; a MISORDER train goes to the head and is admitted at once (R27). -/
def takeReorder (t : Nat) (s : State) : Taken :=
  match s.lots.trains.get t with
  | none => refuse s .notFound
  | some tr =>
    if tr.state = .announced then ((s.onLots fun ls => ls.toHead t).reface, Reply.done [])
    else if tr.state = .misorder then
      (((s.onLots fun ls => ls.toHead t).admitAt t).railDone s, Reply.done [])
    else refuse s .state

end Sys2Proof.Machine
end

