-- ==== Sys2Proof/Machine/RailTakes.lean ====
section
/-!
DEFINITION. What the Rail Controller does when it takes a yard command (2.2, 2.3, 2.5 to 2.8).
-/

namespace Sys2Proof.Machine

/-- Whether INTAKE is OCCUPIED by a MISORDER train or an unknown occupant (R28). -/
def State.intakeEjectable (s : State) : Bool :=
  s.rail.holdsTrain s.lots 0 .misorder || (s.rail.secs[(0 : Sec)].occupant.isNone && s.rail.unknownTag.isSome)

/-- EJECT (R28). Where INTAKE is BLOCKED and an eject pends, both refusals apply, and the manual gives no order: STATE is tested
first (DESIGN CHOICE, log entry 23). -/
def takeEject (s : State) : Taken :=
  if ¬ (s.rail.secs[(0 : Sec)].cond = .occupied ∧ s.intakeEjectable) then refuse s .state
  else if s.rail.ejectPending ∨ s.rail.ejectSlot.isSome then refuse s .busy
  else ((s.mapRail fun r => { r with ejectPending := true }).railDone s, Reply.done [])

/-- HOLD RAIL (R39): a hold from NONE pends, and is HELD at once with nothing in flight. -/
def takeHoldRail (s : State) : Taken :=
  let t := if s.rail.hold = .none then (s.mapRail fun r => { r with hold := .pending }).railDone s else s
  (t, Reply.done (num1 t.rail.hold.code))

/-- RELEASE (R40). -/
def takeRelease (s : State) : Taken :=
  if s.rail.jog.isSome then refuse s .busy
  else if s.rail.hold = .none then (s, Reply.done [])
  else ((s.mapRail fun r => { r with hold := .none }).railDone s, Reply.done [])

/-- The channels of a stalled operation: D(k) and D(k+1), D0 for an eject, D7 for a gate record (R47). -/
def Stall.chans (k : Sec) (st : Stall) : List Chan :=
  match st.dest with
  | some (.sec b) => [k.castSucc, b.castSucc]
  | some .out => [0]
  | none => [7]

/-- PRESENT after a gate record is settled: OCCUPIED with its occupant, or CLEAR if it has none (R47, R48). -/
def Rail.presentKept (r : Rail) : Rail :=
  if r.secs[(5 : Sec)].occupant.isSome then r.reoccupy 5 else r.clearSec 5

/-- RETRY (R47). An eject is pending again only for an occupant that may still be ejected (R28; DEDUCED, log entry 9). -/
def takeRetry (sec : Byte) (s : State) : Taken :=
  match secOf sec with
  | none => refuse s .range
  | some k =>
    match s.rail.stalls[k] with
    | none => refuse s .notFound
    | some st =>
      if st.cause = .gate ∨ st.cause = .sensor then refuse s .state
      else if (st.chans k).any s.drive.latched then refuse s .state
      else
        let s1 := s.mapRail fun r => r.dropStall k
        let s2 := match st.dest with
          | some (.sec b) => s1.mapRail fun r => (r.occupy k st.train).clearSec b
          | some .out => s1.mapRail fun r => { r.reoccupy k with ejectPending := s.intakeEjectable }
          | none => s1.mapRail Rail.presentKept
        (s2.railDone s, Reply.done [])

/-- RESOLVE of a forward move's record (R48). -/
def State.resolveMove (s : State) (k b : Sec) (st : Stall) (pl : Placement) : Option State :=
  match pl with
  | .atFrom =>
    if s.inputs.presence[k] ∧ ¬ s.inputs.presence[b] then
      some (s.mapRail fun r => ((r.dropStall k).occupy k st.train).clearSec b)
    else none
  | .atTo =>
    if ¬ s.inputs.presence[k] ∧ s.inputs.presence[b] then
      some ((s.mapRail fun r => r.dropStall k).conveyed st.train k b)
    else none

/-- RESOLVE of an eject's record (R48). A presence level that does not allow the placement is answered SENSOR, and AT_TO tests
it before the occupant (DESIGN CHOICE, log entry 23). -/
def State.resolveEject (s : State) (pl : Placement) : State ⊕ Status :=
  match pl with
  | .atFrom =>
    if s.inputs.presence[(0 : Sec)] then
      .inl (s.mapRail fun r => { (r.dropStall 0).reoccupy 0 with ejectPending := false })
    else .inr .sensor
  | .atTo =>
    if s.inputs.presence[(0 : Sec)] then .inr .sensor
    else if ¬ s.intakeEjectable then .inr .state
    else .inl (s.mapRail fun r => r.dropStall 0).intakeEmptied

/-- RESOLVE of a lone SENSOR record (R49). -/
def State.resolveEdge (s : State) (k : Sec) (st : Stall) (pl : Placement) : State ⊕ Status :=
  match pl with
  | .atFrom =>
    if ¬ s.inputs.presence[k] then .inr .sensor
    else match st.train with
      | some t => .inl (s.mapRail fun r => (r.dropStall k).occupy k (some t))
      | none =>
        if k = 0 then
          .inl (s.mapRail fun r => { (r.dropStall k).reoccupy k with unknownTag := some (r.unknownTag.getD 0) })
        else .inr .state
  | .atTo =>
    if s.inputs.presence[k] then .inr .sensor
    else match st.train with
      | some _ => .inr .state
      | none => .inl (s.mapRail fun r => (r.dropStall k).clearSec k)

/-- A record settled by RESOLVE, or the status that refuses it (R48, R49). -/
def State.resolveRecord (s : State) (k : Sec) (st : Stall) (pl : Placement) : State ⊕ Status :=
  match st.dest with
  | some (.sec b) => match s.resolveMove k b st pl with
    | some t => .inl t
    | none => .inr .sensor
  | some .out => s.resolveEject pl
  | none =>
    if st.cause = .sensor then s.resolveEdge k st pl
    else .inl (s.mapRail fun r => (r.dropStall k).presentKept)

/-- Whether a record names PRESENT: as its from-section or as its to-section (R42). -/
def Stall.namesPresent (k : Sec) (st : Stall) : Bool := k = 5 || st.dest = some (.sec 5)

/-- RESOLVE (R48, R49). -/
def takeResolve (sec placement : Byte) (s : State) : Taken :=
  match secOf sec, placementOf placement with
  | some k, some pl =>
    match s.rail.stalls[k] with
    | none => refuse s .notFound
    | some st =>
      if s.rail.jog.isSome then refuse s .busy
      else if st.namesPresent k ∧ s.lots.locked then refuse s .locked
      else match s.resolveRecord k st pl with
        | .inl t => (t.railDone s, Reply.done [])
        | .inr status => refuse s status
  | _, _ => refuse s .range

/-- CLEAR SECTION (R50). -/
def takeClearSection (sec : Byte) (s : State) : Taken :=
  match secOf sec with
  | none => refuse s .range
  | some k =>
    if (s.rail.slotAt k).isSome then refuse s .busy
    else if k = 5 ∧ s.lots.locked then refuse s .locked
    else if s.rail.secs[k].cond ≠ .blocked ∨ s.rail.stallNames k then refuse s .state
    else if s.inputs.presence[k] then refuse s .sensor
    else ((s.mapRail fun r => r.clearSec k).railDone s, Reply.done [])

/-- The lot lock on a jog (R42): D4, D5 and D7 while a lot is LOADED or ON_CLOCK, and D7 while PRESENT is OCCUPIED or
BLOCKED by a PRESENTED train. -/
def State.jogLocked (s : State) (c : Chan) : Bool :=
  ((c = 4 || c = 5 || c = 7) && s.lots.locked) || (c = 7 && s.rail.holdsTrain s.lots 5 .presented)

/-- JOG (R51). -/
def takeJog (channel direction duration : Byte) (s : State) : Taken :=
  match chanOf channel, dirOf direction with
  | some c, some d =>
    if duration.toNat = 0 ∨ 50 < duration.toNat then refuse s .range
    else if s.jogLocked c then refuse s .locked
    else if s.rail.hold ≠ .held then refuse s .state
    else if s.drive.latched c then refuse s .state
    else if s.rail.jog.isSome then refuse s .busy
    else
      let s1 := s.onRail fun w => (w.energiseAll d [c]).1
      let s2 := s1.mapRail fun r =>
        { r with jog := some { chan := c, dir := d, left := duration.toNat * Config.perTenth },
                 gate := if c = 7 then .unknown else r.gate }
      (s2.railDone s, Reply.done [])
  | _, _ => refuse s .range

/-- SET MOVE LIMIT: clamped into 0.5..25.5 s (R34). -/
def takeSetMoveLimit (sec limit : Byte) (s : State) : Taken :=
  match secOf sec with
  | none => refuse s .range
  | some k =>
    (s.mapRail fun r => r.onSec k fun x => { x with moveLimit := clamp 5 255 limit.toNat }, Reply.done [])

/-- SET GATE TIME: clamped into 100..2550 ms (R37). -/
def takeSetGateTime (time : Byte) (s : State) : Taken :=
  (s.mapRail fun r => { r with gateTime := clamp 100 2550 (10 * time.toNat) }, Reply.done [])

end Sys2Proof.Machine
end

