-- ==== Sys2Proof/Machine/SeatTakes.lean ====
section
/-!
DEFINITION. What the Seat Scanner and the Face Driver do when they take a desk command (4.8, 10.2, 10.4).
-/

namespace Sys2Proof.Machine

/-! ## Seats (R86, R87) -/

/-- A seat's binding ended: the Account Store clears the buyer's seat field and the seat becomes unbound
(R81, R86, R87, R163). -/
def State.unbindSeat (s : State) (a : SeatAddr) (b : Nat) : State :=
  ({ s with accounts := s.accounts.clearSeat b } : State).onSeat a fun x => { x with buyer := none }

/-- The bound seats at or above an address, with their buyers. -/
def Scanner.boundFrom (sc : Scanner) (n : Nat) : List (SeatAddr × Nat) :=
  (List.finRange 256).filterMap fun a => if n ≤ a.val then (sc.seats[a].buyer).map fun b => (a, b) else none

/-- The seats of a list unbound, each with its pending answer cleared and no RELEASED placed (R86 step 2). -/
def State.unbindAll (s : State) : List (SeatAddr × Nat) → State
  | [] => s
  | (a, b) :: rest => State.unbindAll ((s.unbindSeat a b).onSeat a fun x => { x with answer := none }) rest

/-- SET SCAN COUNT (R86, R138). A value outside 8..256 in RUNNING or CONTEST meets both refusals, and the manual gives no
order: RANGE is tested first (DESIGN CHOICE, log entry 23). -/
def takeSetScanCount (n : Nat) (s : State) : Taken :=
  if n < 8 ∨ 256 < n then refuse s .range
  else if s.clock.state = .running ∨ s.clock.state = .contest then refuse s .busy
  else
    let gone := s.scan.boundFrom n
    let s1 : State := { s with scan := { s.scan with nextCount := some n } }
    (s1.unbindAll gone, Reply.done (num1 gone.length))

/-- UNBIND (R87). -/
def takeUnbind (a : Nat) (s : State) : Taken :=
  match index 256 a with
  | none => refuse s .range
  | some x =>
    match s.scan.seats[x].buyer with
    | none => refuse s .state
    | some b => ((s.unbindSeat x b).answer x .released 0, Reply.done (num2 b))

/-! ## The face (R183, R188) -/

/-- SET FACE MAP (R183). -/
def takeSetFaceMap (group phase generator : Byte) (s : State) : Taken :=
  match cellOf group phase, genOf generator with
  | some cell, some g =>
    let f := { s.face with map := s.face.map.set cell g }
    ({ s with face := f }, Reply.done f.mapBytes)
  | _, _ => refuse s .range

/-- FACE TEST (R188). -/
def takeFaceTest (s : State) : Taken :=
  if s.clock.state = .idle then
    ({ s with face := { s.face with testTimer := some Config.faceTest } }, Reply.done [])
  else refuse s .state

end Sys2Proof.Machine
end

