-- ==== Sys2Proof/Machine/PortTakes.lean ====
section
/-!
DEFINITION. The commands a port owns (11.7, 11.8), and the passing of every catalogue command to its owner (R197).
-/

namespace Sys2Proof.Machine

/-! ## The port's own commands -/

/-- A change of one port's record. -/
def State.onPort (s : State) (p : Role) (f : Port → Port) : State := s.setPort p (f (s.port p))

/-- READ EVENTS (R200): the set returned and emptied. -/
def takeReadEvents (p : Role) (s : State) : Taken :=
  (s.onPort p fun r => { r with events := 0 }, Reply.done [(s.port p).events])

/-- SET EVENT MASK (R200): a bit that names no kind on the port's role is refused with RANGE. -/
def takeSetEventMask (p : Role) (mask : Byte) (s : State) : Taken :=
  if mask &&& ~~~ kindBits p ≠ 0 then refuse s .range
  else (s.onPort p fun r => { r with mask := mask }, Reply.done [mask])

/-- CHECK (R201): check next set, the check in force kept. -/
def takeCheck (p : Role) (value : Byte) (s : State) : Taken :=
  match onOffOf value with
  | some on => (s.onPort p fun r => { r with checkNext := on }, Reply.done (yesNo on))
  | none => refuse s .range

/-- PORT RESET (R203): port reset pending until the select rise. -/
def takePortReset (p : Role) (s : State) : Taken :=
  (s.onPort p fun r => { r with resetPending := true }, Reply.done [])

/-- READ IDENTITY (R202). -/
def takeReadIdentity (s : State) : Taken :=
  (s, Reply.done (split2 Config.vendorCode ++ split2 Config.partCode ++ [Config.revision] ++ num1 s.resetCause.code))

/-! ## Passing a command to its owner (R197) -/

/-- What the owner of a catalogue command does when it takes it. An event that is no command is taken by no owner. -/
def takeCommand : Instr → State → Taken
  | .readEvents p => takeReadEvents p
  | .setEventMask p m => takeSetEventMask p m
  | .check p v => takeCheck p v
  | .portReset p => takePortReset p
  | .readIdentity _ => takeReadIdentity
  | .readLot _ n => takeReadLot n.toNat
  | .readTrain _ t => takeReadTrain t.toNat
  | .readRail _ => takeReadRail
  | .readClock _ => takeReadClock
  | .readSeat _ a => takeReadSeat a.toNat
  | .readBuyer p b => takeReadBuyer p b.toNat
  | .readFace _ => takeReadFace
  | .readDrive _ => takeReadDrive
  | .readLog p i n => takeReadLog p i.toNat n.toNat
  | .declareLot _ d => takeDeclareLot d
  | .dropLot _ n => takeDropLot n.toNat
  | .announceTrain _ t k ns => takeAnnounceTrain t.toNat k.toNat (ns.map BitVec.toNat)
  | .cancelTrain _ t => takeCancelTrain t.toNat
  | .reorder _ t => takeReorder t.toNat
  | .eject _ => takeEject
  | .holdRail _ => takeHoldRail
  | .release _ => takeRelease
  | .retry _ k => takeRetry k
  | .resolve _ k a => takeResolve k a
  | .clearSection _ k => takeClearSection k
  | .jog _ c d t => takeJog c d t
  | .setMoveLimit _ k v => takeSetMoveLimit k v
  | .setGateTime _ v => takeSetGateTime v
  | .setChannel _ c m g st => takeSetChannel c m g st
  | .setFaultReport _ a b => takeSetFaultReport a b
  | .clearDriveFaults _ => takeClearDriveFaults
  | .setGenerator _ g e c d => takeSetGenerator g e c d
  | .load _ n => takeLoad n.toNat
  | .start _ => takeStart
  | .halt _ => takeHalt
  | .resume _ => takeResume
  | .withdraw _ => takeWithdraw
  | .setPrice _ v => takeSetPrice v.toNat
  | .tick _ v => takeTick v.toNat
  | .showTime _ v => takeShow v.toNat
  | .auto _ v => takeAuto v
  | .autoDelay _ v => takeAutoDelay v.toNat
  | .stepTable _ bs => takeStepTable bs
  | .setScanCount _ n => takeSetScanCount n.toNat
  | .unbind _ a => takeUnbind a.toNat
  | .void _ q => takeVoid q
  | .setFaceMap _ g f n => takeSetFaceMap g f n
  | .faceTest _ => takeFaceTest
  | .openAccount _ b l f => takeOpenAccount b.toNat l.toNat f.toNat
  | .closeAccount _ b => takeCloseAccount b.toNat
  | .setLimit _ b l => takeSetLimit b.toNat l.toNat
  | .setFee _ b f => takeSetFee b.toNat f.toNat
  | .suspend _ b => takeBuyerState b.toNat .suspended
  | .reinstate _ b => takeBuyerState b.toNat .active
  | .payment _ b a => takePayment b.toNat a.toNat
  | .dayClose _ b => takeDayClose b.toNat
  | .post _ q => takePost q
  | .powerOnReset | .pinReset | .selectFall _ | .selectRise _ | .unknownCommand _ _ _ => fun s => refuse s .unknown
  | .presenceEdge _ _ | .tagDelivered _ | .tagWaitExpiry | .moveLimitExpiry _ => fun s => refuse s .unknown
  | .gateSensorEdge _ _ | .gateTimerExpiry | .confirmationTimerExpiry | .jogTimerExpiry => fun s => refuse s .unknown
  | .deadTimeExpiry _ | .faultAssertion _ _ | .faultRelease _ _ => fun s => refuse s .unknown
  | .generatorPeriodStart _ | .generatorOffPhase _ | .beacon | .pollSlot => fun s => refuse s .unknown
  | .replyWindowEnd _ | .tickTimerExpiry | .showTimerExpiry | .autoTimerExpiry => fun s => refuse s .unknown
  | .faceTestTimerExpiry | .faceChainLatch | .wordClocked _ _ | .frameLineError _ _ => fun s => refuse s .unknown

end Sys2Proof.Machine
end

