-- ==== Sys2Proof/WellFormed.lean ====
section
/-!
DEFINITION. Which terms of `Instr` are commands and events that can reach the part.

Most operands are well formed by their type: a payload field has the width the catalogue gives it, and an event names
a section, channel, generator or slot that exists. What is left is the lengths and the codes.
-/

namespace Sys2Proof

/-- A frame that can be called a line error: a whole frame under one of the two check settings (R194, R196). -/
def wellFormedErrorFrame (ws : List LinkWord) : Bool :=
  wholeFrame false ws || wholeFrame true ws

/-- The well-formed commands and events.

- ANNOUNCE TRAIN carries at most 30 lot numbers: 3 + 2 × 30 payload bytes is the last length within 64 (R194, R197).
- STEP TABLE carries eight bands (R118).
- UNKNOWN_COMMAND names a code outside the catalogue and a payload of at most 64 bytes (R196, R197).
- FRAME_LINE_ERROR gives the words of one whole frame. -/
def Instr.wellFormed : Instr → Bool
  | .announceTrain _ _ _ lots => decide (lots.length ≤ 30)
  | .stepTable _ bands => bands.length == 8
  | .unknownCommand _ code payload => (rolesOf code).isNone && decide (payload.length ≤ 64) && code != 0xFF
  | .frameLineError _ words => wellFormedErrorFrame words
  | _ => true

end Sys2Proof
end

