-- ==== Sys2Proof/Machine/PortOps.lean ====
section
/-!
DEFINITION. Words, frames and replies on a station port (11.2 to 11.5): what a clocked word does, how a complete frame is
verified and passed on, and how a command that arrives as a whole frame is taken.
-/

namespace Sys2Proof.Machine

/-! ## Receiving a frame (R193, R194) -/

/-- The number of words of the current frame received so far, those beyond the 64th payload word included. -/
def Port.received (r : Port) : Nat := r.frame.length + r.discarded

/-- The number the length word gives, once it has been received. -/
def Port.lengthWord (r : Port) : Option Nat :=
  match r.frame with
  | _ :: l :: _ => some l.data.toNat
  | _ => none

/-- The number of words the current frame runs to: command, length, payload and, with the check on, the check word. -/
def Port.extent (r : Port) : Option Nat := r.lengthWord.map fun l => 2 + l + r.checkNow.toNat

/-- A port with nothing of a frame received. -/
def Port.cleared (r : Port) : Port := { r with frame := [], discarded := 0, crc := 0, parityBad := false }

/-- Whether the next word of the frame is a payload word beyond the 64th, which is discarded (R194). -/
def Port.beyond (r : Port) : Bool :=
  decide (2 + Config.maxPayload ≤ r.received) && (r.lengthWord.any fun l => decide (r.received < 2 + l))

/-- Whether the next word of the frame is its check word (R194). -/
def Port.atCheck (r : Port) : Bool := r.lengthWord.any fun l => r.received = 2 + l

/-- A word taken as the next word of the frame: kept, or discarded beyond the 64th payload word. The CRC-8 runs over
every word but the check word. -/
def Port.receive (r : Port) (w : LinkWord) : Port :=
  let r0 := if r.frame = [] then r.cleared else r
  { r0 with
    frame := if r0.beyond then r0.frame else r0.frame ++ [w],
    discarded := if r0.beyond then r0.discarded + 1 else r0.discarded,
    crc := if r0.atCheck then r0.crc else crcByte r0.crc w.data,
    parityBad := r0.parityBad || !w.parityGood }

/-- A frame is complete when its last word has been received (R194). -/
def Port.complete (r : Port) : Bool := r.extent = some r.received

/-- Whether the check word of a complete frame differs from the CRC-8 of the frame (R196). -/
def Port.checkBad (r : Port) : Bool :=
  r.checkNow && (match r.frame.getLast? with
    | some w => w.data != r.crc
    | none => false)

/-! ## Replies (R195) -/

/-- The port enters REPLY with the words of a reply (R194, R195). -/
def State.giveReply (s : State) (p : Role) (x : Reply) : State :=
  s.onPort p fun r => { r with phase := .reply, replyLeft := replyWords r.checkNow x }

/-- A command taken by its owner, and its reply given (R197). -/
def State.takeOn (s : State) (p : Role) (take : State → Taken) : State := (take s).1.giveReply p (take s).2

/-! ## A complete frame (R196, R197) -/

/-- A verified frame tested in the order of R197, and passed to the owner when every test passes. -/
def State.passFrame (s : State) (p : Role) (code : Byte) (payload : List Byte) : State :=
  match rolesOf code with
  | none => s.giveReply p (Reply.bare .unknown)
  | some roles =>
    if roles.contains p then
      match decodeCommand p code payload with
      | none => s.giveReply p (Reply.bare .length)
      | some i => s.takeOn p (takeCommand i)
    else s.giveReply p (Reply.bare .notPermitted)

/-- A line error answered, and the window poisoned (R196). -/
def State.lineError (s : State) (p : Role) (st : Status) : State :=
  (s.onPort p fun r => { r with poisoned := true }).giveReply p (Reply.bare st)

/-- A complete frame verified (R196): `f` is the port as the frame's last word left it, and `s` already holds the port with
nothing of a frame received. -/
def State.frameDone (s : State) (p : Role) (f : Port) : State :=
  if f.poisoned then s.giveReply p (Reply.bare .linkError)
  else if f.parityBad || f.checkBad then s.lineError p .linkError
  else match f.frame with
    | c :: l :: rest =>
      if Config.maxPayload < l.data.toNat then s.lineError p .length
      else s.passFrame p c.data ((rest.take l.data.toNat).map LinkWord.data)
    | _ => s

/-! ## A word (R193) -/

/-- A word in phase FRAME: skipped where it is an idle word and a command word is expected, and otherwise the next word of
a frame. Data-out reads 0xFF. -/
def State.frameWord (s : State) (p : Role) (w : LinkWord) : State :=
  let r := { s.port p with out := LinkWord.idle }
  if r.frame = [] ∧ w.isIdle then s.setPort p r
  else
    let f := r.receive w
    if f.complete then (s.setPort p f.cleared).frameDone p f else s.setPort p f

/-- A word in phase REPLY: the next reply word is clocked out, and after the last the phase is FRAME again. -/
def Port.replyWord (r : Port) : Port :=
  match r.replyLeft with
  | [] => { r with phase := .frame, out := LinkWord.idle }
  | x :: rest => { r with out := x, replyLeft := rest, phase := if rest = [] then .frame else .reply }

/-- A word clocked on a port (R193). -/
def State.clockWord (s : State) (p : Role) (w : LinkWord) : State :=
  match (s.port p).window, (s.port p).phase with
  | .closed, _ => s.onPort p fun r => { r with out := LinkWord.idle }
  | .opened, .reply => s.onPort p Port.replyWord
  | .opened, .frame => s.frameWord p w

/-- Words clocked one after another. -/
def State.clockWords (s : State) (p : Role) (ws : List LinkWord) : State := ws.foldl (fun t w => t.clockWord p w) s

/-! ## A command that arrives as a whole frame -/

/-- A port that expects a command word: its window is open, no reply is being sent and no frame has begun (R193). -/
def Port.ready (r : Port) : Bool := r.window = .opened && r.phase = .frame && r.frame = []

/-- The part once the last word of a frame has been received on a port: data-out reads 0xFF and nothing of a frame is
held (R193). -/
def State.frameTaken (s : State) (p : Role) : State := s.onPort p fun r => { r.cleared with out := LinkWord.idle }

/-- A catalogue command sent as one sound frame on its port, with the check word where the check in force is on
(DESIGN CHOICE, log entry 1). On a port that expects a command word the frame is taken whole: LINK_ERROR in a poisoned window,
NOT_PERMITTED to a role without it, and otherwise what its owner does, `take`. On any other port its words are clocked
one by one: a closed window and a reply in progress ignore words. -/
def State.commanded (s : State) (i : Instr) (take : State → Taken) : State :=
  match frameOf i with
  | none => s
  | some (p, code, payload) =>
    if (s.port p).ready ∧ i.wellFormed then
      if (s.port p).poisoned then (s.frameTaken p).giveReply p (Reply.bare .linkError)
      else if (rolesOf code).any fun roles => roles.contains p then (s.frameTaken p).takeOn p take
      else (s.frameTaken p).giveReply p (Reply.bare .notPermitted)
    else s.clockWords p (frameWords (s.port p).checkNow code payload)

end Sys2Proof.Machine
end

