-- ==== Sys2Proof/Machine/ScanOps.lean ====
section
/-!
DEFINITION. The Seat Scanner's own operations (4.2 to 4.5): beacons, polls, the judging of replies and the reports.
-/

namespace Sys2Proof.Machine

/-! ## The beacon (R72 to R75) -/

/-- Whether the next thing on the loop is the beacon that begins a cycle: after a reset, and after the slot of the last
address of the scan. -/
def Scanner.beaconNext (sc : Scanner) : Bool :=
  match sc.pos, sc.stage with
  | .beacon, .due => true
  | .seat a, .ended => decide (sc.scanCount ≤ a.val + 1)
  | _, _ => false

/-- A next scan count made the scan count, and the answers of every seat at or above it cleared (R72). -/
def Scanner.adopt (sc : Scanner) (n : Nat) : Scanner :=
  { sc with scanCount := n, nextCount := none,
            seats := Vector.ofFn fun a : Fin 256 => if n ≤ a.val then { sc.seats[a] with answer := none } else sc.seats[a] }

/-- The start of a cycle, before its beacon: a next scan count waits while the clock is in CONTEST (R72). -/
def State.cycleStart (s : State) : State :=
  match s.scan.nextCount with
  | some n => if s.clock.state = .contest then s else { s with scan := s.scan.adopt n }
  | none => s

/-- The ten bytes of the beacon that the part would send now (R73, R75). -/
def State.beaconBytes (s : State) : Bytes :=
  [0xC1, s.scan.beaconNo, s.clock.segment] ++ num4 s.clock.runTime ++ yesNo (s.clock.state = .running) ++
    num2 s.face.image.price.coded

/-- The beacon as the beacon table keeps it (R74). -/
def State.beaconRec (s : State) : BeaconRec :=
  { number := s.scan.beaconNo, segment := s.clock.segment, runTime := s.clock.runTime, running := s.clock.state = .running }

/-- A beacon entered in the table; a ninth entry drops the oldest (R74). -/
def pushBeacon (l : List BeaconRec) (b : BeaconRec) : List BeaconRec :=
  let l' := l ++ [b]
  l'.drop (l'.length - Config.beaconCapacity)

/-- A beacon sent (R73, R74). -/
def State.sendBeacon (s : State) : State :=
  { s with scan := { s.scan with
      sent := s.beaconBytes.map LinkWord.sound, beacons := pushBeacon s.scan.beacons s.beaconRec,
      beaconNo := s.scan.beaconNo + 1, pos := .beacon, stage := .sent } }

/-! ## The poll (R76) -/

/-- The address whose poll slot is next, if a slot is next: 0 after the beacon, and then the address that follows in the
scan (R72). -/
def Scanner.pollNext (sc : Scanner) : Option SeatAddr :=
  match sc.pos, sc.stage with
  | .beacon, .sent => some 0
  | .seat a, .ended => if a.val + 1 < sc.scanCount then index 256 (a.val + 1) else none
  | _, _ => none

/-- The verdict byte of a poll: 0x01 ACCEPTED, 0x00 REFUSED (R75). -/
def Verdict.pollByte : Verdict → Byte
  | .accepted => 0x01
  | .refused => 0x00

/-- The five bytes of a seat's poll (R75). -/
def Seat.pollBytes (a : SeatAddr) (x : Seat) : Bytes :=
  [0xC2, BitVec.ofNat 8 a.val, x.verdict.pollByte] ++
    (match x.answer with
      | some y => num1 y.code.code ++ num1 y.value
      | none => [0, 0])

/-- The poll of a seat sent, its pending answer gone with it (R76 phase 2). -/
def State.sendPoll (s : State) (a : SeatAddr) : State :=
  let s1 : State := { s with scan := { s.scan with sent := (s.scan.seats[a].pollBytes a).map LinkWord.sound, stage := .sent } }
  s1.onSeat a fun x => { x with answer := none }

/-- A poll slot begun (R76 phases 1 and 2). -/
def State.pollSlot (s : State) (a : SeatAddr) : State :=
  (({ s with scan := { s.scan with pos := .seat a } } : State).pollNotice a).sendPoll a

/-! ## The reply (R77 to R79) -/

/-- The reports of a reply (R75). -/
inductive Report where
  | none
  | login (buyer : Nat)
  | logout
  | quantity (q : Nat)
  | press (beacon : Byte) (offset : Nat)
  deriving DecidableEq, Repr

/-- The report of a reply's bytes: the echo is the polled address, the kind is 0..4, and the length is the one the kind
requires (R75, R77). -/
def reportOf (a : SeatAddr) : List Byte → Option Report
  | [e, k] => if e.toNat = a.val then (if k = 0 then some .none else if k = 2 then some .logout else none) else none
  | [e, k, q] => if e.toNat = a.val ∧ k = 3 then some (.quantity q.toNat) else none
  | [e, k, b1, b2] => if e.toNat = a.val ∧ k = 1 then some (.login (join2 b1 b2).toNat) else none
  | [e, k, n, d1, d2] => if e.toNat = a.val ∧ k = 4 then some (.press n (join2 d1 d2).toNat) else none
  | _ => none

/-- The judgement of a reply: its report where it is good, none where it is bad (R77). -/
def judge (a : SeatAddr) (reply : List LinkWord) : Option Report :=
  if reply.all LinkWord.parityGood then reportOf a (reply.map LinkWord.data) else none

/-- A window that ended with a bad reply or none: REFUSED is owed and the silence count rises, stopping at 16; an ONLINE
seat whose count reaches 16 becomes OFFLINE with SEAT (R78, R79). -/
def State.noGoodReply (s : State) (a : SeatAddr) : State :=
  let x := s.scan.seats[a]
  let n := min (x.silence + 1) Config.maxSilence
  let off := n = Config.maxSilence ∧ x.link = .online
  let s1 := s.onSeat a fun x => { x with verdict := .refused, silence := n, link := if off then .offline else x.link }
  if off then s1.raise .seat else s1

/-- A window that ended with a good reply: ACCEPTED is owed and the silence count is 0; an OFFLINE seat becomes ONLINE with
SEAT (R78, R79). -/
def State.goodReply (s : State) (a : SeatAddr) : State :=
  let off := s.scan.seats[a].link = .offline
  let s1 := s.onSeat a fun x => { x with verdict := .accepted, silence := 0, link := .online }
  if off then s1.raise .seat else s1

/-! ## Reports (R80 to R83) -/

/-- Whether a seat is at or above a next scan count that is present (R80). -/
def Scanner.leaving (sc : Scanner) (a : SeatAddr) : Bool := sc.nextCount.any fun n => decide (n ≤ a.val)

/-- A LOGIN report (R80). -/
def State.login (s : State) (a : SeatAddr) (b : Nat) : State :=
  if s.scan.leaving a then s.answer a .denied 0
  else match s.accounts.seatRequest a b s.scan.seats[a].buyer with
    | none => s.answer a .denied 0
    | some acc =>
      (({ s with accounts := acc } : State).onSeat a fun x => { x with buyer := some b, quantity := 1 }).answer a .ready 1

/-- A LOGOUT report (R81). -/
def State.logout (s : State) (a : SeatAddr) : State :=
  match s.scan.seats[a].buyer with
  | some b => (s.unbindSeat a b).answer a .released 0
  | none => s

/-- A PRESS report handed to the Clock Engine (R83). -/
def State.pressReport (s : State) (a : SeatAddr) (n : Byte) (d : Nat) : State :=
  s.press { seat := a, buyer := s.scan.seats[a].buyer, quantity := s.scan.seats[a].quantity, cls := s.classify n d }

/-- A good reply acted on by its report kind (4.5). -/
def State.actOn (s : State) (a : SeatAddr) : Report → State
  | .none => s
  | .login b => s.login a b
  | .logout => s.logout a
  | .quantity q => s.onSeat a fun x => { x with quantity := max 1 q }
  | .press n d => s.pressReport a n d

/-- The end of a reply window (R77 to R83). -/
def State.windowEnd (s : State) (a : SeatAddr) (reply : List LinkWord) : State :=
  let s1 : State := { s with scan := { s.scan with stage := .ended } }
  match judge a reply with
  | some x => (s1.goodReply a).actOn a x
  | none => s1.noGoodReply a

end Sys2Proof.Machine
end

