-- ==== Sys2Proof/Machine/ResetOps.lean ====
section
/-!
DEFINITION. The whole-part resets (R53, R68, R151, R168, R192, R202) and the opening and closing of a select window (R193,
R203).
-/

namespace Sys2Proof.Machine

/-- A port after a reset: the level of its select pin is not the part's to change (R192). -/
def Port.afterReset (r : Port) : Port := { Port.reset with selectLow := r.selectLow }

/-- The ports after a reset. -/
def Ports.afterReset (ps : Ports) : Ports :=
  { desk := ps.desk.afterReset, yard := ps.yard.afterReset, accounts := ps.accounts.afterReset }

/-- What both resets do: every block at its reset values but for the Account Store and the Purchase Log, the rail surveyed
(R53), the fault inputs examined (R68), and eligibility examined, so that a closing may begin (R36, R53). The input
levels, and the commands that wait outside the part, are as they were (DEDUCED, log entry 15). -/
def State.resetWith (s : State) (cause : ResetCause) (accounts : Accounts) (log : Log) : State :=
  let s1 : State :=
    { State.reset with
      rail := Rail.surveyed s.inputs, drive := Drive.reset.relatchAll s.inputs, accounts := accounts, log := log,
      ports := s.ports.afterReset, resetCause := cause, inputs := s.inputs, choices := s.choices, pending := s.pending }
  s1.settle

/-- The select line of a port falls: the window opens (R193). -/
def Port.openWindow (r : Port) : Port :=
  { r.cleared with
    window := .opened, phase := .frame, replyLeft := [], poisoned := false, checkNow := r.checkNext, selectLow := true,
    out := LinkWord.idle }

/-- A port reset carried out (R203). -/
def Port.carryOutReset (r : Port) : Port :=
  { r with events := 0, mask := 0, checkNow := false, checkNext := false, resetPending := false }

/-- The select line of a port rises: the window closes, the frame so far and the reply left are discarded, poisoned ends,
and a port reset pending is carried out (R193, R203). -/
def Port.closeWindow (r : Port) : Port :=
  let r1 : Port :=
    { r.cleared with
      window := .closed, phase := .frame, replyLeft := [], poisoned := false, selectLow := false, out := LinkWord.idle }
  if r.resetPending then r1.carryOutReset else r1

end Sys2Proof.Machine
end

