-- ==== Sys2Proof/Machine/PortFamily.lean ====
section
/-!
DEFINITION. Meanings: the whole-part resets, the select lines, the words and frames of the station ports, and the commands a
port owns (chapter 11).
-/

namespace Sys2Proof.Machine

/-- What `exec` answers: the next state, a fault or a refusal. -/
abbrev Result := Host.Outcome State Fault Refusal

/-- POWER_ON_RESET: every record emptied (R202). -/
def execPowerOnReset (s : State) : Result :=
  .next (s.resetWith .power { buyers := [], lastRefusal := none } { records := [], nextSeq := 1 })

/-- PIN_RESET, taken as RESET_N is released: the buyer table and the purchase log are kept, seat fields absent, the
last-refusal record absent and every record marked carried (R151, R162, R168, R179, R202). -/
def execPinReset (s : State) : Result :=
  .next (s.resetWith .pin { s.accounts.clearSeats with lastRefusal := none } s.log.carryAll)

/-- SELECT_FALL (R193). A select line that is low already cannot fall (R192). -/
def execSelectFall (p : Role) (s : State) : Result :=
  .next (if (s.port p).selectLow then s else s.onPort p Port.openWindow)

/-- SELECT_RISE (R193). A select line that is high already cannot rise. -/
def execSelectRise (p : Role) (s : State) : Result :=
  .next (if (s.port p).selectLow then s.onPort p Port.closeWindow else s)

/-- UNKNOWN_COMMAND: a sound frame with a code outside the catalogue (R197). -/
def execUnknownCommand (p : Role) (code : Byte) (payload : List Byte) (s : State) : Result :=
  .next (s.clockWords p (frameWords (s.port p).checkNow code payload))

/-- WORD_CLOCKED (R193). -/
def execWordClocked (p : Role) (word : LinkWord) (s : State) : Result := .next (s.clockWord p word)

/-- FRAME_LINE_ERROR: the words of a frame with a line error, or of one completed in a poisoned window (R196). -/
def execFrameLineError (p : Role) (words : List LinkWord) (s : State) : Result := .next (s.clockWords p words)

/-- READ_EVENTS (R200). -/
def execReadEvents (p : Role) (s : State) : Result := .next (s.commanded (.readEvents p) (takeReadEvents p))

/-- SET_EVENT_MASK (R200). -/
def execSetEventMask (p : Role) (mask : Byte) (s : State) : Result :=
  .next (s.commanded (.setEventMask p mask) (takeSetEventMask p mask))

/-- CHECK (R201). -/
def execCheck (p : Role) (value : Byte) (s : State) : Result := .next (s.commanded (.check p value) (takeCheck p value))

/-- PORT_RESET (R203). -/
def execPortReset (p : Role) (s : State) : Result := .next (s.commanded (.portReset p) (takePortReset p))

/-- READ_IDENTITY (R202). -/
def execReadIdentity (p : Role) (s : State) : Result := .next (s.commanded (.readIdentity p) takeReadIdentity)

end Sys2Proof.Machine
end

