-- ==== Sys2Proof/Machine/AccountFamily.lean ====
section
/-!
DEFINITION. Meanings: the Account Store's and the Purchase Log's commands (chapters 8 and 9).
-/

namespace Sys2Proof.Machine

/-- OPEN_ACCOUNT (R152). -/
def execOpenAccount (p : Role) (buyer : BitVec 16) (limit : BitVec 32) (fee : Byte) (s : State) : Result :=
  .next (s.commanded (.openAccount p buyer limit fee) (takeOpenAccount buyer.toNat limit.toNat fee.toNat))

/-- CLOSE_ACCOUNT (R153). -/
def execCloseAccount (p : Role) (buyer : BitVec 16) (s : State) : Result :=
  .next (s.commanded (.closeAccount p buyer) (takeCloseAccount buyer.toNat))

/-- SET_LIMIT (R154). -/
def execSetLimit (p : Role) (buyer : BitVec 16) (limit : BitVec 32) (s : State) : Result :=
  .next (s.commanded (.setLimit p buyer limit) (takeSetLimit buyer.toNat limit.toNat))

/-- SET_FEE (R155). -/
def execSetFee (p : Role) (buyer : BitVec 16) (fee : Byte) (s : State) : Result :=
  .next (s.commanded (.setFee p buyer fee) (takeSetFee buyer.toNat fee.toNat))

/-- SUSPEND (R156). -/
def execSuspend (p : Role) (buyer : BitVec 16) (s : State) : Result :=
  .next (s.commanded (.suspend p buyer) (takeBuyerState buyer.toNat .suspended))

/-- REINSTATE (R156). -/
def execReinstate (p : Role) (buyer : BitVec 16) (s : State) : Result :=
  .next (s.commanded (.reinstate p buyer) (takeBuyerState buyer.toNat .active))

/-- PAYMENT (R159). -/
def execPayment (p : Role) (buyer : BitVec 16) (amount : BitVec 32) (s : State) : Result :=
  .next (s.commanded (.payment p buyer amount) (takePayment buyer.toNat amount.toNat))

/-- DAY_CLOSE (R160). -/
def execDayClose (p : Role) (buyer : BitVec 16) (s : State) : Result :=
  .next (s.commanded (.dayClose p buyer) (takeDayClose buyer.toNat))

/-- POST (R172 to R174). -/
def execPost (p : Role) (seq : BitVec 32) (s : State) : Result := .next (s.commanded (.post p seq) (takePost seq))

/-- VOID (R175). -/
def execVoid (p : Role) (seq : BitVec 32) (s : State) : Result := .next (s.commanded (.void p seq) (takeVoid seq))

end Sys2Proof.Machine
end

