-- ==== Sys2Proof/Machine/ClockFamily.lean ====
section
/-!
DEFINITION. Meanings: the Clock Engine's commands (chapter 5 and 6.1).
-/

namespace Sys2Proof.Machine

/-- LOAD (R93). -/
def execLoad (p : Role) (lot : BitVec 16) (s : State) : Result :=
  .next (s.commanded (.load p lot) (takeLoad lot.toNat))

/-- START (R96). -/
def execStart (p : Role) (s : State) : Result := .next (s.commanded (.start p) takeStart)

/-- HALT (R102). -/
def execHalt (p : Role) (s : State) : Result := .next (s.commanded (.halt p) takeHalt)

/-- RESUME (R103). -/
def execResume (p : Role) (s : State) : Result := .next (s.commanded (.resume p) takeResume)

/-- WITHDRAW (R109). -/
def execWithdraw (p : Role) (s : State) : Result := .next (s.commanded (.withdraw p) takeWithdraw)

/-- SET_PRICE (R104). -/
def execSetPrice (p : Role) (price : BitVec 16) (s : State) : Result :=
  .next (s.commanded (.setPrice p price) (takeSetPrice price.toNat))

/-- TICK (R101). -/
def execTick (p : Role) (period : Byte) (s : State) : Result :=
  .next (s.commanded (.tick p period) (takeTick period.toNat))

/-- SHOW (R105). -/
def execShow (p : Role) (time : Byte) (s : State) : Result :=
  .next (s.commanded (.showTime p time) (takeShow time.toNat))

/-- AUTO (R111). -/
def execAuto (p : Role) (value : Byte) (s : State) : Result := .next (s.commanded (.auto p value) (takeAuto value))

/-- AUTO_DELAY (R113). -/
def execAutoDelay (p : Role) (delay : Byte) (s : State) : Result :=
  .next (s.commanded (.autoDelay p delay) (takeAutoDelay delay.toNat))

/-- STEP_TABLE (R118). -/
def execStepTable (p : Role) (bands : List BandDecl) (s : State) : Result :=
  .next (s.commanded (.stepTable p bands) (takeStepTable bands))

end Sys2Proof.Machine
end

