-- ==== Sys2Proof/Machine/DriveFamily.lean ====
section
/-!
DEFINITION. Meanings: the Drive Unit's commands (chapter 3).
-/

namespace Sys2Proof.Machine

/-- SET_CHANNEL (R56). -/
def execSetChannel (p : Role) (channel mode generator stop : Byte) (s : State) : Result :=
  .next (s.commanded (.setChannel p channel mode generator stop) (takeSetChannel channel mode generator stop))

/-- SET_FAULT_REPORT (R65). -/
def execSetFaultReport (p : Role) (overcurrent openLoad : Byte) (s : State) : Result :=
  .next (s.commanded (.setFaultReport p overcurrent openLoad) (takeSetFaultReport overcurrent openLoad))

/-- CLEAR_DRIVE_FAULTS (R67). -/
def execClearDriveFaults (p : Role) (s : State) : Result :=
  .next (s.commanded (.clearDriveFaults p) takeClearDriveFaults)

/-- SET_GENERATOR (R62). -/
def execSetGenerator (p : Role) (generator enable period duty : Byte) (s : State) : Result :=
  .next (s.commanded (.setGenerator p generator enable period duty) (takeSetGenerator generator enable period duty))

end Sys2Proof.Machine
end

