-- ==== Sys2Proof/Machine/LotFamily.lean ====
section
/-!
DEFINITION. Meanings: the Lot Store's commands (chapter 1).
-/

namespace Sys2Proof.Machine

/-- DECLARE_LOT (R2). -/
def execDeclareLot (p : Role) (d : LotDecl) (s : State) : Result :=
  .next (s.commanded (.declareLot p d) (takeDeclareLot d))

/-- DROP_LOT (R3). -/
def execDropLot (p : Role) (lot : BitVec 16) (s : State) : Result :=
  .next (s.commanded (.dropLot p lot) (takeDropLot lot.toNat))

/-- ANNOUNCE_TRAIN (R9). -/
def execAnnounceTrain (p : Role) (train : BitVec 16) (trolleys : Byte) (lots : List (BitVec 16)) (s : State) : Result :=
  .next (s.commanded (.announceTrain p train trolleys lots) (takeAnnounceTrain train.toNat trolleys.toNat (lots.map BitVec.toNat)))

/-- CANCEL_TRAIN (R10). -/
def execCancelTrain (p : Role) (train : BitVec 16) (s : State) : Result :=
  .next (s.commanded (.cancelTrain p train) (takeCancelTrain train.toNat))

/-- REORDER (R15, R27). -/
def execReorder (p : Role) (train : BitVec 16) (s : State) : Result :=
  .next (s.commanded (.reorder p train) (takeReorder train.toNat))

end Sys2Proof.Machine
end

