-- ==== Sys2Proof/Machine/RailFamily.lean ====
section
/-!
DEFINITION. Meanings: the Rail Controller's commands (chapter 2).
-/

namespace Sys2Proof.Machine

/-- EJECT (R28). -/
def execEject (p : Role) (s : State) : Result := .next (s.commanded (.eject p) takeEject)

/-- HOLD_RAIL (R39). -/
def execHoldRail (p : Role) (s : State) : Result := .next (s.commanded (.holdRail p) takeHoldRail)

/-- RELEASE (R40). -/
def execRelease (p : Role) (s : State) : Result := .next (s.commanded (.release p) takeRelease)

/-- RETRY (R47). -/
def execRetry (p : Role) (sec : Byte) (s : State) : Result := .next (s.commanded (.retry p sec) (takeRetry sec))

/-- RESOLVE (R48, R49). -/
def execResolve (p : Role) (sec placement : Byte) (s : State) : Result :=
  .next (s.commanded (.resolve p sec placement) (takeResolve sec placement))

/-- CLEAR_SECTION (R50). -/
def execClearSection (p : Role) (sec : Byte) (s : State) : Result :=
  .next (s.commanded (.clearSection p sec) (takeClearSection sec))

/-- JOG (R51). -/
def execJog (p : Role) (channel direction duration : Byte) (s : State) : Result :=
  .next (s.commanded (.jog p channel direction duration) (takeJog channel direction duration))

/-- SET_MOVE_LIMIT (R34). -/
def execSetMoveLimit (p : Role) (sec limit : Byte) (s : State) : Result :=
  .next (s.commanded (.setMoveLimit p sec limit) (takeSetMoveLimit sec limit))

/-- SET_GATE_TIME (R37). -/
def execSetGateTime (p : Role) (time : Byte) (s : State) : Result :=
  .next (s.commanded (.setGateTime p time) (takeSetGateTime time))

end Sys2Proof.Machine
end

