-- ==== Sys2Proof/Machine/ReadFamily.lean ====
section
/-!
DEFINITION. Meanings: the read commands of every block.
-/

namespace Sys2Proof.Machine

/-- READ_LOT (R20). -/
def execReadLot (p : Role) (lot : BitVec 16) (s : State) : Result :=
  .next (s.commanded (.readLot p lot) (takeReadLot lot.toNat))

/-- READ_TRAIN (R21). -/
def execReadTrain (p : Role) (train : BitVec 16) (s : State) : Result :=
  .next (s.commanded (.readTrain p train) (takeReadTrain train.toNat))

/-- READ_RAIL (R54). -/
def execReadRail (p : Role) (s : State) : Result := .next (s.commanded (.readRail p) takeReadRail)

/-- READ_CLOCK (R115, R150). -/
def execReadClock (p : Role) (s : State) : Result := .next (s.commanded (.readClock p) takeReadClock)

/-- READ_SEAT (R88). -/
def execReadSeat (p : Role) (address : BitVec 16) (s : State) : Result :=
  .next (s.commanded (.readSeat p address) (takeReadSeat address.toNat))

/-- READ_BUYER (R164, R165): masked on the desk port. -/
def execReadBuyer (p : Role) (buyer : BitVec 16) (s : State) : Result :=
  .next (s.commanded (.readBuyer p buyer) (takeReadBuyer p buyer.toNat))

/-- READ_FACE (R190). -/
def execReadFace (p : Role) (s : State) : Result := .next (s.commanded (.readFace p) takeReadFace)

/-- READ_DRIVE (R69). -/
def execReadDrive (p : Role) (s : State) : Result := .next (s.commanded (.readDrive p) takeReadDrive)

/-- READ_LOG (R177, R178): masked on the desk port. -/
def execReadLog (p : Role) (index count : Byte) (s : State) : Result :=
  .next (s.commanded (.readLog p index count) (takeReadLog p index.toNat count.toNat))

end Sys2Proof.Machine
end

