-- ==== Sys2Proof/Machine/SeatFamily.lean ====
section
/-!
DEFINITION. Meanings: the Seat Scanner's and the Face Driver's commands (4.8, 10.2, 10.4).
-/

namespace Sys2Proof.Machine

/-- SET_SCAN_COUNT (R86). -/
def execSetScanCount (p : Role) (count : BitVec 16) (s : State) : Result :=
  .next (s.commanded (.setScanCount p count) (takeSetScanCount count.toNat))

/-- UNBIND (R87). -/
def execUnbind (p : Role) (address : BitVec 16) (s : State) : Result :=
  .next (s.commanded (.unbind p address) (takeUnbind address.toNat))

/-- SET_FACE_MAP (R183). -/
def execSetFaceMap (p : Role) (group phase generator : Byte) (s : State) : Result :=
  .next (s.commanded (.setFaceMap p group phase generator) (takeSetFaceMap group phase generator))

/-- FACE_TEST (R188). -/
def execFaceTest (p : Role) (s : State) : Result := .next (s.commanded (.faceTest p) takeFaceTest)

end Sys2Proof.Machine
end

