-- ==== Sys2Proof/Machine/SensorFamily.lean ====
section
/-!
DEFINITION. Meanings: the rail's sensors and timers, the tag reader, the fault inputs and the generators
(chapters 2 and 3).

A timer's expiry is taken when its time has run out: an expiry row on a running timer lets the time left pass and then takes
the expiry, and one on a stopped timer leaves the state as it was (DESIGN CHOICE, log entry 6).
-/

namespace Sys2Proof.Machine

/-- A timer's expiry: the time left passes and the expiry is taken; a stopped timer has none (DESIGN CHOICE, log entry 6). -/
def State.expire (s : State) (t : Timer) (f : State → State) : State :=
  match t with
  | some n => f (s.elapse n)
  | none => s

/-! ## Sections and admission (R25, R45) -/

/-- The presence input of a section set. -/
def State.setPresence (s : State) (k : Sec) (level : Bool) : State :=
  { s with inputs := { s.inputs with presence := s.inputs.presence.set k level } }

/-- PRESENCE_EDGE (R24, R25, R29, R33, R38, R45). An input that has the level already gives no edge. -/
def execPresenceEdge (k : Sec) (level : Bool) (s : State) : Result :=
  .next (if s.inputs.presence[k] = level then s else ((s.setPresence k level).edge k level).railDone s)

/-- TAG_DELIVERED (R25, R26). -/
def execTagDelivered (tag : BitVec 16) (s : State) : Result := .next ((s.tagTaken tag.toNat).railDone s)

/-- TAG_WAIT_EXPIRY (R25). -/
def execTagWaitExpiry (s : State) : Result := .next (s.expire s.rail.admTimer fun t => t.tagWaitOver.railDone s)

/-! ## Moves (R33, R43) -/

/-- The limit timer of a supply slot. -/
def Rail.limitTimer (r : Rail) (i : Fin 3) : Timer := (r.slots[i]).map (·.left)

/-- MOVE_LIMIT_EXPIRY (R29, R33, R43). -/
def execMoveLimitExpiry (i : Fin 3) (s : State) : Result :=
  .next (s.expire (s.rail.limitTimer i) fun t => (t.onRail fun w => w.stallMove i .timeout).railDone s)

/-! ## The gate (R36, R37, R44) -/

/-- The level of a gate sensor. -/
def Inputs.gateSensor (i : Inputs) : GateSensor → Bool
  | .gateOpen => i.gateOpen
  | .gateClosed => i.gateClosed

/-- A gate sensor set. -/
def State.setGateSensor (s : State) (g : GateSensor) (level : Bool) : State :=
  match g with
  | .gateOpen => { s with inputs := { s.inputs with gateOpen := level } }
  | .gateClosed => { s with inputs := { s.inputs with gateClosed := level } }

/-- The gate operation completed where its sensor is true and its gate timer has expired (R37). -/
def State.gateTest (s : State) : State :=
  if s.rail.gateSeen s.inputs ∧ s.rail.gateTimer = none then s.mapRail Rail.completeGate else s

/-- GATE_SENSOR_EDGE (R36, R37): outside a gate operation, and at the sensor that is not awaited, no record changes. -/
def execGateSensorEdge (g : GateSensor) (level : Bool) (s : State) : Result :=
  .next (if s.inputs.gateSensor g = level then s else (s.setGateSensor g level).gateTest.railDone s)

/-- GATE_TIMER_EXPIRY (R37). -/
def execGateTimerExpiry (s : State) : Result :=
  .next (s.expire s.rail.gateTimer fun t => (t.mapRail fun r => { r with gateTimer := none }).gateTest.railDone s)

/-- CONFIRMATION_TIMER_EXPIRY (R37, R44). -/
def execConfirmationTimerExpiry (s : State) : Result :=
  .next (s.expire s.rail.confirmTimer fun t => (t.onRail fun w => w.stallGate .gate).railDone s)

/-! ## Jogs (R52) -/

/-- WANT after a jog of D7 has ended, where the gate operation toward the wanted position is held back (R36, R52;
DEDUCED, log entry 11). -/
def State.jogEnded (s : State) (j : Option Jog) : State :=
  if j.any (fun x => x.chan = 7) ∧ s.rail.hold ≠ .none ∧ s.rail.gateDue s.lots then s.raise .want else s

/-- The jog timer. -/
def Rail.jogTimer (r : Rail) : Timer := r.jog.map (·.left)

/-- JOG_TIMER_EXPIRY (R52). -/
def execJogTimerExpiry (s : State) : Result :=
  .next (s.expire s.rail.jogTimer fun t => ((t.onRail RailWork.endJog).railDone s).jogEnded s.rail.jog)

/-! ## Channels (R58, R64, R65) -/

/-- DEAD_TIME_EXPIRY: the channel drives in the pending direction (R58). -/
def execDeadTimeExpiry (c : Chan) (s : State) : Result :=
  .next (s.expire s.drive.chans[c].deadTime fun t =>
    { t with drive := { t.drive with chans := t.drive.chans.set c t.drive.chans[c].turnOver } })

/-- The level of a channel's fault input. -/
def Inputs.faultInput (i : Inputs) (c : Chan) : FaultKind → Bool
  | .overcurrent => i.overcurrent[c]
  | .openLoad => i.openLoad[c]

/-- A channel's fault input set. -/
def State.setFaultInput (s : State) (c : Chan) (k : FaultKind) (level : Bool) : State :=
  match k with
  | .overcurrent => { s with inputs := { s.inputs with overcurrent := s.inputs.overcurrent.set c level } }
  | .openLoad => { s with inputs := { s.inputs with openLoad := s.inputs.openLoad.set c level } }

/-- A fault latched and reported (R64, R65). -/
def State.latchFault (s : State) (c : Chan) (k : FaultKind) : State :=
  s.onRail fun w => ({ w with drive := w.drive.latchFault c k } : RailWork).report c k

/-- The jog that a fault on a channel ends. -/
def Rail.jogOn (r : Rail) (c : Chan) : Option Jog := r.jog.filter fun j => j.chan = c

/-- FAULT_ASSERTION (R64, R65): a latch that is present keeps its kind, and the assertion is not reported. An input that
is active already cannot assert. -/
def execFaultAssertion (c : Chan) (k : FaultKind) (s : State) : Result :=
  .next (if s.inputs.faultInput c k then s
    else
      let s1 := s.setFaultInput c k true
      if s1.drive.latched c then s1 else ((s1.latchFault c k).railDone s).jogEnded (s.rail.jogOn c))

/-- FAULT_RELEASE: a release latches nothing (R64). -/
def execFaultRelease (c : Chan) (k : FaultKind) (s : State) : Result := .next (s.setFaultInput c k false)

/-! ## Generators (R61, R62) -/

/-- A change of one generator record. -/
def State.onGen (s : State) (g : Gen) (f : Generator → Generator) : State :=
  { s with drive := { s.drive with gens := s.drive.gens.set g (f s.drive.gens[g]) } }

/-- GENERATOR_PERIOD_START: an enabled generator whose period has ended begins the next with the duty written (R61, R62). -/
def execGeneratorPeriodStart (g : Gen) (s : State) : Result := .next (s.onGen g Generator.periodStart)

/-- GENERATOR_OFF_PHASE: the end of the on-phase (R61). -/
def execGeneratorOffPhase (g : Gen) (s : State) : Result := .next (s.onGen g Generator.offPhase)

end Sys2Proof.Machine
end

