-- ==== Sys2Proof/Machine/TimerFamily.lean ====
section
/-!
DEFINITION. Meanings: the seat loop, the clock's timers and the clock face (chapters 4, 5 and 10).
-/

namespace Sys2Proof.Machine

/-! ## The seat loop (R72 to R83) -/

/-- BEACON (R72 to R75). Out of its place in the scan there is none (DESIGN CHOICE, log entry 6). -/
def execBeacon (s : State) : Result := .next (if s.scan.beaconNext then s.cycleStart.sendBeacon else s)

/-- POLL_SLOT of the address that follows in the scan (R72, R76). Out of its place in the scan there is none
(DESIGN CHOICE, log entry 6). -/
def execPollSlot (s : State) : Result :=
  .next (match s.scan.pollNext with
    | some a => (s.pollSlot a).reface
    | none => s)

/-- REPLY_WINDOW_END (R77 to R83). No reply window is open but after a poll (DESIGN CHOICE, log entry 6). -/
def execReplyWindowEnd (reply : List LinkWord) (s : State) : Result :=
  .next (match s.scan.pos, s.scan.stage with
    | .seat a, .sent => (s.windowEnd a reply).reface
    | _, _ => s)

/-! ## The clock's timers (R99, R107, R112) -/

/-- A tick in RUNNING (R99). -/
def State.tickOver (s : State) : State :=
  match s.clock.state, s.curLot with
  | .running, some l => s.tickTaken l
  | _, _ => s.onClock fun c => { c with tickTimer := none }

/-- TICK_TIMER_EXPIRY (R99, R100). -/
def execTickTimerExpiry (s : State) : Result := .next (s.expire s.clock.tickTimer fun t => t.tickOver.reface)

/-- The end of a showing (R107). -/
def State.showOver (s : State) : State :=
  let s1 := s.onClock fun c => { c with showTimer := none }
  if s1.clock.state = .showing then s1.showingEnd else s1

/-- SHOW_TIMER_EXPIRY (R107). -/
def execShowTimerExpiry (s : State) : Result := .next (s.expire s.clock.showTimer fun t => t.showOver.railDone s)

/-- The end of the auto delay (R112). -/
def State.autoOver (s : State) : State :=
  let s1 := s.onClock fun c => { c with autoTimer := none }
  if s1.clock.state = .loaded then
    if s1.logFree then s1.beginSegment .first else s1.setClock .halted (some .logFull)
  else s1

/-- AUTO_TIMER_EXPIRY (R112). -/
def execAutoTimerExpiry (s : State) : Result := .next (s.expire s.clock.autoTimer fun t => t.autoOver.reface)

/-! ## The face (R188, R189) -/

/-- FACE_TEST_TIMER_EXPIRY (R188). -/
def execFaceTestTimerExpiry (s : State) : Result :=
  .next (s.expire s.face.testTimer fun t => { t with face := { t.face with testTimer := none } })

/-- FACE_CHAIN_LATCH: the pass ends, and the lamps take the levels carried in it (R189; DESIGN CHOICE, log entry 13). -/
def execFaceChainLatch (s : State) : Result := .next { s with face := s.face.latch s.levels }

end Sys2Proof.Machine
end

