-- ==== Sys2Proof/Machine/Dispatch.lean ====
section
/-!
DEFINITION. The dispatch: each command and event of spec/opcode_table.json to its meaning, on everything but the queue.
-/

namespace Sys2Proof.Machine

def exec (i : Instr) (s : State) : Host.Outcome State Fault Refusal :=
  match i with
  | .powerOnReset => Sys2Proof.Machine.execPowerOnReset s
  | .pinReset => Sys2Proof.Machine.execPinReset s
  | .selectFall p => Sys2Proof.Machine.execSelectFall p s
  | .selectRise p => Sys2Proof.Machine.execSelectRise p s
  | .unknownCommand p code payload => Sys2Proof.Machine.execUnknownCommand p code payload s
  | .readEvents p => Sys2Proof.Machine.execReadEvents p s
  | .setEventMask p mask => Sys2Proof.Machine.execSetEventMask p mask s
  | .check p value => Sys2Proof.Machine.execCheck p value s
  | .portReset p => Sys2Proof.Machine.execPortReset p s
  | .readIdentity p => Sys2Proof.Machine.execReadIdentity p s
  | .readLot p lot => Sys2Proof.Machine.execReadLot p lot s
  | .readTrain p train => Sys2Proof.Machine.execReadTrain p train s
  | .readRail p => Sys2Proof.Machine.execReadRail p s
  | .readClock p => Sys2Proof.Machine.execReadClock p s
  | .readSeat p address => Sys2Proof.Machine.execReadSeat p address s
  | .readBuyer p buyer => Sys2Proof.Machine.execReadBuyer p buyer s
  | .readFace p => Sys2Proof.Machine.execReadFace p s
  | .readDrive p => Sys2Proof.Machine.execReadDrive p s
  | .readLog p index count => Sys2Proof.Machine.execReadLog p index count s
  | .declareLot p d => Sys2Proof.Machine.execDeclareLot p d s
  | .dropLot p lot => Sys2Proof.Machine.execDropLot p lot s
  | .announceTrain p train trolleys lots => Sys2Proof.Machine.execAnnounceTrain p train trolleys lots s
  | .cancelTrain p train => Sys2Proof.Machine.execCancelTrain p train s
  | .reorder p train => Sys2Proof.Machine.execReorder p train s
  | .eject p => Sys2Proof.Machine.execEject p s
  | .holdRail p => Sys2Proof.Machine.execHoldRail p s
  | .release p => Sys2Proof.Machine.execRelease p s
  | .retry p sec => Sys2Proof.Machine.execRetry p sec s
  | .resolve p sec placement => Sys2Proof.Machine.execResolve p sec placement s
  | .clearSection p sec => Sys2Proof.Machine.execClearSection p sec s
  | .jog p channel direction duration => Sys2Proof.Machine.execJog p channel direction duration s
  | .setMoveLimit p sec limit => Sys2Proof.Machine.execSetMoveLimit p sec limit s
  | .setGateTime p time => Sys2Proof.Machine.execSetGateTime p time s
  | .setChannel p channel mode generator stop => Sys2Proof.Machine.execSetChannel p channel mode generator stop s
  | .setFaultReport p overcurrent openLoad => Sys2Proof.Machine.execSetFaultReport p overcurrent openLoad s
  | .clearDriveFaults p => Sys2Proof.Machine.execClearDriveFaults p s
  | .setGenerator p generator enable period duty => Sys2Proof.Machine.execSetGenerator p generator enable period duty s
  | .load p lot => Sys2Proof.Machine.execLoad p lot s
  | .start p => Sys2Proof.Machine.execStart p s
  | .halt p => Sys2Proof.Machine.execHalt p s
  | .resume p => Sys2Proof.Machine.execResume p s
  | .withdraw p => Sys2Proof.Machine.execWithdraw p s
  | .setPrice p price => Sys2Proof.Machine.execSetPrice p price s
  | .tick p period => Sys2Proof.Machine.execTick p period s
  | .showTime p time => Sys2Proof.Machine.execShow p time s
  | .auto p value => Sys2Proof.Machine.execAuto p value s
  | .autoDelay p delay => Sys2Proof.Machine.execAutoDelay p delay s
  | .stepTable p bands => Sys2Proof.Machine.execStepTable p bands s
  | .setScanCount p count => Sys2Proof.Machine.execSetScanCount p count s
  | .unbind p address => Sys2Proof.Machine.execUnbind p address s
  | .void p seq => Sys2Proof.Machine.execVoid p seq s
  | .setFaceMap p group phase generator => Sys2Proof.Machine.execSetFaceMap p group phase generator s
  | .faceTest p => Sys2Proof.Machine.execFaceTest p s
  | .openAccount p buyer limit fee => Sys2Proof.Machine.execOpenAccount p buyer limit fee s
  | .closeAccount p buyer => Sys2Proof.Machine.execCloseAccount p buyer s
  | .setLimit p buyer limit => Sys2Proof.Machine.execSetLimit p buyer limit s
  | .setFee p buyer fee => Sys2Proof.Machine.execSetFee p buyer fee s
  | .suspend p buyer => Sys2Proof.Machine.execSuspend p buyer s
  | .reinstate p buyer => Sys2Proof.Machine.execReinstate p buyer s
  | .payment p buyer amount => Sys2Proof.Machine.execPayment p buyer amount s
  | .dayClose p buyer => Sys2Proof.Machine.execDayClose p buyer s
  | .post p seq => Sys2Proof.Machine.execPost p seq s
  | .presenceEdge sec level => Sys2Proof.Machine.execPresenceEdge sec level s
  | .tagDelivered tag => Sys2Proof.Machine.execTagDelivered tag s
  | .tagWaitExpiry => Sys2Proof.Machine.execTagWaitExpiry s
  | .moveLimitExpiry slot => Sys2Proof.Machine.execMoveLimitExpiry slot s
  | .gateSensorEdge sensor level => Sys2Proof.Machine.execGateSensorEdge sensor level s
  | .gateTimerExpiry => Sys2Proof.Machine.execGateTimerExpiry s
  | .confirmationTimerExpiry => Sys2Proof.Machine.execConfirmationTimerExpiry s
  | .jogTimerExpiry => Sys2Proof.Machine.execJogTimerExpiry s
  | .deadTimeExpiry channel => Sys2Proof.Machine.execDeadTimeExpiry channel s
  | .faultAssertion channel kind => Sys2Proof.Machine.execFaultAssertion channel kind s
  | .faultRelease channel kind => Sys2Proof.Machine.execFaultRelease channel kind s
  | .generatorPeriodStart generator => Sys2Proof.Machine.execGeneratorPeriodStart generator s
  | .beacon => Sys2Proof.Machine.execBeacon s
  | .pollSlot => Sys2Proof.Machine.execPollSlot s
  | .replyWindowEnd reply => Sys2Proof.Machine.execReplyWindowEnd reply s
  | .tickTimerExpiry => Sys2Proof.Machine.execTickTimerExpiry s
  | .showTimerExpiry => Sys2Proof.Machine.execShowTimerExpiry s
  | .autoTimerExpiry => Sys2Proof.Machine.execAutoTimerExpiry s
  | .faceTestTimerExpiry => Sys2Proof.Machine.execFaceTestTimerExpiry s
  | .faceChainLatch => Sys2Proof.Machine.execFaceChainLatch s
  | .wordClocked p word => Sys2Proof.Machine.execWordClocked p word s
  | .frameLineError p words => Sys2Proof.Machine.execFrameLineError p words s
  | .generatorOffPhase generator => Sys2Proof.Machine.execGeneratorOffPhase generator s

end Sys2Proof.Machine
end

