-- ==== Sys2Proof/Machine/Step.lean ====
section
/-!
DEFINITION. One step of the part: the command or event at the front of the queue is taken; with nothing waiting, the part
idles: a presentation notice that waits is taken, or a timer that has run out expires.
-/

namespace Sys2Proof.Machine

/-- A timer that is running with no time left. -/
def Timer.out (t : Timer) : Bool := t = some 0

/-- The expiry that an idle part takes next, if a timer has run out (DESIGN CHOICE, log entry 4). -/
def State.due (s : State) : Option Instr :=
  match allChans.find? fun c => Timer.out s.drive.chans[c].deadTime with
  | some c => some (.deadTimeExpiry c)
  | none =>
    if s.rail.admTimer.out then some .tagWaitExpiry
    else match allSlots.find? fun i => Timer.out (s.rail.limitTimer i) with
      | some i => some (.moveLimitExpiry i)
      | none =>
        if s.rail.gateTimer.out then some .gateTimerExpiry
        else if s.rail.confirmTimer.out then some .confirmationTimerExpiry
        else if s.rail.jogTimer.out then some .jogTimerExpiry
        else if s.clock.tickTimer.out then some .tickTimerExpiry
        else if s.clock.showTimer.out then some .showTimerExpiry
        else if s.clock.autoTimer.out then some .autoTimerExpiry
        else if s.face.testTimer.out then some .faceTestTimerExpiry
        else none

/-- What the part does with nothing waiting: it takes a presentation notice that waits, and else the expiry of a timer that
has run out, and otherwise 0.1 ms passes (DESIGN CHOICE, log entries 4 and 10). -/
def State.idle (s : State) : Host.Outcome State Fault Refusal :=
  if s.clock.noticeWaiting then .next s.takeNotice
  else match s.due with
    | some i => exec i s
    | none => .next (s.elapse 1)

/-- One step: the command at the front of the queue, taken on the state with the queue's rest; an idle step with nothing
waiting. -/
def step (s : State) : Host.Outcome State Fault Refusal :=
  match s.pending with
  | [] => s.idle
  | i :: rest => exec i { s with pending := rest }

/-- The state with the command that a table word spells at the front of its queue; unchanged where the word spells none. -/
def State.withFetchWord (s : State) (nbits w : Nat) : State :=
  match decodeTableWord nbits w with
  | some i => { s with pending := i :: s.pending }
  | none => s

end Sys2Proof.Machine
end

