-- ==== Sys2Proof/Safety.lean ====
section
/-!
DEFINITION. The words in which statements about the part are made: a port that listens, a reply given, and the conditions
that every step keeps.
-/

namespace Sys2Proof.Machine

/-! ## Ports -/

/-- A port that expects a command word in a window that is not poisoned: a sound frame on it reaches the tests of R197. -/
def State.listens (s : State) (p : Role) : Bool := (s.port p).ready && !(s.port p).poisoned

/-- The part after a frame on a port that changed nothing but that port: the frame is received and the reply is given. -/
def State.replied (s : State) (p : Role) (x : Reply) : State := (s.frameTaken p).giveReply p x

/-- The part after a refusal (00_scope.md, "Taken, refused, clamped"). -/
def State.rejected (s : State) (p : Role) (st : Status) : State := s.replied p (Reply.bare st)

/-! ## Resets -/

/-- What either whole-part reset leaves behind, from a state `s`: every block but the Account Store and the Purchase Log at
its reset values, the rail surveyed (R53), the fault inputs examined (R68), the ports reset (R192), and the input levels and
the queue kept (DEDUCED, log entry 15). A gate that the survey leaves UNKNOWN begins to close at once where PRESENT is
CLEAR, with the timers of a closing (R36, R37, R53). -/
def State.freshAfter (s t : State) : Prop :=
  t.lots.lots = [] ∧ t.lots.trains = [] ∧ t.lots.queue = [] ∧ t.clock = Clock.reset ∧ t.scan = Scanner.reset ∧
  t.face = Face.reset ∧ t.accounts.lastRefusal = none ∧ t.inputs = s.inputs ∧ t.pending = s.pending ∧
  (∀ p, t.port p = { Port.reset with selectLow := (s.port p).selectLow }) ∧
  (∀ k : Sec, t.rail.secs[k] =
    { cond := if s.inputs.presence[k] then .blocked else .clear, occupant := none, moveLimit := 80 }) ∧
  t.rail.unknownTag = none ∧ (∀ i : Fin 3, t.rail.slots[i] = none) ∧ t.rail.ejectPending = false ∧
  (∀ k : Sec, t.rail.stalls[k] = none) ∧ t.rail.hold = .none ∧ t.rail.gateTime = 400 ∧ t.rail.adm = .idle ∧
  t.rail.heldTag = none ∧ t.rail.admTimer = none ∧ t.rail.jog = none ∧
  t.rail.gate = (if s.inputs.gateClosed then .closed else if s.inputs.presence[(5 : Sec)] then .unknown else .closing) ∧
  t.rail.gateTimer = (if t.rail.gate = .closing then some 4000 else none) ∧
  t.rail.confirmTimer = (if t.rail.gate = .closing then some 24000 else none) ∧
  (∀ c : Chan, t.drive.chans[c] = { Channel.reset with latch := s.inputs.fault c }) ∧
  (∀ g : Gen, t.drive.gens[g] = Generator.reset) ∧ t.drive.reportOvercurrent = false ∧ t.drive.reportOpenLoad = false

/-! ## The lamps -/

/-- The lamps show a row of contents in their character cells: the level of each segment is the one its cell's content gives
it, at the segment's place in the chain (R181, R189). -/
def Lamps.shows (l : Lamps) (cells : List Cell) : Prop :=
  ∀ (i : Nat) (c : Cell), cells[i]? = some c → ∀ j < Config.cellSegments,
    l.on (100 + i * Config.cellSegments + j) = c.lit j

/-- A field of `w` cells shows the number `n` in decimal: right-aligned, the positions to its left blank, and 0 as a single
0 (R181). -/
def showsNumber (w n : Nat) (cells : List Cell) : Prop :=
  ∃ ds : List (Fin 10), cells = List.replicate (w - ds.length) .dark ++ ds.map Cell.digit ∧ ds ≠ [] ∧ ds.length ≤ w ∧
    (ds.length = 1 ∨ ds.head? ≠ some 0) ∧ ds.foldl (fun v d => 10 * v + d.val) 0 = n

/-- The pass in progress is within the chain, and the levels are in their form (R189). -/
def Face.Ok (f : Face) : Prop := f.lamps.wf ∧ f.carried.wf ∧ f.shifted ≤ Config.chainLength

/-! ## Admission -/

/-- What the admission decision of `s` with a tag leaves (R11, R26), in a state `t` after it. -/
def State.admits (s : State) (tag : Nat) (t : State) : Prop :=
  t.rail.adm = .idle ∧ t.rail.heldTag = none ∧ t.rail.admTimer = none ∧ t.lots.lots = s.lots.lots ∧
  (∀ n, n ≠ tag → t.lots.trains.get n = s.lots.trains.get n) ∧
  match s.lots.trains.get tag with
  | some r =>
    if r.state = .announced then
      t.rail.secs[(0 : Sec)].occupant = some tag ∧ t.rail.unknownTag = none ∧
      if s.lots.queue.head? = some tag then
        t.lots.queue = s.lots.queue.filter (· ≠ tag) ∧
        t.lots.trains.get tag = some { r with state := .onRail, sec := some 0 } ∧ t.holds .admitted = true
      else
        t.lots.queue = s.lots.queue ∧ t.lots.trains.get tag = some { r with state := .misorder, sec := some 0 } ∧
        t.holds .misorder = true
    else
      t.lots.queue = s.lots.queue ∧ t.lots.trains.get tag = some r ∧ t.rail.secs[(0 : Sec)].occupant = none ∧
      t.rail.unknownTag = some tag ∧ t.holds .unknownTag = true
  | none =>
    t.lots.queue = s.lots.queue ∧ t.lots.trains.get tag = none ∧ t.rail.secs[(0 : Sec)].occupant = none ∧
    t.rail.unknownTag = some tag ∧ t.holds .unknownTag = true

/-- INTAKE once its occupant has become train `n`, in a state `t` after `s` (R26, R27): OCCUPIED, or BLOCKED as before under a
record that names the train, with the unknown tag gone; no stall record is made. -/
def State.intakeNamed (s : State) (n : Nat) (t : State) : Prop :=
  t.rail.secs[(0 : Sec)].cond = (if s.rail.secs[(0 : Sec)].cond = .blocked then .blocked else .occupied) ∧
  t.rail.secs[(0 : Sec)].occupant = some n ∧ t.rail.unknownTag = none ∧
  t.rail.stalls[(0 : Sec)] = (s.rail.stalls[(0 : Sec)]).map (fun st => { st with train := some n }) ∧
  ∀ k : Sec, k ≠ 0 → t.rail.secs[k] = s.rail.secs[k] ∧ t.rail.stalls[k] = s.rail.stalls[k]

/-- Slot `i` holds an eject, the only one in flight. -/
def Rail.ejectIn (r : Rail) (i : Fin 3) : Prop :=
  ∀ j : Fin 3, (∃ m, r.slots[j] = some m ∧ m.dest = .out) ↔ j = i

/-- The eject dropped or ended as the occupant is admitted, in a state `t` after `s` (R27): none is pending, and one in flight
is gone with its slot free and D0 stopped in its stop mode. Nothing else in flight and no other channel changes. -/
def State.ejectCut (s t : State) : Prop :=
  t.rail.ejectPending = false ∧
  ((∀ (i : Fin 3) (m : Move), s.rail.slots[i] = some m → m.dest ≠ .out) →
    t.rail.slots = s.rail.slots ∧ t.drive = s.drive) ∧
  ∀ i : Fin 3, s.rail.ejectIn i →
    t.rail.slots[i] = none ∧ (∀ j : Fin 3, j ≠ i → t.rail.slots[j] = s.rail.slots[j]) ∧
    t.drive = { s.drive with chans := t.drive.chans } ∧
    (∀ c : Chan, c ≠ 0 → t.drive.chans[c] = s.drive.chans[c]) ∧
    (s.drive.chans[(0 : Chan)].latch = none → t.drive.chans[(0 : Chan)] =
      { s.drive.chans[(0 : Chan)] with
        output := .off, turn := none, deadTime := none,
        rest := if s.drive.chans[(0 : Chan)].stop = .brake then .braked else .opened })

/-- The eject going on for the train the occupant has become, MISORDER, in a state `t` after `s` (R27). -/
def State.ejectGoesOn (s : State) (n : Nat) (t : State) : Prop :=
  t.rail.ejectPending = s.rail.ejectPending ∧ t.drive = s.drive ∧
  ((∀ (i : Fin 3) (m : Move), s.rail.slots[i] = some m → m.dest ≠ .out) → t.rail.slots = s.rail.slots) ∧
  ∀ i : Fin 3, s.rail.ejectIn i →
    t.rail.slots[i] = (s.rail.slots[i]).map (fun m => { m with train := some n }) ∧
    ∀ j : Fin 3, j ≠ i → t.rail.slots[j] = s.rail.slots[j]

/-! ## Money on the desk port -/

/-- A buyer record without its sums of money. -/
def Buyer.unpriced (b : Buyer) : Buyer :=
  { b with limit := 0, pendingSum := 0, owed := 0, fee := 0, dayTotal := 0, dayCount := 0 }

/-- A purchase record without its four amounts. -/
def Purchase.unpriced (r : Purchase) : Purchase := { r with goods := 0, fee := 0, container := 0, total := 0 }

/-- Two states that differ at most in sums of money: those of the buyer records, of the last-refusal record and of the
purchase records. -/
def State.sameButMoney (s t : State) : Prop :=
  s.accounts.buyers.map (fun e => (e.1, e.2.unpriced)) = t.accounts.buyers.map (fun e => (e.1, e.2.unpriced)) ∧
  s.accounts.lastRefusal.map (·.buyer) = t.accounts.lastRefusal.map (·.buyer) ∧
  s.log.records.map Purchase.unpriced = t.log.records.map Purchase.unpriced ∧
  t = { s with accounts := t.accounts, log := { s.log with records := t.log.records } }

/-! ## What every step keeps -/

/-- The three keyed tables are in canonical form: their keys strictly rise, so each key is present at most once
(R1, R8, R151). -/
def State.TablesOk (s : State) : Prop := s.lots.lots.wf ∧ s.lots.trains.wf ∧ s.accounts.buyers.wf

/-- The log holds at most 128 records, whose numbers are consecutive modulo 2^32 and end just below the next sequence
number (R168); and a clock that is RUNNING or in CONTEST has a free entry (R114). -/
def State.LogOk (s : State) : Prop :=
  s.log.records.length ≤ Config.logCapacity ∧
  s.log.records.map (·.seq) =
    (List.range s.log.records.length).map
      (fun i => s.log.nextSeq - BitVec.ofNat 32 (s.log.records.length - i)) ∧
  (s.clock.state = .running ∨ s.clock.state = .contest → s.log.records.length < Config.logCapacity)

/-- The sum of the line totals of the PENDING log records that name a buyer (R157). -/
def Log.pendingTotal (l : Log) (n : Nat) : Nat :=
  ((l.records.filter fun r => r.state = .pending && r.buyer = n).map (·.total)).sum

/-- Every buyer's pending equals the sum of the line totals of the PENDING records that name that buyer (R157), none of
them names an absent buyer with a sum, and pending plus owed and the limit are at most 2,000,000,000 (R151, R158). -/
def State.MoneyOk (s : State) : Prop :=
  (∀ n, s.log.pendingTotal n = match s.accounts.buyers.get n with
    | some b => b.pendingSum
    | none => 0) ∧
  ∀ n b, s.accounts.buyers.get n = some b → b.pendingSum + b.owed ≤ Config.maxLimit ∧ b.limit ≤ Config.maxLimit

/-- A seat is bound to a buyer exactly where that buyer's seat field names that seat (R71, R163). -/
def State.SeatsOk (s : State) : Prop :=
  ∀ (a : SeatAddr) (b : Nat),
    s.scan.seats[a].buyer = some b ↔ ∃ r, s.accounts.buyers.get b = some r ∧ r.seat = some a

/-- The contender list holds at most 8 entries, one for each seat and each buyer, sorted by press time and then by seat
number, and it is empty whenever the clock is not in CONTEST (R134, R135); in CONTEST the opener and the stop time are
present and no press time is above the stop time (R133, R135). -/
def State.ContestOk (s : State) : Prop :=
  s.clock.contenders.length ≤ Config.contenderCapacity ∧
  s.clock.contenders.Pairwise (fun x y => x.before y = true) ∧
  (s.clock.contenders.map (·.seat)).Nodup ∧ (s.clock.contenders.map (·.buyer)).Nodup ∧
  (s.clock.state ≠ .contest → s.clock.contenders = [] ∧ s.clock.opener = none) ∧
  (s.clock.state = .contest → s.clock.contenders ≠ [] ∧ s.clock.opener.isSome ∧
    ∃ ts, s.clock.stopTime = some ts ∧ ∀ x ∈ s.clock.contenders, x.time ≤ ts)

/-- The clock record agrees with the clock state: the halt reason is present only in HALTED, the showing kind only in
SHOWING, the current lot is absent in IDLE, where the price is 0 (R91), and each timer runs only in its state
(R99, R105, R112). The notes are set only in SHOWING (R105). -/
def Clock.Ok (c : Clock) : Prop :=
  (c.halt.isSome ↔ c.state = .halted) ∧ (c.showing.isSome ↔ c.state = .showing) ∧ (c.lot = none ↔ c.state = .idle) ∧
  (c.state = .idle → c.price = 0) ∧ (c.tickTimer.isSome → c.state = .running) ∧
  (c.showTimer.isSome → c.state = .showing) ∧ (c.autoTimer.isSome → c.state = .loaded) ∧
  ((c.notedHalt = true ∨ c.notedWithdraw = true) → c.state = .showing)

/-- The face image is the image that the records give (R187). -/
def State.ImageOk (s : State) : Prop := s.face.image = s.imageNow

/-- A channel with a latched fault rests OFF and OPEN with no turn pending (R57, R64), and a turn is pending exactly while
the dead time runs, with the output OFF (R55, R58). -/
def Channel.Ok (c : Channel) : Prop :=
  (c.latch.isSome → c.output = .off ∧ c.rest = .opened ∧ c.turn = none) ∧
  (c.turn.isSome ↔ c.deadTime.isSome) ∧ (c.turn.isSome → c.output = .off)

/-- Every channel record is consistent. -/
def Drive.Ok (d : Drive) : Prop := ∀ k : Chan, d.chans[k].Ok

/-- A port record is consistent (R192, R193): a reply is being sent exactly while words of it are left; a closed window
holds no frame, no reply and no poison; an open window has its select line low; the event set and the mask hold kinds of
the port's role alone (R199, R200); and a frame that has begun is not yet complete. -/
def Port.Ok (p : Role) (r : Port) : Prop :=
  (r.phase = .reply ↔ r.replyLeft ≠ []) ∧
  (r.window = .closed → r.frame = [] ∧ r.replyLeft = [] ∧ r.poisoned = false) ∧
  (r.window = .opened → r.selectLow = true) ∧
  r.events &&& ~~~ kindBits p = 0 ∧ r.mask &&& ~~~ kindBits p = 0 ∧
  r.frame.length ≤ 2 + Config.maxPayload ∧ (0 < r.discarded → r.frame.length = 2 + Config.maxPayload) ∧
  (∀ e, r.extent = some e → r.received < e)

/-- Every port record is consistent. -/
def State.PortsOk (s : State) : Prop := ∀ p, (s.port p).Ok p

/-- The step table is one that STEP TABLE or a reset can leave: tops in 1..9999 that never decrease, the last 9999, and
steps in 1..255 (R117). -/
def stepsOk (v : Vector Band 8) : Prop :=
  (∀ b ∈ v.toList, 1 ≤ b.top ∧ b.top ≤ 9999 ∧ 1 ≤ b.step ∧ b.step ≤ 255) ∧
  (v.toList.map (·.top)).Pairwise (· ≤ ·) ∧ v[7].top = 9999

/-- Every setting and count lies in its range: the tick period, show time, auto delay and run time (R91), the step table
(R117), the move limits and the gate time (R24, R35), the scan counts (R72), and the quantity and silence count of each
seat, whose link is OFFLINE exactly at silence 16 (R71, R79). -/
def State.RangesOk (s : State) : Prop :=
  2 ≤ s.clock.tickPeriod ∧ s.clock.tickPeriod ≤ 250 ∧ 5 ≤ s.clock.showTime ∧ s.clock.showTime ≤ 100 ∧
  s.clock.autoDelay ≤ 255 ∧ s.clock.runTime ≤ Config.maxRunTime ∧ stepsOk s.clock.steps ∧
  (∀ k : Sec, 5 ≤ s.rail.secs[k].moveLimit ∧ s.rail.secs[k].moveLimit ≤ 255) ∧
  100 ≤ s.rail.gateTime ∧ s.rail.gateTime ≤ 2550 ∧ 8 ≤ s.scan.scanCount ∧ s.scan.scanCount ≤ 256 ∧
  (∀ n, s.scan.nextCount = some n → 8 ≤ n ∧ n ≤ 256) ∧
  ∀ a : SeatAddr, 1 ≤ s.scan.seats[a].quantity ∧ s.scan.seats[a].quantity ≤ 255 ∧
    s.scan.seats[a].silence ≤ Config.maxSilence ∧
    (s.scan.seats[a].link = .offline ↔ s.scan.seats[a].silence = Config.maxSilence)

/-- The moves in flight lie apart (R30, R31): each runs from an OCCUPIED section to the RESERVED section after it, or out
of an OCCUPIED INTAKE, and no two leave one section. -/
def Rail.MovesApart (r : Rail) : Prop :=
  (∀ (i : Fin 3) (m : Move), r.slots[i] = some m →
    r.secs[m.source].cond = .occupied ∧ match m.dest with
      | .sec b => b.val = m.source.val + 1 ∧ r.secs[b].cond = .reserved
      | .out => m.source = 0) ∧
  ∀ (i j : Fin 3) (m n : Move), r.slots[i] = some m → r.slots[j] = some n → m.source = n.source → i = j

/-- No two moves in flight share a channel (R31). -/
def Rail.ChannelsApart (r : Rail) : Prop :=
  ∀ (i j : Fin 3) (m n : Move), r.slots[i] = some m → r.slots[j] = some n →
    (∃ c, c ∈ m.chans ∧ c ∈ n.chans) → i = j

/-! ### The rail and the trains on it -/

/-- Where a train in a state may stand (R8, R11, R12). An ANNOUNCED train stands nowhere. -/
def TrainState.standsAt (st : TrainState) (k : Sec) : Prop :=
  match st with
  | .announced => False
  | .misorder => k = 0
  | .onRail => k ≤ 4
  | .presented | .done => k = 5
  | .leaving => k = 6

/-- A section holds a train that a forward move may convey: ON_RAIL short of PRESENT, and DONE at PRESENT (R30). -/
def State.conveyable (s : State) (k : Sec) : Prop :=
  ∃ t, s.rail.secs[k].occupant = some t ∧ s.lots.trainState t = some (if k = 5 then .done else .onRail)

/-- The stall list agrees with the sections (R43 to R46): a record's from-section is BLOCKED and its train is that
section's occupant; a forward move's record also blocks the section after it, which holds nothing and has no record of its
own; an eject's record stands at INTAKE, and a gate record at PRESENT. -/
def State.StallOk (s : State) (k : Sec) (st : Stall) : Prop :=
  s.rail.secs[k].cond = .blocked ∧ st.train = s.rail.secs[k].occupant ∧
  match st.dest with
  | some (.sec b) => b.val = k.val + 1 ∧ s.rail.secs[b].cond = .blocked ∧ s.rail.secs[b].occupant = none ∧
      s.rail.stalls[b] = none ∧ s.conveyable k
  | some .out => k = 0
  | none => st.cause = .sensor ∨ k = 5

/-- The Rail Controller's record is consistent with itself and with the trains of the Lot Store (chapter 2, R8). -/
structure State.RailOk (s : State) : Prop where
  /-- The moves in flight lie apart (R31). -/
  apart : s.rail.MovesApart
  /-- A move in flight carries the occupant of its from-section: a train that may be conveyed, or an occupant that may be
  ejected (R28, R30). -/
  carries : ∀ (i : Fin 3) (m : Move), s.rail.slots[i] = some m → m.train = s.rail.secs[m.source].occupant ∧
    match m.dest with
    | .sec _ => s.conveyable m.source
    | .out => s.intakeEjectable = true
  /-- A CLEAR or RESERVED section has no occupant (R24). -/
  emptied : ∀ k : Sec, s.rail.secs[k].cond = .clear ∨ s.rail.secs[k].cond = .reserved →
    s.rail.secs[k].occupant = none
  /-- A RESERVED section is the to-section of a move in flight (R24). -/
  reserved : ∀ k : Sec, s.rail.secs[k].cond = .reserved →
    ∃ (i : Fin 3) (m : Move), s.rail.slots[i] = some m ∧ m.dest = .sec k
  /-- Every stall record agrees with the sections (R46). -/
  stalled : ∀ (k : Sec) (st : Stall), s.rail.stalls[k] = some st → s.StallOk k st
  /-- A BLOCKED section that no record names holds no occupant (R50, R53). -/
  unnamed : ∀ k : Sec, s.rail.secs[k].cond = .blocked → s.rail.stallNames k = false → s.rail.secs[k].occupant = none
  /-- The gate's timers run only in a gate operation, in which PRESENT is not BLOCKED and no move touches it (R36, R37). -/
  gate : (s.rail.gateMoving = true ↔ s.rail.confirmTimer.isSome) ∧ (s.rail.gateTimer.isSome → s.rail.gateMoving = true) ∧
    (s.rail.gateMoving = true → s.rail.secs[(5 : Sec)].cond ≠ .blocked ∧ s.rail.slotAt 5 = none)
  /-- A HELD rail has nothing in flight, and a jog runs only on a HELD rail (R39, R40, R51). -/
  hold : (s.rail.hold = .held → s.rail.moving = false ∧ s.rail.gateMoving = false) ∧
    (s.rail.jog.isSome → s.rail.hold = .held)
  /-- An unknown tag is that of an INTAKE with no train, OCCUPIED or BLOCKED under a record (R24, R26). -/
  unknown : s.rail.unknownTag.isSome → s.rail.secs[(0 : Sec)].occupant = none ∧
    (s.rail.secs[(0 : Sec)].cond = .occupied ∨
      s.rail.secs[(0 : Sec)].cond = .blocked ∧ s.rail.stalls[(0 : Sec)].isSome)
  /-- An eject pends only for an occupant that may be ejected (R28). -/
  eject : s.rail.ejectPending = true → s.intakeEjectable = true
  /-- The admission wait's timer runs outside IDLE, a tag is held exactly in WAIT_PRESENCE, and in WAIT_TAG an occupant of
  INTAKE is not yet known (R25). -/
  admission : (s.rail.adm ≠ .idle ↔ s.rail.admTimer.isSome) ∧ (s.rail.adm = .waitPresence ↔ s.rail.heldTag.isSome) ∧
    (s.rail.adm = .waitTag → s.rail.secs[(0 : Sec)].cond = .occupied ∧ s.rail.secs[(0 : Sec)].occupant = none ∧
      s.rail.unknownTag = none ∧ s.rail.ejectPending = false)
  /-- A train's record names the section that holds it, one where a train in its state may stand (R8). -/
  trains : ∀ (t : Nat) (r : Train), s.lots.trains.get t = some r → match r.sec with
    | none => r.state = .announced
    | some k => s.rail.secs[k].occupant = some t ∧ r.state.standsAt k
  /-- Every occupant is a train whose record names the section (R8, R24). -/
  occupants : ∀ (k : Sec) (t : Nat), s.rail.secs[k].occupant = some t →
    ∃ r, s.lots.trains.get t = some r ∧ r.sec = some k

/-- Why no presented train stands under an open gate (R42): D7 is energised only with the gate OPENING or OPEN, or in a jog;
while the gate is OPENING or OPEN, PRESENT holds no PRESENTED train, and no move into PRESENT is in flight or on record as
stalled; and no jog of D7 runs over a PRESENTED train. -/
structure State.GateOk (s : State) : Prop where
  energised : s.drive.chans[(7 : Chan)].output ≠ .off ∨ s.drive.chans[(7 : Chan)].turn.isSome →
    s.rail.gate = .opening ∨ s.rail.gate = .opened ∨ ∃ j, s.rail.jog = some j ∧ j.chan = 7
  opened : s.rail.gate = .opening ∨ s.rail.gate = .opened → s.rail.holdsTrain s.lots 5 .presented = false ∧
    (∀ (i : Fin 3) (m : Move), s.rail.slots[i] = some m → m.dest ≠ .sec 5) ∧
    ∀ (k : Sec) (st : Stall), s.rail.stalls[k] = some st → st.dest ≠ some (.sec 5)
  jogged : ∀ j, s.rail.jog = some j → j.chan = 7 → s.rail.holdsTrain s.lots 5 .presented = false

/-! ### Lots, sales and the records that wait -/

/-- A lot entry is consistent (R1, R2, R7, R16, R107): its units are all accounted for, its outcome is the one its units
sold give and is present only in CLOSED, a lot not yet on the clock has sold nothing, and its last sale is at a price
between floor and start. -/
structure Lot.Ok (l : Lot) : Prop where
  units : l.unitsTotal = l.remaining + l.sold + l.withdrawn
  prices : 1 ≤ l.floorPrice ∧ l.floorPrice ≤ l.startPrice ∧ l.startPrice ≤ Config.maxPrice
  minimum : 1 ≤ l.minimum ∧ l.minimum ≤ l.unitsTotal
  outcome : (l.outcome.isSome ↔ l.state = .closed) ∧ (l.state = .closed → l.outcome = some l.outcomeOf ∧ l.remaining = 0)
  restarts : l.restartsUsed ≤ l.restartLimit
  lastSale : ∀ x, l.lastSale = some x → l.floorPrice ≤ x.price ∧ x.price ≤ l.startPrice
  unsold : l.state = .declared ∨ l.state = .announced ∨ l.state = .waiting ∨ l.state = .loaded →
    l.sold = 0 ∧ l.withdrawn = 0 ∧ l.pendingCount = 0 ∧ l.restartsUsed = 0 ∧ l.lastSale = none
  train : (l.state = .declared → l.train = none) ∧ (l.state ≠ .declared → l.state ≠ .closed → l.train.isSome) ∧
    (l.train.isSome ↔ l.place.isSome)

/-- The lots, the trains and the clock agree (chapters 1 and 5): every lot is consistent and stands at its place in its
train's list, in a state that its train's state allows; a train lists its own lots, each once; at most one lot is LOADED
or ON_CLOCK and it is the current lot, LOADED in LOADED and where the auto delay has ended at a full log (R91); and the
price and, while the price descends, every price of the tick history lie between the current lot's floor and start prices. -/
structure State.LotsOk (s : State) : Prop where
  each : ∀ n l, s.lots.lots.get n = some l → l.Ok
  placed : ∀ n l t, s.lots.lots.get n = some l → l.train = some t → ∃ r p, s.lots.trains.get t = some r ∧
    l.place = some (p + 1) ∧ r.lots[p]? = some n ∧
    (l.state = .announced → r.state = .announced ∨ r.state = .misorder ∨ r.state = .onRail) ∧
    (l.state = .waiting ∨ l.onSale = true → r.state = .presented)
  listed : ∀ t r, s.lots.trains.get t = some r → r.lots ≠ [] ∧ r.lots.length ≤ Config.trainLots ∧ r.lots.Nodup ∧
    ∀ n ∈ r.lots, ∃ l, s.lots.lots.get n = some l ∧ l.train = some t
  onSale : ∀ n l, s.lots.lots.get n = some l → l.onSale = true → s.clock.lot = some n
  current : ∀ n, s.clock.lot = some n → ∃ l, s.lots.lots.get n = some l ∧
    (s.clock.state = .loaded → l.state = .loaded) ∧
    (s.clock.state ≠ .loaded → l.state = .onClock ∨ l.state = .loaded ∧ s.clock.halt = some .logFull) ∧
    l.floorPrice ≤ s.clock.price ∧ s.clock.price ≤ l.startPrice ∧
    (s.clock.state = .running ∨ s.clock.state = .contest → s.clock.history ≠ [] ∧
      ∀ e ∈ s.clock.history, l.floorPrice ≤ e.price ∧ e.price ≤ l.startPrice)

/-- The records of a lot that wait to be posted and were not carried over a pin reset (R18, R179). -/
def Log.waitingOf (l : Log) (n : Nat) : List Purchase :=
  l.records.filter fun r => r.state = .pending && !r.carried && r.lot = n

/-- A lot's pending count is the number of its records that wait, and the units of those are among its units sold; and the
lot of every record that waits is still in the table (R16 to R19). -/
def State.RecordsOk (s : State) : Prop :=
  (∀ n l, s.lots.lots.get n = some l → l.pendingCount = (s.log.waitingOf n).length ∧
    ((s.log.waitingOf n).map (·.units)).sum ≤ l.sold) ∧
  ∀ n, s.log.waitingOf n ≠ [] → (s.lots.lots.get n).isSome

/-- The announcement queue holds every ANNOUNCED and every MISORDER train once, and nothing else (R14). -/
def State.QueueOk (s : State) : Prop :=
  s.lots.queue.Nodup ∧
  ∀ t, t ∈ s.lots.queue ↔ s.lots.trainState t = some .announced ∨ s.lots.trainState t = some .misorder

/-- The tick history of a descending clock (R95, R98, R99): at most 32 entries, run times rising to at most the run time
and prices falling to the price that stands. -/
def Clock.HistoryOk (c : Clock) : Prop :=
  c.state = .running ∨ c.state = .contest →
    c.history.length ≤ Config.historyCapacity ∧
    c.history.Pairwise (fun a b => a.runTime ≤ b.runTime ∧ b.price ≤ a.price) ∧
    (∀ e ∈ c.history, e.runTime ≤ c.runTime) ∧ (c.history.getLast?).map (·.price) = some c.price

/-- Every collection lies within its capacity (R1, R8, R74, R98, R151). -/
def State.CapacityOk (s : State) : Prop :=
  s.lots.lots.length ≤ Config.lotCapacity ∧ s.lots.trains.length ≤ Config.trainCapacity ∧
  s.accounts.buyers.length ≤ Config.buyerCapacity ∧ s.scan.beacons.length ≤ Config.beaconCapacity ∧
  s.clock.history.length ≤ Config.historyCapacity

/-! ## The clock run -/

/-- A run segment begun (R95), from `s` to `t`: the clock record, the beacon table emptied (R74), the current lot ON_CLOCK, and
CLOCK raised. -/
def State.segmentBegun (s t : State) (kind : SegmentKind) : Prop :=
  t.clock.state = .running ∧ t.clock.halt = none ∧ t.clock.lot = s.clock.lot ∧ t.clock.price = s.clock.price ∧
  t.clock.segment = s.clock.segment + 1 ∧ t.clock.kind = kind ∧ t.clock.runTime = 0 ∧
  t.clock.history = [{ runTime := 0, price := s.clock.price }] ∧ t.clock.stopTime = none ∧ t.clock.stopPrice = none ∧
  t.clock.showing = none ∧ t.clock.notedHalt = false ∧ t.clock.notedWithdraw = false ∧
  t.clock.tickTimer = some (s.clock.tickPeriod * 10) ∧ t.clock.contenders = s.clock.contenders ∧
  t.clock.steps = s.clock.steps ∧ t.scan = { s.scan with beacons := [] } ∧ t.holds .clock = true ∧
  (∀ n, t.lots.lots.get n = (s.lots.lots.get n).map fun l =>
    if s.clock.lot = some n ∧ l.state = .loaded then { l with state := .onClock } else l) ∧
  t.lots.trains = s.lots.trains ∧ t.lots.queue = s.lots.queue ∧ t.accounts = s.accounts ∧ t.log = s.log ∧
  t.inputs = s.inputs

/-- The current lot closed (R7, R110), from `s` to `t`: the lot's entry CLOSED with its outcome, or freed where no train and no
record that waits holds it (R19); its train DONE where all its lots are CLOSED (R12); the clock IDLE, or with the next
lot loaded in auto mode (R110 step 5); CLOSED raised. -/
def State.lotClosed (s t : State) (n : Nat) (l : Lot) : Prop :=
  let outcome : LotOutcome := if l.sold = l.unitsTotal then .soldOut else if l.sold = 0 then .noSale else .part
  t.lots.lots.get n = (if l.train = none ∧ l.pendingCount = 0 then none else some
    { l with withdrawn := l.withdrawn + l.remaining, remaining := 0, outcome := some outcome, state := .closed }) ∧
  (∀ x r, l.train = some x → s.lots.trains.get x = some r → r.state = .presented →
    ∃ r', t.lots.trains.get x = some r' ∧ r'.lots = r.lots ∧
      (r'.state = .done ∨ r'.state = .presented) ∧
      (r'.state = .done ↔ ∀ m ∈ r.lots, m = n ∨ ∃ e, s.lots.lots.get m = some e ∧ e.state = .closed)) ∧
  (s.clock.auto = false → t.clock.state = .idle ∧ t.clock.lot = none ∧ t.clock.price = 0 ∧
    ∀ m, m ≠ n → t.lots.lots.get m = s.lots.lots.get m) ∧
  (s.clock.auto = true → s.TablesOk → s.LotsOk →
    t.clock.lot = (s.lots.close n).firstWaiting ∧
    (t.clock.lot = none → t.clock.state = .idle ∧ t.clock.price = 0) ∧
    ∀ m, t.clock.lot = some m → t.clock.state = .loaded ∧ ∃ e, s.lots.lots.get m = some e ∧
      t.lots.lots.get m = some { e with state := .loaded } ∧ t.clock.price = e.startPrice ∧
      t.clock.autoTimer = some (s.clock.autoDelay * 1000)) ∧
  t.clock.halt = none ∧ t.clock.tickTimer = none ∧ t.clock.showTimer = none ∧ t.clock.showing = none ∧
  t.clock.stopTime = none ∧ t.clock.stopPrice = none ∧ t.clock.notedHalt = false ∧ t.clock.notedWithdraw = false ∧
  t.holds .closed = true ∧ t.accounts = s.accounts ∧ t.log = s.log ∧ t.scan = s.scan ∧ t.inputs = s.inputs

/-! ## A contest's close -/

/-- A contender that passes every test of its examination (R141 to R143, R128), with the units, price and amounts of its
purchase. -/
def State.wouldWin (s : State) (l : Lot) (x : Contender) (u p : Nat) (a : Amounts) : Prop :=
  ∃ b, s.accounts.buyers.get x.buyer = some b ∧ b.state = .active ∧
    (l.minimum ≤ x.quantity ∨ l.remaining < l.minimum) ∧ u = min x.quantity l.remaining ∧
    p = priceAt s.clock.history x.time ∧ a = amounts u l.stems p b.fee l.container ∧
    b.pendingSum + b.owed + a.total ≤ b.limit

/-- A contender that passes the first tests of its examination and fails the credit comparison alone (R141, R143, R128), with
the line total and the available amount that the last-refusal record takes. -/
def State.creditRefused (s : State) (l : Lot) (x : Contender) (total : Nat) (available : Int) : Prop :=
  ∃ b, s.accounts.buyers.get x.buyer = some b ∧ b.state = .active ∧
    (l.minimum ≤ x.quantity ∨ l.remaining < l.minimum) ∧
    total = (amounts (min x.quantity l.remaining) l.stems (priceAt s.clock.history x.time) b.fee l.container).total ∧
    b.limit < b.pendingSum + b.owed + total ∧ available = (b.limit : Int) - (b.pendingSum : Int) - (b.owed : Int)

/-- The words of a seat's poll with an answer code and value (R75): its address, its verdict byte and the two. -/
def State.pollWith (s : State) (a : SeatAddr) (code value : Nat) : List LinkWord :=
  ([0xC2, BitVec.ofNat 8 a.val, if s.scan.seats[a].verdict = .accepted then 1 else 0, BitVec.ofNat 8 code,
    BitVec.ofNat 8 value] : List Byte).map LinkWord.sound

/-- An answer given to a seat in a poll slot from `s` to `t`: the seat polled has it in the poll itself, and any other seat in
its record, until its own poll (R76, R85, R139). -/
def State.answeredAt (s t : State) (polled seat : SeatAddr) (c : AnswerCode) (value : Nat) : Prop :=
  if seat = polled then t.scan.sent = s.pollWith polled c.code value
  else t.scan.seats[seat].answer = some { code := c, value := value }

end Sys2Proof.Machine
end

