-- ==== Sys2Proof/Certificates/Slice0/Obligations.lean ====
section
/-!
DEFINITION. The statements about the part that are to be proved.

A statement about a catalogue command speaks of a port that listens (`State.listens`): its window is open, it expects a
command word and the window is not poisoned. `s.frameTaken p` is the part once the command's frame has been received there,
`giveReply` gives the reply, and `s.rejected p st` is both with a refusal: nothing but the port's framing changes. The bytes of
a reply's payload are in the encoding of R195, with what it leaves open as log entry 8 says.
-/

open Sys2Proof Sys2Proof.Machine

/-! ## The machine -/

/-- A step takes the command at the front of the queue, on the state with the queue's rest; with nothing waiting it takes a
presentation notice that waits, else the expiry of a timer that has run out, or it lets 0.1 ms pass. The queue, the idle
step and the waiting notice are the model's choice (log entries 4 and 10). -/
def Obligations.StepTakesFrontOrIdles : Prop :=
  (∀ (c : Instr) (s : State), step { s with pending := c :: s.pending } = exec c s) ∧
  ∀ s : State, s.pending = [] →
    (s.clock.noticeWaiting = true → step s = .next s.takeNotice) ∧
    (s.clock.noticeWaiting = false →
      (∀ i, s.due = some i → step s = exec i s) ∧ (s.due = none → step s = .next (s.elapse 1)))

/-- Every command and event is answered with a next state, and none of them touches the commands that wait. The queue is
the model's own (log entry 4). -/
def Obligations.ExecAnswersAndKeepsQueue : Prop :=
  ∀ (i : Instr) (s : State), ∃ t, exec i s = .next t ∧ t.pending = s.pending

/-- Reading a command's frame gives the command: no field of any payload is dropped, every code is in the catalogue, the
payload is within 64 bytes, and no code is that of an idle word (R193, R194, R197). -/
def Obligations.DecodeReadsEveryFrame : Prop :=
  ∀ (i : Instr) (p : Role) (code : Byte) (payload : List Byte),
    i.wellFormed = true → frameOf i = some (p, code, payload) →
      decodeCommand p code payload = some i ∧ (rolesOf code).isSome ∧ payload.length ≤ 64 ∧ code ≠ 0xFF

/-- A catalogue command is exactly what its frame's words do, clocked one after another on its port, in every state of the
part: an open or closed window, a reply in progress, a frame begun, a poisoned window, a role not permitted. That a command
row stands for its whole frame is the model's choice (log entry 1). -/
def Obligations.CommandIsItsFrameOfWords : Prop :=
  ∀ (i : Instr) (s : State) (p : Role) (code : Byte) (payload : List Byte),
    i.wellFormed = true → frameOf i = some (p, code, payload) →
      exec i s = .next (s.clockWords p (frameWords (s.port p).checkNow code payload))

/-! ## Station ports -/

/-- A fall of select opens the port's window with check next in force, nothing of a frame or reply held and no poison; a rise
closes it and carries out a port reset pending (R193, R203). Nothing else of the part changes. -/
def Obligations.SelectOpensAndClosesWindow : Prop :=
  ∀ (p : Role) (s : State),
    ((s.port p).selectLow = false → ∃ t, exec (.selectFall p) s = .next t ∧ t = s.setPort p (t.port p) ∧
      (t.port p).window = .opened ∧ (t.port p).phase = .frame ∧ (t.port p).frame = [] ∧ (t.port p).replyLeft = [] ∧
      (t.port p).poisoned = false ∧ (t.port p).checkNow = (s.port p).checkNext ∧
      (t.port p).checkNext = (s.port p).checkNext ∧ (t.port p).events = (s.port p).events ∧
      (t.port p).mask = (s.port p).mask ∧ (t.port p).resetPending = (s.port p).resetPending ∧ t.listens p = true) ∧
    ((s.port p).selectLow = true → ∃ t, exec (.selectRise p) s = .next t ∧ t = s.setPort p (t.port p) ∧
      (t.port p).window = .closed ∧ (t.port p).frame = [] ∧ (t.port p).replyLeft = [] ∧ (t.port p).poisoned = false ∧
      (t.port p).resetPending = false ∧ (t.port p).out = LinkWord.idle ∧
      if (s.port p).resetPending then
        (t.port p).events = 0 ∧ (t.port p).mask = 0 ∧ (t.port p).checkNow = false ∧ (t.port p).checkNext = false ∧
          t.attention p = false
      else (t.port p).events = (s.port p).events ∧ (t.port p).mask = (s.port p).mask ∧
        (t.port p).checkNext = (s.port p).checkNext)

/-- Words clocked on a closed window, and idle words where a command word is expected, change nothing and read 0xFF; the
words clocked during a reply carry it out in order, whatever they hold, and after its last word the port is in FRAME
(R193, R195). -/
def Obligations.ReplyIsClockedOutInOrder : Prop :=
  ∀ (p : Role) (s : State),
    ((s.port p).window = .closed → ∀ w, exec (.wordClocked p w) s = .next (s.onPort p fun r => { r with out := 0x1FF })) ∧
    ((s.port p).ready = true → ∀ w : LinkWord, w.isIdle = true →
      exec (.wordClocked p w) s = .next (s.onPort p fun r => { r with out := 0x1FF })) ∧
    ((s.port p).window = .opened → (s.port p).phase = .reply → ∀ ws : List LinkWord, ws ≠ [] →
      ws.length ≤ (s.port p).replyLeft.length →
        ∃ t, Sys2Proof.core.run ws.length { s with pending := ws.map (Instr.wordClocked p) } = .next t ∧
          t = (({ s with pending := [] } : State).setPort p (t.port p)) ∧
          ((s.port p).replyLeft.take ws.length).getLast? = some (t.port p).out ∧
          (t.port p).replyLeft = (s.port p).replyLeft.drop ws.length ∧
          ((t.port p).phase = .frame ↔ ws.length = (s.port p).replyLeft.length) ∧
          (t.port p).events = (s.port p).events ∧ (t.port p).mask = (s.port p).mask)

/-- A frame with a line error is answered by the port and reaches no owner: LINK_ERROR for a parity error or a wrong check
word, LENGTH for a length word above 64, and the window is poisoned; in a poisoned window every whole frame is answered
LINK_ERROR (R196). -/
def Obligations.LineErrorsPoisonTheWindow : Prop :=
  ∀ (p : Role) (s : State) (ws : List LinkWord),
    (s.port p).ready = true → wholeFrame (s.port p).checkNow ws = true →
      exec (.frameLineError p ws) s = .next (
        if (s.port p).poisoned then s.rejected p .linkError else
        let poisoned := (s.frameTaken p).onPort p fun r => { r with poisoned := true }
        if (∃ w ∈ ws, w.parityGood = false) ∨
            ((s.port p).checkNow = true ∧
              (ws.getLast?.map LinkWord.data) ≠ some (crc8 (ws.dropLast.map LinkWord.data)))
        then poisoned.giveReply p (Reply.bare .linkError)
        else if (ws.map LinkWord.data)[1]?.any (fun l => decide (64 < l.toNat)) then poisoned.giveReply p (Reply.bare .length)
        else s.clockWords p ws)

/-- A sound frame is tested for its code, its role and its payload length, in this order, and answered with the first test
that fails: UNKNOWN whatever the role and the payload, NOT_PERMITTED whatever the payload, and LENGTH last. Such a refusal
changes no record and does not poison the window (R197). The first two clauses are of command rows, the others of the
frame's words clocked one after another, which spell a payload of any length up to 64. -/
def Obligations.PortTestsCodeRoleLength : Prop :=
  (∀ (p : Role) (s : State) (code : Byte) (payload : List Byte),
    s.listens p = true → (Instr.unknownCommand p code payload).wellFormed = true →
      exec (.unknownCommand p code payload) s = .next (s.rejected p .unknown)) ∧
  (∀ (i : Instr) (p : Role) (code : Byte) (payload : List Byte) (roles : List Role) (s : State),
    s.listens p = true → i.wellFormed = true → frameOf i = some (p, code, payload) → rolesOf code = some roles →
      p ∉ roles → exec i s = .next (s.rejected p .notPermitted)) ∧
  ∀ (p : Role) (code : Byte) (payload : List Byte) (s : State),
    s.listens p = true → s.pending = [] → payload.length ≤ 64 → code ≠ 0xFF →
      let ws := frameWords (s.port p).checkNow code payload
      let run := Sys2Proof.core.run ws.length { s with pending := ws.map (Instr.wordClocked p) }
      (rolesOf code = none → run = .next (s.rejected p .unknown)) ∧
      (∀ roles, rolesOf code = some roles → p ∉ roles → run = .next (s.rejected p .notPermitted)) ∧
      ∀ roles, rolesOf code = some roles → p ∈ roles → decodeCommand p code payload = none →
        run = .next (s.rejected p .length)

/-- The commands a port owns act on that port's record alone (R197, R200 to R203): READ EVENTS returns and empties the set and
releases the line, SET EVENT MASK stores a mask of the role's own kinds, CHECK sets check next and refuses any value but 0
and 1, PORT RESET pends, and READ IDENTITY gives the six bytes. In a poisoned window none of them is done: each is answered
LINK_ERROR. -/
def Obligations.PortOwnCommands : Prop :=
  ∀ (p : Role) (s : State),
    ((s.port p).ready = true → (s.port p).poisoned = true →
      ∀ i, i ∈ [Instr.readEvents p, .portReset p, .readIdentity p] ∨ (∃ m, i = .setEventMask p m ∨ i = .check p m) →
        exec i s = .next (s.rejected p .linkError)) ∧
    (s.listens p = true →
    (∃ t, exec (.readEvents p) s = .next t ∧ t.attention p = false ∧
      t = ((s.frameTaken p).onPort p fun r => { r with events := 0 }).giveReply p (Reply.done [(s.port p).events])) ∧
    (∀ m : Byte, exec (.setEventMask p m) s = .next (
      if (match p with
        | .desk => m &&& 0xC0
        | .yard => 0
        | .accounts => m &&& 0xF0) = 0
      then ((s.frameTaken p).onPort p fun r => { r with mask := m }).giveReply p (Reply.done [m])
      else s.rejected p .range)) ∧
    (∀ v : Byte, exec (.check p v) s = .next (
      if v = 0 ∨ v = 1 then
        ((s.frameTaken p).onPort p fun r => { r with checkNext := v = 1 }).giveReply p (Reply.done [v])
      else s.rejected p .range)) ∧
    exec (.portReset p) s = .next
      (((s.frameTaken p).onPort p fun r => { r with resetPending := true }).giveReply p (Reply.done [])) ∧
    exec (.readIdentity p) s = .next (s.replied p (Reply.done
      [0x0D, 0x31, 0x0C, 0xA8, 0x01, if s.resetCause = .power then 0 else 1])))

/-! ## Resets -/

/-- A power-on reset empties every record, surveys the rail, examines the fault inputs and begins a closing of a gate that is
not closed over a CLEAR PRESENT (R1, R8, R36, R53, R61, R68, R71, R91, R151, R168, R181, R192, R202); a pin reset leaves the same
but keeps the buyer table, with every seat field absent, and the purchase log, with every record marked carried (R151, R168,
R179, R202). That the commands in the queue, the input levels and the select levels are kept is the model's reading of what
a reset reaches (DEDUCED, log entry 15). -/
def Obligations.ResetsEmptyThePart : Prop :=
  ∀ s : State,
    (∃ t, exec .powerOnReset s = .next t ∧ s.freshAfter t ∧ t.resetCause = .power ∧ t.accounts.buyers = [] ∧
      t.log.records = [] ∧ t.log.nextSeq = 1) ∧
    ∃ t, exec .pinReset s = .next t ∧ s.freshAfter t ∧ t.resetCause = .pin ∧
      (∀ n, t.accounts.buyers.get n = (s.accounts.buyers.get n).map fun b => { b with seat := none }) ∧
      t.accounts.buyers.length = s.accounts.buyers.length ∧
      t.log.records = s.log.records.map (fun r => { r with carried := true }) ∧ t.log.nextSeq = s.log.nextSeq

/-! ## Reads -/

/-- The reads change nothing but the framing of the port they arrive on, and answer as the rules name: the record, field by
field in the order of its rule, NOT_FOUND for an absent one, RANGE for a seat address above 256 or a count other than 1 and
2 (R20, R21, R54, R69, R88, R115, R150, R164, R165, R177, R190). The forms that R195 leaves open are the model's reading
(log entry 8), and the rounding of a time left is a free value (log entry 7). -/
def Obligations.ReadsChangeNoRecord : Prop :=
  ∀ (p : Role) (s : State), s.listens p = true →
    let ok := fun x : Bytes => Host.Outcome.next (φ := Fault) (ρ := Refusal) (s.replied p (Reply.done x))
    let no := fun st : Status => Host.Outcome.next (φ := Fault) (ρ := Refusal) (s.rejected p st)
    let flag := fun b : Bool => ([if b then 1 else 0] : Bytes)
    let seat := fun a : SeatAddr => num1 a.val
    (∀ n, exec (.readLot p n) s = match s.lots.lots.get n.toNat with
      | some l => ok (l.bytes n.toNat)
      | none => no .notFound) ∧
    (∀ n, exec (.readTrain p n) s =
      if n = 0 then ok (counted num2 s.lots.queue)
      else match s.lots.trains.get n.toNat with
        | some tr => ok (tr.bytes n.toNat (queuePosition s.lots.queue n.toNat))
        | none => no .notFound) ∧
    (let r := s.rail
     let held := fun b : Bool => decide (r.hold ≠ .none) && b
     exec (.readRail p) s = ok (
      ((List.finRange 7).flatMap fun k : Sec => num1 r.secs[k].cond.code ++ optional 2 num2 r.secs[k].occupant ++
        (if k = 0 then optional 2 num2 r.unknownTag else []) ++ flag s.inputs.presence[k] ++ num1 r.secs[k].moveLimit) ++
      ((List.finRange 3).flatMap fun i : Fin 3 => optional 6 (fun m : Move => optional 2 num2 m.train ++ num1 m.source.val ++
        num1 (match m.dest with
          | .sec b => b.val
          | .out => 7) ++ num1 (tenthsLeft m.left)) r.slots[i]) ++
      counted num1 ((forwardMoves.reverse.filter fun m => held (r.moveDue s.lots m.1 m.2)).map (fun m => m.2.val) ++
        if held r.ejectDue then [7] else []) ++
      flag (held (r.gateDue s.lots)) ++ flag r.ejectPending ++
      counted (fun x : Sec × Stall => optional 2 num2 x.2.train ++ num1 x.1.val ++
          optional 1 (fun d : Dest => num1 (match d with
            | .sec b => b.val
            | .out => 7)) x.2.dest ++ num1 x.2.cause.code)
        ((List.finRange 7).filterMap fun k : Sec => (r.stalls[k]).map fun st => (k, st)) ++
      num1 r.hold.code ++ num1 r.gate.code ++ num1 (r.wanted s.lots).code ++ num2 r.gateTime ++ flag s.inputs.gateOpen ++
      flag s.inputs.gateClosed ++ num1 r.adm.code ++ optional 2 num2 r.heldTag ++
      optional 3 (fun j : Jog => num1 j.chan.val ++ num1 j.dir.code ++ num1 (tenthsLeft j.left)) r.jog)) ∧
    (let c := s.clock
     exec (.readClock p) s = ok (
      num1 c.state.code ++ optional 1 (fun h : HaltReason => num1 h.code) c.halt ++ optional 2 num2 c.lot ++ num2 c.price ++
      num4 c.runTime ++ [c.segment] ++ num1 c.kind.code ++ optional 4 num4 c.stopTime ++ optional 2 num2 c.stopPrice ++
      optional 1 (fun k : ShowingKind => num1 k.code) c.showing ++ flag c.notedHalt ++ flag c.notedWithdraw ++
      num1 c.tickPeriod ++ num1 c.showTime ++ flag c.auto ++ num1 c.autoDelay ++ optional 2 num2 c.tickTimer ++
      optional 4 num4 c.showTimer ++ optional 4 num4 c.autoTimer ++
      counted (fun e : TickRec => num4 e.runTime ++ num2 e.price) c.history ++
      (c.steps.toList.flatMap fun b => num2 b.top ++ num1 b.step) ++ optional 1 seat c.opener ++
      counted (fun x : Contender => seat x.seat ++ num2 x.buyer ++ num1 x.quantity ++ num4 x.time) c.contenders)) ∧
    (let f := s.face
     exec (.readFace p) s = ok (
      num1 (match s.clock.state with
        | .running => 0
        | .contest | .showing => 1
        | .idle | .loaded | .halted => 2) ++
      (f.map.toList.flatMap fun g => num1 g.val) ++ optional 2 num2 f.testTimer ++ optional 1 num1 f.image.ring ++
      num2 (match f.image.price with
        | .blank => 0
        | .dashes => 0xFFFF
        | .price n => n) ++
      optional 10 (fun l : LotPanel => num2 l.lot ++ num4 l.product ++ num2 l.grower ++ num1 l.grade ++ num1 l.remaining)
        f.image.lot ++
      optional 3 (fun b : BuyerPanel => num2 b.buyer ++ num1 b.units) f.image.buyer ++ counted num2 f.image.preview)) ∧
    (p ≠ .accounts → exec (.readDrive p) s = ok (
      ((List.finRange 8).flatMap fun k : Chan =>
        let c := s.drive.chans[k]
        num1 c.output.code ++ num1 c.rest.code ++ optional 1 (fun d : Dir => num1 d.code) c.turn ++ num1 c.mode.code ++
          num1 c.gen.val ++ num1 c.stop.code ++ num1 (match c.latch with
            | none => 0
            | some .overcurrent => 1
            | some .openLoad => 2) ++ flag s.inputs.overcurrent[k] ++ flag s.inputs.openLoad[k]) ++
      flag s.drive.reportOvercurrent ++ flag s.drive.reportOpenLoad ++
      (s.drive.gens.toList.flatMap fun g => flag g.enabled ++ num1 g.period.code ++ num1 g.duty))) ∧
    (∀ n, exec (.readBuyer p n) s =
      if n = 0 then
        ok (num2 s.accounts.buyers.length ++ num2 (512 - s.accounts.buyers.length) ++
          optional 10 (Refused.bytes p) s.accounts.lastRefusal)
      else match s.accounts.buyers.get n.toNat with
        | some b => ok (b.bytes p n.toNat)
        | none => no .notFound) ∧
    (∀ (a : BitVec 16) (x : SeatAddr), a.toNat = x.val → exec (.readSeat p a) s =
      let e := s.scan.seats[x]
      ok (num1 e.link.code ++ optional 2 num2 e.buyer ++ num1 e.quantity ++ (match e.answer with
          | some y => num1 y.code.code ++ num1 y.value
          | none => [0, 0]) ++
        num1 e.verdict.code ++ num1 e.silence ++ flag (decide (x.val < s.scan.scanCount)))) ∧
    (exec (.readSeat p 256) s = ok (
      num2 s.scan.scanCount ++ optional 2 num2 s.scan.nextCount ++ [s.scan.beaconNo] ++
      optional 1 seat (match s.scan.pos with
        | .beacon => none
        | .seat a => some a) ++
      num2 (s.scan.seats.toList.filter fun x => x.link = .online).length ++
      num2 (s.scan.seats.toList.filter fun x => x.buyer.isSome).length ++
      counted (fun b : BeaconRec => [b.number, b.segment] ++ num4 b.runTime ++ flag b.running) s.scan.beacons)) ∧
    (∀ a : BitVec 16, 256 < a.toNat → exec (.readSeat p a) s = no .range) ∧
    (p ≠ .yard → ∀ i n : Byte, exec (.readLog p i n) s =
      if n = 1 ∨ n = 2 then
        ok (num1 s.log.records.length ++ split4 s.log.nextSeq ++
          counted (Purchase.bytes p) ((s.log.records.drop i.toNat).take n.toNat))
      else no .range)

/-- What the desk port is told of buyers and purchases does not depend on any sum of money: two states that differ only in
such sums give the desk the same replies to READ BUYER and READ LOG (R164, R165, R178). -/
def Obligations.DeskReadsShowNoMoney : Prop :=
  ∀ s s' : State, s.sameButMoney s' → s.listens .desk = true →
    (∀ n, ∃ t t', exec (.readBuyer .desk n) s = .next t ∧ exec (.readBuyer .desk n) s' = .next t' ∧
      t.port .desk = t'.port .desk) ∧
    ∀ i n, ∃ t t', exec (.readLog .desk i n) s = .next t ∧ exec (.readLog .desk i n) s' = .next t' ∧
      t.port .desk = t'.port .desk

/-! ## The Lot Store -/

/-- DECLARE LOT is refused with RANGE, IN_USE or FULL, tested in this order, and otherwise creates the entry and answers the
number of free entries left (R2). DROP LOT removes a DECLARED entry; it is refused with NOT_FOUND for an absent one and with
STATE in any other state (R3). -/
def Obligations.DeclareAndDropLot : Prop :=
  ∀ s : State, s.listens .yard = true →
    (∀ d : LotDecl, exec (.declareLot .yard d) s = .next (
        if d.lot = 0 ∨ 15 < d.grade.toNat ∨ d.unitsTotal = 0 ∨ d.stems = 0 ∨ 500 < d.stems.toNat ∨ d.minimum = 0 ∨
          d.unitsTotal.toNat < d.minimum.toNat ∨ d.startPrice = 0 ∨ 9999 < d.startPrice.toNat ∨ d.floorPrice = 0 ∨
          d.startPrice.toNat < d.floorPrice.toNat ∨ 999 < d.restartRaise.toNat ∨ 15 < d.restartLimit.toNat ∨
          9999 < d.container.toNat
        then s.rejected .yard .range
        else if (s.lots.lots.get d.lot.toNat).isSome then s.rejected .yard .inUse
        else if 128 ≤ s.lots.lots.length then s.rejected .yard .full
        else
          let entry : Lot :=
            { train := none, place := none, product := d.product.toNat, grower := d.grower.toNat, grade := d.grade.toNat,
              unitsTotal := d.unitsTotal.toNat, stems := d.stems.toNat, minimum := d.minimum.toNat,
              startPrice := d.startPrice.toNat, floorPrice := d.floorPrice.toNat, restartRaise := d.restartRaise.toNat,
              restartLimit := d.restartLimit.toNat, container := d.container.toNat, state := .declared, outcome := none,
              remaining := d.unitsTotal.toNat, sold := 0, withdrawn := 0, restartsUsed := 0, pendingCount := 0,
              lastSale := none }
          (((s.frameTaken .yard).onLots fun ls => { ls with lots := ls.lots.put d.lot.toNat entry }).reface).giveReply .yard
            (Reply.done (num1 (127 - s.lots.lots.length))))) ∧
    ∀ n : BitVec 16, exec (.dropLot .yard n) s = .next (match s.lots.lots.get n.toNat with
      | none => s.rejected .yard .notFound
      | some l =>
        if l.state = .declared then
          (((s.frameTaken .yard).onLots fun ls => { ls with lots := ls.lots.erase n.toNat }).reface).giveReply .yard
            (Reply.done [])
        else s.rejected .yard .state)

/-- ANNOUNCE TRAIN: the tests in their order, the first failing lot named; and when all pass the record is ANNOUNCED, each
listed lot is ANNOUNCED with its train and place, the train stands at the tail of the queue, and the reply is its position;
where an unknown occupant of INTAKE carries the tag, the admission decision is made again with it, whether INTAKE is
OCCUPIED or BLOCKED: an eject pending or in flight is dropped or ended if the train is admitted, and goes on for it if it is
MISORDER (R9, R27). No other lot or train changes. Eligibility is then examined. -/
def Obligations.AnnounceTrainGivesLots : Prop :=
  ∀ (s : State) (t : BitVec 16) (k : Byte) (ns : List (BitVec 16)),
    s.listens .yard = true → ns.length ≤ 30 →
    let absent := fun n : BitVec 16 => (s.lots.lots.get n.toNat).isNone
    let undeclared := fun n : BitVec 16 => !(s.lots.lots.get n.toNat).any fun l => l.state = .declared
    if ns.length = 0 ∨ 12 < ns.length then exec (.announceTrain .yard t k ns) s = .next (s.rejected .yard .length)
    else if t = 0 ∨ k = 0 ∨ 6 < k.toNat ∨ ¬ ns.Nodup then
      exec (.announceTrain .yard t k ns) s = .next (s.rejected .yard .range)
    else if (s.lots.trains.get t.toNat).isSome then
      exec (.announceTrain .yard t k ns) s = .next (s.rejected .yard .inUse)
    else if 24 ≤ s.lots.trains.length then exec (.announceTrain .yard t k ns) s = .next (s.rejected .yard .full)
    else match ns.find? absent, ns.find? undeclared with
      | some n, _ => exec (.announceTrain .yard t k ns) s =
          .next (s.replied .yard { status := .notFound, payload := num2 n.toNat })
      | none, some n => exec (.announceTrain .yard t k ns) s =
          .next (s.replied .yard { status := .state, payload := num2 n.toNat })
      | none, none =>
      let here := s.rail.unknownTag = some t.toNat
      let first := (s.lots.queue ++ [t.toNat]).head? = some t.toNat
      ∃ u, exec (.announceTrain .yard t k ns) s = .next u ∧
        u.lots.queue = (if here ∧ first then s.lots.queue.filter (· ≠ t.toNat) else s.lots.queue ++ [t.toNat]) ∧
        u.lots.trains.get t.toNat = some
          { trolleys := k.toNat, lots := ns.map BitVec.toNat,
            state := if here then (if first then .onRail else .misorder) else .announced,
            sec := if here then some 0 else none } ∧
        (∀ n, n ≠ t.toNat → u.lots.trains.get n = s.lots.trains.get n) ∧
        (∀ (i : Nat) (n : BitVec 16), ns[i]? = some n → u.lots.lots.get n.toNat =
          (s.lots.lots.get n.toNat).map fun l =>
            { l with state := .announced, train := some t.toNat, place := some (i + 1) }) ∧
        (∀ n, n ∉ ns.map BitVec.toNat → u.lots.lots.get n = s.lots.lots.get n) ∧
        (here → u.rail.secs[(0 : Sec)].occupant = some t.toNat ∧ u.rail.unknownTag = none ∧
          (first → u.holds .admitted = true) ∧ (¬ first → u.holds .misorder = true) ∧
          ∃ v : State, u = (v.railDone (s.frameTaken .yard)).giveReply .yard
              (Reply.done (num1 (s.lots.queue.length + 1))) ∧ s.intakeNamed t.toNat v ∧
            (first → s.ejectCut v) ∧ (¬ first → s.ejectGoesOn t.toNat v)) ∧
        (u.port .yard).replyLeft =
          replyWords (s.port .yard).checkNow (Reply.done (num1 (s.lots.queue.length + 1))) ∧
        u.accounts = s.accounts ∧ u.log = s.log ∧ u.clock = s.clock ∧ u.scan = s.scan ∧ u.inputs = s.inputs

/-- CANCEL TRAIN withdraws an ANNOUNCED train: it leaves the queue, its lots are DECLARED again without train and place, and
its record is gone; it is refused with NOT_FOUND for an absent train and with STATE in any other state (R10). -/
def Obligations.CancelTrainReturnsLots : Prop :=
  ∀ (s : State) (t : BitVec 16), s.listens .yard = true →
    match s.lots.trains.get t.toNat with
    | none => exec (.cancelTrain .yard t) s = .next (s.rejected .yard .notFound)
    | some tr =>
      if tr.state = .announced then
        ∃ u, exec (.cancelTrain .yard t) s = .next u ∧
          u.lots.queue = s.lots.queue.filter (· ≠ t.toNat) ∧ u.lots.trains.get t.toNat = none ∧
          (∀ n, n ≠ t.toNat → u.lots.trains.get n = s.lots.trains.get n) ∧
          (∀ n ∈ tr.lots, u.lots.lots.get n = (s.lots.lots.get n).map fun l =>
            { l with state := .declared, train := none, place := none }) ∧
          (∀ n, n ∉ tr.lots → u.lots.lots.get n = s.lots.lots.get n) ∧
          u.ports = (s.replied .yard (Reply.done [])).ports ∧
          u = { s with lots := u.lots, face := u.face, ports := u.ports }
      else exec (.cancelTrain .yard t) s = .next (s.rejected .yard .state)

/-- REORDER moves a queued train to the head, and admits a MISORDER train at once: it leaves the queue and is ON_RAIL at
INTAKE, with ADMITTED; INTAKE is OCCUPIED by it, or stays BLOCKED under its stall record; and an eject pending for it is
dropped, or one in flight is ended with D0 stopped, its slot free and no stall record, before eligibility is examined. An
absent train is refused with NOT_FOUND and one that is not queued with STATE (R15, R27). -/
def Obligations.ReorderMovesToHead : Prop :=
  ∀ (s : State) (t : BitVec 16), s.listens .yard = true →
    match s.lots.trains.get t.toNat with
    | none => exec (.reorder .yard t) s = .next (s.rejected .yard .notFound)
    | some tr => match tr.state with
      | .announced => exec (.reorder .yard t) s = .next ((((s.frameTaken .yard).onLots fun ls =>
          { ls with queue := t.toNat :: ls.queue.filter (· ≠ t.toNat) }).reface).giveReply .yard (Reply.done []))
      | .misorder => ∃ u, exec (.reorder .yard t) s = .next u ∧
          u.lots.queue = s.lots.queue.filter (· ≠ t.toNat) ∧
          u.lots.trains.get t.toNat = some { tr with state := .onRail, sec := some 0 } ∧
          (∀ n, n ≠ t.toNat → u.lots.trains.get n = s.lots.trains.get n) ∧ u.lots.lots = s.lots.lots ∧
          u.rail.secs[(0 : Sec)].occupant = some t.toNat ∧ u.rail.unknownTag = none ∧ u.holds .admitted = true ∧
          (u.port .yard).replyLeft = replyWords (s.port .yard).checkNow (Reply.done []) ∧
          ∃ v : State, u = (v.railDone (s.frameTaken .yard)).giveReply .yard (Reply.done []) ∧
            s.intakeNamed t.toNat v ∧ s.ejectCut v
      | .onRail | .presented | .done | .leaving => exec (.reorder .yard t) s = .next (s.rejected .yard .state)

/-! ## The Rail Controller -/

/-- EJECT pends for a MISORDER train or an unknown occupant at an OCCUPIED INTAKE, and eligibility is examined; otherwise it
is refused with STATE, and with BUSY while an eject is pending or in flight (R28). That STATE is tested before BUSY is the
model's choice (log entry 23). -/
def Obligations.EjectPends : Prop :=
  ∀ s : State, s.listens .yard = true →
    let intake := s.rail.secs[(0 : Sec)]
    let misorder := ∃ t, intake.occupant = some t ∧ s.lots.trainState t = some .misorder
    let unknown := intake.occupant = none ∧ s.rail.unknownTag.isSome
    let t := s.frameTaken .yard
    (intake.cond = .occupied ∧ (misorder ∨ unknown) →
      exec (.eject .yard) s = .next (
        if s.rail.ejectPending ∨ s.rail.ejectSlot.isSome then s.rejected .yard .busy
        else ((t.mapRail fun r => { r with ejectPending := true }).railDone t).giveReply .yard (Reply.done []))) ∧
    (¬ (intake.cond = .occupied ∧ (misorder ∨ unknown)) →
      exec (.eject .yard) s = .next (s.rejected .yard .state))

/-- HOLD RAIL from NONE is HELD with HOLD_ACK where nothing is in flight and HOLD_PENDING otherwise, with WANT where a move, an
eject or a gate operation already waits, and changes nothing while a hold stands; RELEASE ends the hold and lets eligibility
be examined, is refused with BUSY during a jog and changes nothing from NONE (R39, R40). After any event of the rail, from
a state `b` to `s` under a hold, WANT is raised exactly where an operation is held back that was not held back in `b`
(R41; DEDUCED, log entry 11). The code of the hold in the reply is log entry 8's. -/
def Obligations.HoldAndRelease : Prop :=
  (∀ s : State, s.listens .yard = true →
    let waits := (s.rail.nextMove s.lots).isSome || s.rail.ejectDue || s.rail.gateDue s.lots
    (s.rail.hold = .none → s.rail.moving = false → s.rail.gateMoving = false →
      ∃ u, exec (.holdRail .yard) s = .next u ∧ u.rail = { s.rail with hold := .held } ∧ u.drive = s.drive ∧
        u.holds .holdAck = true ∧ u.holds .want = (s.holds .want || waits) ∧
        (u.port .yard).replyLeft = replyWords (s.port .yard).checkNow (Reply.done [2])) ∧
    (s.rail.hold = .none → s.rail.moving = true ∨ s.rail.gateMoving = true →
      ∃ u, exec (.holdRail .yard) s = .next u ∧ u.rail = { s.rail with hold := .pending } ∧ u.drive = s.drive ∧
        u.holds .holdAck = s.holds .holdAck ∧ u.holds .want = (s.holds .want || waits) ∧
        (u.port .yard).replyLeft = replyWords (s.port .yard).checkNow (Reply.done [1])) ∧
    (s.rail.hold ≠ .none →
      exec (.holdRail .yard) s = .next (s.replied .yard (Reply.done [if s.rail.hold = .pending then 1 else 2]))) ∧
    exec (.release .yard) s = .next (
      if s.rail.jog.isSome then s.rejected .yard .busy
      else if s.rail.hold = .none then s.replied .yard (Reply.done [])
      else
        let t := s.frameTaken .yard
        ((t.mapRail fun r => { r with hold := .none }).railDone t).giveReply .yard (Reply.done []))) ∧
  ∀ b s : State, s.rail.hold ≠ .none →
    let newly := fun due : State → Bool => due s && !(b.rail.hold ≠ .none && due b)
    ((s.railDone b).holds .want = true ↔ s.holds .want = true ∨
      (∃ k l : Sec, l.val = k.val + 1 ∧ newly (fun x => x.rail.moveDue x.lots k l) = true) ∨
      newly (fun x => x.rail.ejectDue) = true ∨
      newly (fun x => x.rail.gateDue x.lots && x.rail.wanted x.lots = s.rail.wanted s.lots) = true)

/-- While the hold is HOLD_PENDING or HELD the arbiter grants no move and no gate operation begins: an examination of
eligibility changes the hold at most, and no channel (R39). With no hold, it repeats until no slot is free or no move is
eligible, and leaves no gate operation eligible (R31, R36); and where the moves in flight lie apart before, they do so after,
so that no two share a channel (R31). -/
def Obligations.ArbiterLeavesNothingEligible : Prop :=
  ∀ s : State,
    (s.rail.hold ≠ .none → s.settle.rail = { s.rail with hold := s.settle.rail.hold } ∧ s.settle.drive = s.drive ∧
      (s.settle.rail.hold = .held ↔
        s.rail.hold = .held ∨ (s.rail.moving = false ∧ s.rail.gateMoving = false))) ∧
    (s.rail.hold = .none →
      (s.settle.rail.freeSlot = none ∨
        (s.settle.rail.nextMove s.lots = none ∧ s.settle.rail.ejectDue = false)) ∧
      s.settle.rail.gateDue s.lots = false) ∧
    (s.rail.MovesApart → s.settle.rail.MovesApart ∧ s.settle.rail.ChannelsApart)

/-- The grant of a forward move (R31, R32): with no hold and no gate operation due, the eligible move with the highest
destination goes to the lowest free slot with the limit of its destination, which becomes RESERVED, where neither of its
channels holds a latched fault, and both channels are asked to run FORWARD (R57): a channel at rest runs. The grant of an
eject (R29), with no forward move eligible: it takes the lowest free slot with INTAKE's limit, INTAKE stays as it is, D0 is
asked to run REVERSE, and no eject is pending. A grant that a latched fault refuses stalls at once with cause DRIVE_FAULT
(R32, R43): the move's channels are off, its sections are BLOCKED, the stall list holds the record, STALL is raised, and the
slot is free for the moves that are eligible still. -/
def Obligations.ArbiterGrantsHighestMove : Prop :=
  ∀ (s : State) (i : Fin 3),
    s.rail.hold = .none → s.rail.gateDue s.lots = false → s.rail.freeSlot = some i →
    let asked := fun (c : Chan) (d : Dir) =>
      s.settle.drive.chans[c] = (s.drive.chans[c].energise d).1 ∧
      (s.drive.chans[c].output = .off → s.drive.chans[c].turn = none →
        s.settle.drive.chans[c].output = (if d = .forward then .forward else .reverse) ∧
          s.settle.drive.chans[c].rest = .opened)
    (∀ a b : Sec, s.rail.nextMove s.lots = some (a, b) →
      s.drive.chans[a.castSucc].latch = none → s.drive.chans[b.castSucc].latch = none →
        (∀ j : Fin 3, j < i → s.rail.slots[j] ≠ none) ∧
        (∀ c d : Sec, b < d → d.val = c.val + 1 → s.rail.moveDue s.lots c d = false) ∧
        s.settle.rail.slots[i] = some
          { train := s.rail.secs[a].occupant, source := a, dest := .sec b, left := s.rail.secs[b].moveLimit * 1000 } ∧
        s.settle.rail.secs[b].cond = .reserved ∧ s.settle.rail.secs[b].occupant = none ∧
        asked a.castSucc .forward ∧ asked b.castSucc .forward) ∧
    (∀ a b : Sec, s.rail.nextMove s.lots = some (a, b) →
      (s.drive.chans[a.castSucc].latch.isSome ∨ s.drive.chans[b.castSucc].latch.isSome) →
        s.settle.rail.stalls[a] =
          some { train := s.rail.secs[a].occupant, dest := some (.sec b), cause := .driveFault } ∧
        s.settle.rail.secs[a].cond = .blocked ∧ s.settle.rail.secs[a].occupant = s.rail.secs[a].occupant ∧
        s.settle.rail.secs[b].cond = .blocked ∧ s.settle.rail.secs[b].occupant = none ∧
        (∀ c ∈ [a.castSucc, b.castSucc], s.settle.drive.chans[c] = s.drive.chans[c].halt ∧
          (s.drive.chans[c].latch = none → s.settle.drive.chans[c].output = .off)) ∧
        s.settle.holds .stall = true ∧ ∀ m, s.settle.rail.slots[i] = some m → m.source ≠ a ∧ m.source ≠ b) ∧
    (s.rail.nextMove s.lots = none → s.rail.ejectDue = true → s.drive.chans[(0 : Chan)].latch.isSome →
      s.settle.rail.stalls[(0 : Sec)] =
        some { train := s.rail.secs[(0 : Sec)].occupant, dest := some .out, cause := .driveFault } ∧
      s.settle.rail.secs[(0 : Sec)].cond = .blocked ∧
      s.settle.rail.secs[(0 : Sec)].occupant = s.rail.secs[(0 : Sec)].occupant ∧
      s.settle.rail.unknownTag = s.rail.unknownTag ∧ s.settle.rail.ejectPending = false ∧
      s.settle.drive = s.drive ∧ s.settle.holds .stall = true ∧ s.settle.rail.slots = s.rail.slots) ∧
    (s.rail.nextMove s.lots = none → s.rail.ejectDue = true → s.drive.chans[(0 : Chan)].latch = none →
      (∀ j : Fin 3, j < i → s.rail.slots[j] ≠ none) ∧
      s.settle.rail.slots[i] = some { train := s.rail.secs[(0 : Sec)].occupant, source := 0, dest := .out,
                                      left := s.rail.secs[(0 : Sec)].moveLimit * 1000 } ∧
      s.settle.rail.secs = s.rail.secs ∧ s.settle.rail.ejectPending = false ∧ asked 0 .reverse)

/-- A presence edge that leaves the to-section of a forward move present and its from-section absent completes the move
(R33, R35, R12): its channels are stopped, the from-section is CLEAR, the to-section is OCCUPIED by the train and the slot
is free; the Lot Store records the section, PRESENTED with its event at PRESENT and LEAVING at DISPATCH. At presentation the
train's ANNOUNCED lots are WAITING (R4), and in IDLE with auto mode on the first of them is loaded (R94); a notice that
waits (log entry 10) changes nothing until it is taken, when it does the same, and nothing outside IDLE with auto mode
(R116). The first of a forward move's two expected edges, a rise at the to-section or a fall at the from-section while the
other is still to come, changes no record, and the move stays in flight (R33, R45). The fall at INTAKE completes an eject (R29), and the fall at DISPATCH under a LEAVING train is its departure
(R13, R38). Any other edge is unexpected: it stalls the move or gate operation it meets, blocks a section that has neither,
each with cause SENSOR and STALL, and changes no record of a BLOCKED one (R43 to R45). Then eligibility is examined. -/
def Obligations.PresenceEdgeCompletesMove : Prop :=
  (∀ (s : State) (i : Fin 3) (m : Move) (k b : Sec) (level : Bool),
    s.rail.slotAt k = some i → s.rail.slots[i] = some m → m.dest = .sec b → b.val = m.source.val + 1 →
    s.inputs.presence[k] ≠ level → (k = b ∧ level = true) ∨ (k = m.source ∧ level = false) →
    (s.setPresence k level).inputs.presence[b] = true → (s.setPresence k level).inputs.presence[m.source] = false →
      ∃ v : State, exec (.presenceEdge k level) s = .next (v.railDone s) ∧
        v.rail.secs[m.source].cond = .clear ∧ v.rail.secs[m.source].occupant = none ∧
        v.rail.secs[b].cond = .occupied ∧ v.rail.secs[b].occupant = m.train ∧ v.rail.slots[i] = none ∧
        (∀ c ∈ m.chans, s.drive.chans[c].latch = none → v.drive.chans[c].output = .off ∧ v.drive.chans[c].turn = none) ∧
        (∀ n, m.train = some n → v.lots.trains.get n = (s.lots.trains.get n).map fun r =>
          { r with sec := some b, state := if b = 5 then .presented else if b = 6 then .leaving else r.state }) ∧
        (b = 5 → m.train.isSome → v.holds .presented = true) ∧
        v.inputs = (s.setPresence k level).inputs ∧ v.accounts = s.accounts ∧ v.log = s.log ∧ v.scan = s.scan ∧
        (b ≠ 5 → v.lots.lots = s.lots.lots ∧ v.clock = s.clock ∧ v.choices = s.choices) ∧
        ∀ n, b = 5 → m.train = some n →
          let prompt := s.choices.late.head? ≠ some true
          let waiting : Lot → Lot := fun l => if l.train = some n ∧ l.state = .announced then { l with state := .waiting } else l
          v.choices.late = s.choices.late.tail ∧
          (¬ (prompt ∧ s.clock.state = .idle ∧ s.clock.auto = true) →
            v.clock = { s.clock with noticeWaiting := s.clock.noticeWaiting || !decide prompt } ∧
            ∀ x, v.lots.lots.get x = (s.lots.lots.get x).map waiting) ∧
          (prompt → s.clock.state = .idle → s.clock.auto = true → s.TablesOk → s.RailOk → s.LotsOk →
            ∀ r x l, s.lots.trains.get n = some r → s.lots.lots.get x = some l →
              r.lots.find? (fun y => (s.lots.lots.get y).any fun e => e.state = .announced) = some x →
              v.clock.state = .loaded ∧ v.clock.lot = some x ∧ v.clock.price = l.startPrice ∧ v.holds .clock = true ∧
              v.clock.autoTimer = some (s.clock.autoDelay * 1000) ∧
              v.lots.lots.get x = some { l with state := .loaded } ∧
              ∀ y e, y ≠ x → s.lots.lots.get y = some e → e.state ≠ .loaded →
                v.lots.lots.get y = some (waiting e))) ∧
  (∀ (s : State) (i : Fin 3) (m : Move) (k b : Sec) (level : Bool),
    s.rail.slotAt k = some i → s.rail.slots[i] = some m → m.dest = .sec b → b.val = m.source.val + 1 →
    s.inputs.presence[k] ≠ level → (k = b ∧ level = true) ∨ (k = m.source ∧ level = false) →
    ¬ ((s.setPresence k level).inputs.presence[b] = true ∧ (s.setPresence k level).inputs.presence[m.source] = false) →
      ∃ u, exec (.presenceEdge k level) s = .next u ∧ u = (s.setPresence k level).railDone s ∧
        u.rail.slots[i] = some m ∧ u.lots = s.lots ∧ u.clock = s.clock) ∧
  (∀ s : State, s.pending = [] → s.clock.noticeWaiting = true → ∃ u, step s = .next u ∧ u.clock.noticeWaiting = false ∧
    (¬ (s.clock.state = .idle ∧ s.clock.auto = true) → u = { s with clock := { s.clock with noticeWaiting := false } }) ∧
    (s.clock.state = .idle → s.clock.auto = true → ∀ n l x, s.lots.firstWaiting = some n → s.lots.lots.get n = some l →
      l.train = some x → s.lots.trainState x = some .presented →
        u.clock.state = .loaded ∧ u.clock.lot = some n ∧ u.clock.price = l.startPrice ∧ u.holds .clock = true ∧
        u.clock.autoTimer = some (s.clock.autoDelay * 1000) ∧ u.lots.lots.get n = some { l with state := .loaded })) ∧
  (∀ (s : State) (i : Fin 3) (m : Move), s.rail.slotAt 0 = some i → s.rail.slots[i] = some m → m.dest = .out →
    s.inputs.presence[(0 : Sec)] = true →
      ∃ v : State, exec (.presenceEdge 0 false) s = .next (v.railDone s) ∧
        v.rail.secs[(0 : Sec)].cond = .clear ∧ v.rail.secs[(0 : Sec)].occupant = none ∧ v.rail.unknownTag = none ∧
        v.rail.ejectPending = false ∧ v.rail.slots[i] = none ∧
        (s.drive.chans[(0 : Chan)].latch = none →
          v.drive.chans[(0 : Chan)].output = .off ∧ v.drive.chans[(0 : Chan)].turn = none) ∧
        (∀ n, v.lots.trains.get n = (s.lots.trains.get n).map fun r =>
          if s.rail.secs[(0 : Sec)].occupant = some n ∧ r.state = .misorder then
            { r with state := .announced, sec := none }
          else r) ∧
        v.lots.queue = s.lots.queue ∧ v.lots.lots = s.lots.lots ∧ v.clock = s.clock) ∧
  (∀ (s : State) (n : Nat) (r : Train), s.rail.slotAt 6 = none → s.rail.secs[(6 : Sec)].cond = .occupied →
    s.rail.secs[(6 : Sec)].occupant = some n → s.lots.trains.get n = some r → r.state = .leaving →
    s.inputs.presence[(6 : Sec)] = true →
      ∃ v : State, exec (.presenceEdge 6 false) s = .next (v.railDone s) ∧
        v.rail.secs[(6 : Sec)].cond = .clear ∧ v.rail.secs[(6 : Sec)].occupant = none ∧ v.holds .dispatched = true ∧
        v.lots.trains.get n = none ∧ (∀ x, x ≠ n → v.lots.trains.get x = s.lots.trains.get x) ∧
        (∀ x ∈ r.lots, v.lots.lots.get x = (s.lots.lots.get x).bind fun l =>
          if l.pendingCount = 0 then none else some { l with train := none, place := none }) ∧
        (∀ x, x ∉ r.lots → v.lots.lots.get x = s.lots.lots.get x) ∧
        v.lots.queue = s.lots.queue ∧ v.clock = s.clock ∧ v.drive = s.drive) ∧
  ∀ (s : State) (k : Sec) (level : Bool), s.inputs.presence[k] ≠ level →
    (∀ (i : Fin 3) (m : Move), s.rail.slotAt k = some i → s.rail.slots[i] = some m →
      (match m.dest with
        | .sec b => b.val = m.source.val + 1 ∧ ((k = b ∧ level = false) ∨ (k = m.source ∧ level = true))
        | .out => level = true) →
      ∃ v : State, exec (.presenceEdge k level) s = .next (v.railDone s) ∧ v.rail.slots[i] = none ∧
        v.rail.stalls[m.source] = some { train := m.train, dest := some m.dest, cause := .sensor } ∧
        v.rail.secs[m.source].cond = .blocked ∧
        (∀ b, m.dest = .sec b → v.rail.secs[m.source].occupant = m.train ∧ v.rail.secs[b].cond = .blocked ∧
          v.rail.secs[b].occupant = none) ∧
        (∀ c ∈ m.chans, s.drive.chans[c].latch = none → v.drive.chans[c].output = .off) ∧
        v.holds .stall = true ∧ v.lots = s.lots ∧ v.clock = s.clock) ∧
    (s.rail.slotAt k = none → ¬ (k = 0 ∧ level = true ∧ s.rail.secs[k].cond = .clear) →
      ¬ (k = 6 ∧ level = false ∧ s.rail.secs[k].cond = .occupied ∧ s.rail.holdsTrain s.lots k .leaving = true) →
      ∃ v : State, exec (.presenceEdge k level) s = .next (v.railDone s) ∧ v.lots = s.lots ∧ v.clock = s.clock ∧
        v.inputs = (s.setPresence k level).inputs ∧
        if s.rail.secs[k].cond = .blocked then v = s.setPresence k level
        else
          v.rail.secs[k].cond = .blocked ∧ v.rail.secs[k].occupant = s.rail.secs[k].occupant ∧
          v.rail.stalls[k] = some { train := s.rail.secs[k].occupant, dest := none, cause := .sensor } ∧
          v.holds .stall = true ∧
          (k = 0 → v.rail.adm = .idle ∧ v.rail.heldTag = none ∧ v.rail.admTimer = none ∧
            v.rail.unknownTag = s.rail.unknownTag) ∧
          (k = 5 → s.rail.gateMoving = true → v.rail.gate = .unknown ∧ v.rail.gateTimer = none ∧
            v.rail.confirmTimer = none ∧ (s.drive.chans[(7 : Chan)].latch = none →
              v.drive.chans[(7 : Chan)].output = .off)) ∧
          (¬ (k = 5 ∧ s.rail.gateMoving = true) → v.drive = s.drive ∧ v.rail.gate = s.rail.gate))

/-- The expiry of a move's limit timer stalls the move with cause TIMEOUT: its sections are BLOCKED, the from-section with the
train of a forward move and the to-section without occupant, the stall list holds the record, and STALL is raised
(R43). -/
def Obligations.MoveLimitExpiryStalls : Prop :=
  ∀ (s : State) (i : Fin 3) (m : Move),
    s.rail.slots[i] = some m → (∀ b, m.dest = .sec b → b.val = m.source.val + 1) →
      ∃ u, exec (.moveLimitExpiry i) s = .next u ∧
        u.rail.stalls[m.source] = some { train := m.train, dest := some m.dest, cause := .timeout } ∧
        u.rail.secs[m.source].cond = .blocked ∧
        (∀ b, m.dest = .sec b → u.rail.secs[m.source].occupant = m.train ∧ u.rail.secs[b].cond = .blocked ∧
          u.rail.secs[b].occupant = none) ∧
        u.holds .stall = true ∧ u.lots = s.lots ∧ u.accounts = s.accounts ∧ u.log = s.log

/-- Admission (R11, R25, R26): in WAIT_TAG a delivered tag decides at once, and the expiry of the tag wait decides with tag 0:
the ANNOUNCED head is admitted, another ANNOUNCED train is MISORDER, and any other tag leaves an unknown occupant. A rise at
a CLEAR INTAKE decides with a held tag, and begins WAIT_TAG without one; a tag delivered while INTAKE is CLEAR or a forward
move is leaving it is held for 2.0 s, replacing any held before, and its expiry discards it. In any other case outside
WAIT_TAG a tag is discarded: no record changes, and a tag held before stays with its time. No eject is pending at a CLEAR
INTAKE (`State.RailOk`). -/
def Obligations.AdmissionDecidesByQueue : Prop :=
  ∀ s : State,
    (∀ tag : BitVec 16, s.rail.adm = .waitTag →
      ∃ u, exec (.tagDelivered tag) s = .next u ∧ s.admits tag.toNat u) ∧
    (s.rail.adm = .waitTag → s.rail.admTimer.isSome →
      ∃ u, exec .tagWaitExpiry s = .next u ∧ s.admits 0 u) ∧
    (∀ tag, s.rail.adm = .waitPresence → s.rail.heldTag = some tag → s.rail.slotAt 0 = none →
      s.rail.secs[(0 : Sec)].cond = .clear → s.inputs.presence[(0 : Sec)] = false →
      ∃ u, exec (.presenceEdge 0 true) s = .next u ∧ s.admits tag u) ∧
    (s.rail.adm = .idle → s.rail.slotAt 0 = none → s.rail.secs[(0 : Sec)].cond = .clear →
      s.inputs.presence[(0 : Sec)] = false → s.rail.ejectPending = false →
      ∃ u, exec (.presenceEdge 0 true) s = .next u ∧ u.rail.adm = .waitTag ∧ u.rail.admTimer = some 20000 ∧
        u.rail.secs[(0 : Sec)].cond = .occupied ∧ u.rail.secs[(0 : Sec)].occupant = none ∧ u.lots = s.lots) ∧
    (let leaving := ∃ (i : Fin 3) (m : Move), s.rail.slots[i] = some m ∧ m.source = 0 ∧ m.dest ≠ .out
     ∀ tag : BitVec 16, s.rail.adm ≠ .waitTag →
      (s.rail.secs[(0 : Sec)].cond = .clear ∨ leaving →
        ∃ u, exec (.tagDelivered tag) s = .next u ∧ u.rail.adm = .waitPresence ∧ u.rail.heldTag = some tag.toNat ∧
          u.rail.admTimer = some 20000 ∧ u.lots = s.lots) ∧
      (s.rail.secs[(0 : Sec)].cond ≠ .clear → ¬ leaving →
        ∃ u, exec (.tagDelivered tag) s = .next u ∧ u = s.railDone s ∧ u.rail.adm = s.rail.adm ∧
          u.rail.heldTag = s.rail.heldTag ∧ u.rail.admTimer = s.rail.admTimer ∧ u.lots = s.lots)) ∧
    (s.rail.adm = .waitPresence → s.rail.admTimer.isSome →
      ∃ u, exec .tagWaitExpiry s = .next u ∧ u.rail.adm = .idle ∧ u.rail.heldTag = none ∧ u.rail.admTimer = none ∧
        u.lots = s.lots)

/-- A gate operation that is eligible begins at once: an opening runs D7 FORWARD and a closing stops it, the position is OPENING
or CLOSING and both gate timers start, and an opening that D7 refuses stalls with cause DRIVE_FAULT. It completes at the
later of its gate timer's expiry and its sensor's rise, and its confirmation timer's expiry stalls it with cause GATE;
outside an operation a sensor edge changes no record (R36, R37, R44). That an expiry row lets the time left pass first is
the model's choice (log entry 6). -/
def Obligations.GateOperationEnds : Prop :=
  ∀ s : State,
    (s.rail.hold = .none → s.rail.gateDue s.lots = true →
      let u := s.settle
      let d := u.drive.chans[(7 : Chan)]
      let started := u.rail.gateTimer = some (s.rail.gateTime * 10) ∧
        u.rail.confirmTimer = some (s.rail.gateTime * 10 + 20000)
      (s.rail.wanted s.lots = .opened → s.drive.chans[(7 : Chan)].latch = none →
        u.rail.gate = .opening ∧ started ∧ d = (s.drive.chans[(7 : Chan)].energise .forward).1 ∧
        (s.drive.chans[(7 : Chan)].output = .off → s.drive.chans[(7 : Chan)].turn = none → d.output = .forward)) ∧
      (s.rail.wanted s.lots = .opened → s.drive.chans[(7 : Chan)].latch.isSome →
        u.rail.gate = .unknown ∧ u.rail.gateTimer = none ∧ u.rail.confirmTimer = none ∧
        u.rail.secs[(5 : Sec)].cond = .blocked ∧ u.holds .stall = true ∧ u.rail.stalls[(5 : Sec)] =
          some { train := s.rail.secs[(5 : Sec)].occupant, dest := none, cause := .driveFault }) ∧
      (s.rail.wanted s.lots ≠ .opened →
        u.rail.gate = .closing ∧ started ∧ d = s.drive.chans[(7 : Chan)].halt ∧
        (s.drive.chans[(7 : Chan)].latch = none → d.output = .off ∧ d.turn = none))) ∧
    (s.rail.gate = .opening → s.rail.gateTimer = none → s.inputs.gateOpen = false →
      exec (.gateSensorEdge .gateOpen true) s = .next (((s.setGateSensor .gateOpen true).mapRail fun r =>
        { r with gate := .opened, gateTimer := none, confirmTimer := none }).railDone s)) ∧
    (s.rail.gate = .closing → s.rail.gateTimer = none → s.inputs.gateClosed = false →
      exec (.gateSensorEdge .gateClosed true) s = .next (((s.setGateSensor .gateClosed true).mapRail fun r =>
        { r with gate := .closed, gateTimer := none, confirmTimer := none }).railDone s)) ∧
    (∀ (g : GateSensor) (level : Bool), s.rail.gateMoving = false → s.inputs.gateSensor g ≠ level →
      exec (.gateSensorEdge g level) s = .next ((s.setGateSensor g level).railDone s)) ∧
    (∀ n, s.rail.gateTimer = some n → s.rail.gateMoving = true →
      exec .gateTimerExpiry s = .next (((s.elapse n).mapRail fun r =>
        if s.rail.gate = .opening ∧ s.inputs.gateOpen then
          { r with gate := .opened, gateTimer := none, confirmTimer := none }
        else if s.rail.gate = .closing ∧ s.inputs.gateClosed then
          { r with gate := .closed, gateTimer := none, confirmTimer := none }
        else { r with gateTimer := none }).railDone s)) ∧
    (s.rail.confirmTimer.isSome →
      ∃ u, exec .confirmationTimerExpiry s = .next u ∧ u.rail.gate = .unknown ∧ u.rail.gateTimer = none ∧
        u.rail.confirmTimer = none ∧ u.rail.secs[(5 : Sec)].cond = .blocked ∧
        u.rail.secs[(5 : Sec)].occupant = s.rail.secs[(5 : Sec)].occupant ∧
        u.rail.stalls[(5 : Sec)] =
          some { train := s.rail.secs[(5 : Sec)].occupant, dest := none, cause := .gate } ∧
        u.holds .stall = true ∧ u.lots = s.lots)

/-- The yard settles a blocked section: RETRY of a stalled forward move or gate operation, RESOLVE of their records, a move's
against the presence inputs, and CLEAR SECTION of a section that no record names, each with its refusals in their order
(R47 to R50). The records of ejects and of lone edges are those of `Obligations.YardSettlesEjectsAndEdges`. -/
def Obligations.YardSettlesStalls : Prop :=
  ∀ (s : State) (k : Sec) (x : Byte), s.listens .yard = true → x.toNat = k.val →
    let t := s.frameTaken .yard
    let ok := fun v : State => Host.Outcome.next (φ := Fault) (ρ := Refusal) ((v.railDone t).giveReply .yard (Reply.done []))
    let no := fun st : Status => Host.Outcome.next (φ := Fault) (ρ := Refusal) (s.rejected .yard st)
    let locked := s.lots.lots.any fun e => e.2.state = .loaded || e.2.state = .onClock
    (exec (.clearSection .yard x) s =
      if (s.rail.slotAt k).isSome then no .busy else if k = 5 ∧ locked then no .locked
      else if s.rail.secs[k].cond ≠ .blocked ∨ s.rail.stallNames k then no .state
      else if s.inputs.presence[k] then no .sensor else ok (t.mapRail fun r => r.clearSec k)) ∧
    (s.rail.stalls[k] = none →
      exec (.retry .yard x) s = no .notFound ∧
      ∀ y : Byte, y = 0 ∨ y = 1 → exec (.resolve .yard x y) s = no .notFound) ∧
    (∀ st b, s.rail.stalls[k] = some st → st.dest = some (.sec b) → b.val = k.val + 1 →
      (exec (.retry .yard x) s =
        if st.cause = .gate ∨ st.cause = .sensor ∨ s.drive.chans[k.castSucc].latch.isSome ∨
          s.drive.chans[b.castSucc].latch.isSome
        then no .state else ok (t.mapRail fun r => ((r.dropStall k).occupy k st.train).clearSec b)) ∧
      (exec (.resolve .yard x 0) s =
        if s.rail.jog.isSome then no .busy else if (k = 5 ∨ b = 5) ∧ locked then no .locked
        else if s.inputs.presence[k] ∧ ¬ s.inputs.presence[b] then
          ok (t.mapRail fun r => ((r.dropStall k).occupy k st.train).clearSec b)
        else no .sensor) ∧
      exec (.resolve .yard x 1) s =
        if s.rail.jog.isSome then no .busy else if (k = 5 ∨ b = 5) ∧ locked then no .locked
        else if ¬ s.inputs.presence[k] ∧ s.inputs.presence[b] then
          ok ((t.mapRail fun r => r.dropStall k).conveyed st.train k b)
        else no .sensor) ∧
    ∀ st, s.rail.stalls[k] = some st → st.dest = none → st.cause ≠ .sensor → k = 5 →
      (exec (.retry .yard x) s =
        if st.cause = .gate ∨ s.drive.chans[(7 : Chan)].latch.isSome then no .state
        else ok (t.mapRail fun r => (r.dropStall 5).presentKept)) ∧
      ∀ y : Byte, y = 0 ∨ y = 1 → exec (.resolve .yard x y) s =
        if s.rail.jog.isSome then no .busy else if locked then no .locked
        else ok (t.mapRail fun r => (r.dropStall 5).presentKept)

/-- JOG runs one channel for its time while the rail is HELD, D7 leaving the gate position UNKNOWN; it is refused with RANGE,
LOCKED, STATE or BUSY in this order (R42, R51); and the expiry of its timer stops the channel in its stop mode, with WANT
where a jog of D7 leaves a gate operation held back (R52). -/
def Obligations.JogRunsAndEnds : Prop :=
  ∀ s : State,
    (∀ (x y z : Byte) (c : Chan) (d : Dir), s.listens .yard = true → x.toNat = c.val →
      y = (if d = .forward then 0 else 1) →
      let locked := s.lots.lots.any fun e => e.2.state = .loaded || e.2.state = .onClock
      if z.toNat = 0 ∨ 50 < z.toNat then exec (.jog .yard x y z) s = .next (s.rejected .yard .range)
      else if (c = 4 ∨ c = 5 ∨ c = 7) ∧ locked ∨ c = 7 ∧ s.rail.holdsTrain s.lots 5 .presented then
        exec (.jog .yard x y z) s = .next (s.rejected .yard .locked)
      else if s.rail.hold ≠ .held ∨ s.drive.chans[c].latch.isSome then
        exec (.jog .yard x y z) s = .next (s.rejected .yard .state)
      else if s.rail.jog.isSome then exec (.jog .yard x y z) s = .next (s.rejected .yard .busy)
      else ∃ u, exec (.jog .yard x y z) s = .next u ∧
        (let j : Jog := { chan := c, dir := d, left := z.toNat * 1000 }
         u.rail = { s.rail with jog := some j, gate := if c = 7 then .unknown else s.rail.gate }) ∧
        u.drive.chans[c] = (s.drive.chans[c].energise d).1 ∧ (∀ e, e ≠ c → u.drive.chans[e] = s.drive.chans[e]) ∧
        u.drive.gens = s.drive.gens ∧ u.lots = s.lots ∧
        (u.port .yard).replyLeft = replyWords (s.port .yard).checkNow (Reply.done [])) ∧
    (∀ j : Jog, s.rail.jog = some j → s.rail.hold = .held →
      ∃ u, exec .jogTimerExpiry s = .next u ∧ u.rail.jog = none ∧ u.rail.secs = s.rail.secs ∧
        (s.drive.chans[j.chan].latch = none → u.drive.chans[j.chan].output = .off ∧
          u.drive.chans[j.chan].rest = (if s.drive.chans[j.chan].stop = .brake then .braked else .opened)) ∧
        (j.chan = 7 → u.rail.gateDue u.lots = true → u.holds .want = true) ∧ u.lots = s.lots)

/-- RETRY, RESOLVE and CLEAR SECTION name a section 0 to 6, and RESOLVE a placement 0 or 1, and are refused with RANGE
otherwise; the record of a stalled eject is settled at INTAKE, and the record of a lone SENSOR edge by RESOLVE alone, against
the presence input (R47 to R50). Two points are the model's choice: RETRY makes an eject pending again only for an occupant
that may still be ejected (R28, R47; log entry 9), and RESOLVE of an eject's record tests presence, with SENSOR, before the
occupant, with STATE (log entry 23). -/
def Obligations.YardSettlesEjectsAndEdges : Prop :=
  ∀ s : State, s.listens .yard = true →
    let t := s.frameTaken .yard
    let ok := fun v : State => Host.Outcome.next (φ := Fault) (ρ := Refusal) ((v.railDone t).giveReply .yard (Reply.done []))
    let no := fun st : Status => Host.Outcome.next (φ := Fault) (ρ := Refusal) (s.rejected .yard st)
    let locked := s.lots.lots.any fun e => e.2.state = .loaded || e.2.state = .onClock
    (∀ x y : Byte, 6 < x.toNat → exec (.retry .yard x) s = no .range ∧ exec (.resolve .yard x y) s = no .range ∧
      exec (.clearSection .yard x) s = no .range) ∧
    (∀ x y : Byte, 1 < y.toNat → exec (.resolve .yard x y) s = no .range) ∧
    (∀ st, s.rail.stalls[(0 : Sec)] = some st → st.dest = some .out →
      (exec (.retry .yard 0) s =
        if st.cause = .gate ∨ st.cause = .sensor ∨ s.drive.chans[(0 : Chan)].latch.isSome then no .state
        else ok (t.mapRail fun r => { (r.dropStall 0).reoccupy 0 with ejectPending := s.intakeEjectable })) ∧
      (exec (.resolve .yard 0 0) s =
        if s.rail.jog.isSome then no .busy
        else if s.inputs.presence[(0 : Sec)] then
          ok (t.mapRail fun r => { (r.dropStall 0).reoccupy 0 with ejectPending := false })
        else no .sensor) ∧
      exec (.resolve .yard 0 1) s =
        if s.rail.jog.isSome then no .busy
        else if s.inputs.presence[(0 : Sec)] then no .sensor
        else if ¬ s.intakeEjectable then no .state
        else ok (t.mapRail fun r => r.dropStall 0).intakeEmptied) ∧
    ∀ (k : Sec) (x : Byte) (st : Stall), x.toNat = k.val → s.rail.stalls[k] = some st → st.dest = none →
      st.cause = .sensor →
      exec (.retry .yard x) s = no .state ∧
      (exec (.resolve .yard x 0) s =
        if s.rail.jog.isSome then no .busy else if k = 5 ∧ locked then no .locked
        else if s.inputs.presence[k] = false then no .sensor
        else if st.train.isSome then ok (t.mapRail fun r => (r.dropStall k).occupy k st.train)
        else if k = 0 then
          ok (t.mapRail fun r =>
            { (r.dropStall 0).reoccupy 0 with unknownTag := some (s.rail.unknownTag.getD 0) })
        else no .state) ∧
      exec (.resolve .yard x 1) s =
        if s.rail.jog.isSome then no .busy else if k = 5 ∧ locked then no .locked
        else if s.inputs.presence[k] then no .sensor
        else if st.train.isSome then no .state
        else ok (t.mapRail fun r => (r.dropStall k).clearSec k)

/-- SET MOVE LIMIT and SET GATE TIME store a clamped value (R34, R37); SET CHANNEL writes the three fields of a channel and
answers with its record (R56); SET FAULT REPORT writes both enables (R65); and SET GENERATOR writes a generator, whose new
period begins at the write where it is newly enabled or its period changes (R62). A field outside its range is refused
with RANGE. -/
def Obligations.RailAndDriveSettings : Prop :=
  ∀ s : State, s.listens .yard = true →
    let t := s.frameTaken .yard
    (∀ (x v : Byte) (k : Sec), x.toNat = k.val → exec (.setMoveLimit .yard x v) s = .next
      ((t.mapRail fun r => r.onSec k fun y => { y with moveLimit := max 5 v.toNat }).giveReply .yard (Reply.done []))) ∧
    (∀ x v : Byte, 6 < x.toNat → exec (.setMoveLimit .yard x v) s = .next (s.rejected .yard .range)) ∧
    (∀ v : Byte, exec (.setGateTime .yard v) s = .next
      ((t.mapRail fun r => { r with gateTime := max 100 (10 * v.toNat) }).giveReply .yard (Reply.done []))) ∧
    (∀ (x m g st : Byte) (c : Chan) (n : Gen), x.toNat = c.val → g.toNat = n.val → m.toNat ≤ 1 → st.toNat ≤ 1 →
      let ch : Channel :=
        { s.drive.chans[c] with
          mode := if m = 0 then .continuous else .pulsed, gen := n, stop := if st = 0 then .coast else .brake }
      let u : State := { t with drive := { s.drive with chans := s.drive.chans.set c ch } }
      exec (.setChannel .yard x m g st) s = .next (u.giveReply .yard (Reply.done (u.chanBytes c)))) ∧
    (∀ x m g st : Byte, 7 < x.toNat ∨ 1 < m.toNat ∨ 5 < g.toNat ∨ 1 < st.toNat →
      exec (.setChannel .yard x m g st) s = .next (s.rejected .yard .range)) ∧
    (∀ a b : Byte, exec (.setFaultReport .yard a b) s = .next (
      if a.toNat ≤ 1 ∧ b.toNat ≤ 1 then
        let u : State := { t with drive := { s.drive with reportOvercurrent := a = 1, reportOpenLoad := b = 1 } }
        u.giveReply .yard (Reply.done [])
      else s.rejected .yard .range)) ∧
    (∀ (x e c d : Byte) (g : Gen), x.toNat = g.val → c.toNat ≤ 3 →
      ∃ u, exec (.setGenerator .yard x e c d) s = .next u ∧ u = { s with drive := u.drive, ports := u.ports } ∧
        u.ports = (s.replied .yard (Reply.done [if e = 0 then 0 else 1, c, d])).ports ∧
        u.drive = { s.drive with gens := u.drive.gens } ∧ (∀ h, h ≠ g → u.drive.gens[h] = s.drive.gens[h]) ∧
        u.drive.gens[g].enabled = (e != 0) ∧ u.drive.gens[g].period.code = c.toNat ∧
        u.drive.gens[g].duty = d.toNat ∧
        (e = 0 → u.drive.gens[g].on = false) ∧
        (e ≠ 0 → s.drive.gens[g].enabled = false ∨ s.drive.gens[g].period.code ≠ c.toNat →
          u.drive.gens[g].dutyNow = d.toNat ∧ u.drive.gens[g].on = decide (0 < d.toNat)) ∧
        (e ≠ 0 → s.drive.gens[g].enabled = true → s.drive.gens[g].period.code = c.toNat →
          u.drive.gens[g].dutyNow = s.drive.gens[g].dutyNow ∧ u.drive.gens[g].on = s.drive.gens[g].on)) ∧
    ∀ x e c d : Byte, 5 < x.toNat ∨ 3 < c.toNat →
      exec (.setGenerator .yard x e c d) s = .next (s.rejected .yard .range)

/-! ## The Drive Unit -/

/-- The end of a channel's dead time drives it in the direction its turn waits for (R58). At the start of a period an enabled
generator takes the duty written and its on-phase begins, and at the end of the on-phase its output is off (R61, R62); an
energised PULSED channel's bridge is driven while its generator is on and is open while it is off (R60). Expiries and phases
that cannot occur change nothing: a period of duty 1 to 254 does not end in its on-phase (log entry 6). -/
def Obligations.TurnsAndPulses : Prop :=
  ∀ s : State,
    (∀ (c : Chan) (n : Nat), s.drive.chans[c].deadTime = some n →
      ∃ u, exec (.deadTimeExpiry c) s = .next u ∧ u = { s.elapse n with drive := u.drive } ∧
        u.drive = { (s.elapse n).drive with chans := u.drive.chans } ∧
        (∀ e, e ≠ c → u.drive.chans[e] = (s.elapse n).drive.chans[e]) ∧
        u.drive.chans[c].deadTime = none ∧ u.drive.chans[c].turn = none ∧
        (∀ d, s.drive.chans[c].turn = some d → u.drive.chans[c].rest = .opened ∧
          u.drive.chans[c].output = (if d = .forward then .forward else .reverse))) ∧
    (∀ c : Chan, s.drive.chans[c].deadTime = none → exec (.deadTimeExpiry c) s = .next s) ∧
    (∀ g : Gen, ∃ u, exec (.generatorPeriodStart g) s = .next u ∧
      u = { s with drive := { s.drive with gens := u.drive.gens } } ∧
      (∀ h, h ≠ g → u.drive.gens[h] = s.drive.gens[h]) ∧
      (s.drive.gens[g].enabled = false → u.drive.gens[g] = s.drive.gens[g]) ∧
      (s.drive.gens[g].on = true → s.drive.gens[g].dutyNow < 255 → u = s) ∧
      (s.drive.gens[g].enabled = true → ¬ (s.drive.gens[g].on = true ∧ s.drive.gens[g].dutyNow < 255) → u.drive.gens[g] =
        { s.drive.gens[g] with dutyNow := s.drive.gens[g].duty, on := 0 < s.drive.gens[g].duty } ∧
        ∀ c : Chan, s.drive.chans[c].mode = .pulsed → s.drive.chans[c].gen = g → 0 < s.drive.gens[g].duty →
          (s.drive.chans[c].output = .forward → u.drive.bridge c = .forward) ∧
          (s.drive.chans[c].output = .reverse → u.drive.bridge c = .reverse))) ∧
    ∀ g : Gen, ∃ u, exec (.generatorOffPhase g) s = .next u ∧
      u = { s with drive := { s.drive with gens := u.drive.gens } } ∧
      (∀ h, h ≠ g → u.drive.gens[h] = s.drive.gens[h]) ∧
      (s.drive.gens[g].enabled = true → s.drive.gens[g].on = true → s.drive.gens[g].dutyNow < 255 →
        u.drive.gens[g] = { s.drive.gens[g] with on := false } ∧
        ∀ c : Chan, s.drive.chans[c].mode = .pulsed → s.drive.chans[c].gen = g → s.drive.chans[c].output ≠ .off →
          u.drive.bridge c = .opened) ∧
      (¬ (s.drive.gens[g].enabled = true ∧ s.drive.gens[g].on = true ∧ s.drive.gens[g].dutyNow < 255) → u = s)

/-- The assertion of a fault input latches its kind on a channel that holds no latch: the channel is OFF and open, FAULT is
raised where the kind is reported, a move that runs the channel stalls with DRIVE_FAULT, a fault of D7 makes the gate
position UNKNOWN and stalls a gate operation, and a jog of the channel ends (R64, R65). With a latch present, and at a
release, nothing but the input's level changes. -/
def Obligations.FaultsLatchAndStop : Prop :=
  ∀ (s : State) (c : Chan) (k : FaultKind),
    (s.inputs.faultInput c k = false → s.drive.chans[c].latch = none →
      ∃ u, exec (.faultAssertion c k) s = .next u ∧ u.inputs = (s.setFaultInput c k true).inputs ∧
        u.drive.chans[c].latch = some k ∧ u.drive.chans[c].output = .off ∧ u.drive.chans[c].rest = .opened ∧
        u.drive.chans[c].turn = none ∧ (s.drive.reports k = true → u.holds .fault = true) ∧
        (∀ i m, s.rail.slotOfChan c = some i → s.rail.slots[i] = some m →
          u.rail.secs[m.source].cond = .blocked ∧ u.holds .stall = true ∧
          u.rail.stalls[m.source] = some { train := m.train, dest := some m.dest, cause := .driveFault }) ∧
        (c = 7 → s.rail.gateMoving = true → u.rail.gate = .unknown ∧ u.rail.secs[(5 : Sec)].cond = .blocked ∧
          u.rail.stalls[(5 : Sec)] =
            some { train := s.rail.secs[(5 : Sec)].occupant, dest := none, cause := .driveFault }) ∧
        (c = 7 → u.rail.gate = .unknown ∨ u.rail.gateMoving = true) ∧
        (∀ j, s.rail.jog = some j → j.chan = c → u.rail.jog = none) ∧
        u.lots = s.lots ∧ u.clock = s.clock ∧ u.scan = s.scan ∧ u.accounts = s.accounts ∧ u.log = s.log) ∧
    (s.inputs.faultInput c k = false → s.drive.chans[c].latch.isSome →
      exec (.faultAssertion c k) s = .next (s.setFaultInput c k true)) ∧
    exec (.faultRelease c k) s = .next (s.setFaultInput c k false) ∧
    (s.setFaultInput c k false).inputs.faultInput c k = false

/-- CLEAR DRIVE FAULTS leaves on every channel the latch that its fault inputs give, OVERCURRENT before OPEN_LOAD, with the
channel OFF and open; each latch set is reported as a new one, so that FAULT is raised where its kind is reported and, on a
consistent rail (`State.RailOk`), a move that runs the channel stalls; and the reply carries the eight latches (R67). -/
def Obligations.ClearDriveFaultsExamines : Prop :=
  ∀ s : State, s.listens .yard = true →
    ∃ u, exec (.clearDriveFaults .yard) s = .next u ∧
      (∀ c : Chan, u.drive.chans[c].latch =
        if s.inputs.overcurrent[c] then some .overcurrent else if s.inputs.openLoad[c] then some .openLoad else none) ∧
      (∀ (c : Chan) (k : FaultKind), u.drive.chans[c].latch = some k →
        u.drive.chans[c].output = .off ∧ u.drive.chans[c].rest = .opened ∧
        (s.drive.reports k = true → u.holds .fault = true) ∧
        (s.RailOk → ∀ (i : Fin 3) (m : Move), s.rail.slots[i] = some m → c ∈ m.chans →
          u.rail.secs[m.source].cond = .blocked ∧ u.holds .stall = true ∧
          u.rail.stalls[m.source] = some { train := m.train, dest := some m.dest, cause := .driveFault })) ∧
      (u.port .yard).replyLeft = replyWords (s.port .yard).checkNow (Reply.done (allChans.map fun c =>
        if s.inputs.overcurrent[c] then 1 else if s.inputs.openLoad[c] then 2 else 0)) ∧
      u.drive.gens = s.drive.gens ∧ u.lots = s.lots ∧ u.inputs = s.inputs ∧ u.clock = s.clock ∧ u.scan = s.scan ∧
      u.accounts = s.accounts ∧ u.log = s.log

/-! ## The Clock Engine -/

/-- LOAD in IDLE or LOADED takes a WAITING lot of the PRESENTED train: a LOADED lot returns to WAITING, the lot is LOADED and
current at its start price, which the face shows, the face test ends, in auto mode the auto timer starts, and a jog of D4
or D5 ends. An absent lot is refused with NOT_FOUND, another with STATE, and any in a later clock state with BUSY
(R5, R93, R112, R184, R188, R42). -/
def Obligations.LoadTakesWaitingLot : Prop :=
  ∀ (s : State) (n : BitVec 16), s.listens .desk = true →
    if s.clock.state ≠ .idle ∧ s.clock.state ≠ .loaded then
      exec (.load .desk n) s = .next (s.rejected .desk .busy)
    else match s.lots.lots.get n.toNat with
      | none => exec (.load .desk n) s = .next (s.rejected .desk .notFound)
      | some l =>
        if l.state = .waiting ∧ ∃ x, l.train = some x ∧ s.lots.trainState x = some .presented then
          ∃ u, exec (.load .desk n) s = .next u ∧ u.clock.state = .loaded ∧ u.clock.lot = some n.toNat ∧
            u.clock.price = l.startPrice ∧ u.clock.halt = none ∧ u.clock.showing = none ∧ u.clock.stopTime = none ∧
            u.clock.stopPrice = none ∧ u.clock.notedHalt = false ∧ u.clock.notedWithdraw = false ∧
            u.clock.runTime = s.clock.runTime ∧ u.clock.segment = s.clock.segment ∧ u.clock.history = s.clock.history ∧
            u.clock.autoTimer = (if s.clock.auto then some (s.clock.autoDelay * 1000) else s.clock.autoTimer) ∧
            u.lots.lots.get n.toNat = some { l with state := .loaded } ∧
            (∀ m e, m ≠ n.toNat → s.lots.lots.get m = some e → u.lots.lots.get m =
              some (if e.state = .loaded then { e with state := .waiting } else e)) ∧
            u.lots.trains = s.lots.trains ∧ u.lots.queue = s.lots.queue ∧
            u.face.image.price = .price l.startPrice ∧ u.face.image.ring = some (l.startPrice % 100) ∧
            (s.clock.state = .idle → u.holds .clock = true ∧ u.face.testTimer = none) ∧
            (∀ j, s.rail.jog = some j → j.chan = 4 ∨ j.chan = 5 → u.rail.jog = none) ∧
            (u.port .desk).replyLeft =
              replyWords (s.port .desk).checkNow (Reply.done (num2 n.toNat ++ num2 l.startPrice)) ∧
            u.scan = s.scan ∧ u.accounts = s.accounts ∧ u.log = s.log ∧ u.inputs = s.inputs
        else exec (.load .desk n) s = .next (s.rejected .desk .state)

/-- START from LOADED begins a FIRST segment and RESUME from HALTED a RESTARTED one, each refused with FULL while the log is
full and in another clock state with STATE or BUSY; the end of the auto delay in LOADED begins a FIRST segment, or halts
the clock with LOG_FULL at a full log (R95, R96, R103, R112). That the expiry row lets the time left pass first is the model's
choice (log entry 6). -/
def Obligations.SegmentStarts : Prop :=
  ∀ s : State,
    (s.listens .desk = true → match s.clock.state with
      | .loaded =>
        if s.log.records.length < 128 then ∃ u, exec (.start .desk) s = .next u ∧ s.segmentBegun u .first ∧
          u.clock.autoTimer = none ∧ u.rail = s.rail ∧ u.drive = s.drive ∧
          (u.port .desk).replyLeft = replyWords (s.port .desk).checkNow (Reply.done [])
        else exec (.start .desk) s = .next (s.rejected .desk .full)
      | .idle | .halted => exec (.start .desk) s = .next (s.rejected .desk .state)
      | .running | .contest | .showing => exec (.start .desk) s = .next (s.rejected .desk .busy)) ∧
    (s.listens .desk = true → match s.clock.state with
      | .halted =>
        if s.log.records.length < 128 then ∃ u, exec (.resume .desk) s = .next u ∧ s.segmentBegun u .restarted ∧
          u.clock.autoTimer = s.clock.autoTimer ∧ u.rail = s.rail ∧ u.drive = s.drive ∧
          (u.port .desk).replyLeft = replyWords (s.port .desk).checkNow (Reply.done [])
        else exec (.resume .desk) s = .next (s.rejected .desk .full)
      | .idle | .loaded => exec (.resume .desk) s = .next (s.rejected .desk .state)
      | .running | .contest | .showing => exec (.resume .desk) s = .next (s.rejected .desk .busy)) ∧
    ∀ n, s.clock.autoTimer = some n → s.clock.state = .loaded →
      ∃ u, exec .autoTimerExpiry s = .next u ∧ u.clock.autoTimer = none ∧
        if s.log.records.length < 128 then (s.elapse n).segmentBegun u .first
        else u.clock.state = .halted ∧ u.clock.halt = some .logFull ∧ u.clock.lot = s.clock.lot ∧
          u.clock.price = s.clock.price ∧ u.clock.segment = s.clock.segment ∧ u.holds .clock = true ∧
          u.lots = s.lots ∧ u.scan = s.scan ∧ u.accounts = s.accounts ∧ u.log = s.log

/-- HALT stops a RUNNING clock at its price with reason DESK and is noted in a SHOWING (R102); WITHDRAW closes the current lot
in LOADED, RUNNING and HALTED and is noted in a SHOWING (R109, R110); SET PRICE stores a price clamped between the lot's
floor and start in LOADED and HALTED (R104). Each is refused with STATE or BUSY in the other clock states. -/
def Obligations.HaltWithdrawSetPrice : Prop :=
  ∀ s : State, s.listens .desk = true →
    let t := s.frameTaken .desk
    let no := fun st : Status => Host.Outcome.next (φ := Fault) (ρ := Refusal) (s.rejected .desk st)
    (match s.clock.state with
      | .running => ∃ u, exec (.halt .desk) s = .next u ∧
          u.clock = { s.clock with state := .halted, halt := some .desk, tickTimer := none } ∧ u.holds .clock = true ∧
          (u.port .desk).replyLeft = replyWords (s.port .desk).checkNow (Reply.done []) ∧
          u = { s with clock := u.clock, face := u.face, ports := u.ports }
      | .showing => exec (.halt .desk) s = .next
          ((t.onClock fun c => { c with notedHalt := true }).giveReply .desk (Reply.done []))
      | .contest => exec (.halt .desk) s = no .busy
      | .idle | .loaded | .halted => exec (.halt .desk) s = no .state) ∧
    (match s.clock.state with
      | .loaded | .running | .halted => ∀ n l, s.clock.lot = some n → s.lots.lots.get n = some l →
          l.state = .loaded ∨ l.state = .onClock →
          ∃ u, exec (.withdraw .desk) s = .next u ∧ s.lotClosed u n l ∧
            (u.port .desk).replyLeft = replyWords (s.port .desk).checkNow (Reply.done (num2 n ++
              [if l.sold = l.unitsTotal then 0 else if l.sold = 0 then 2 else 1]))
      | .showing => ∀ n, s.clock.lot = some n → exec (.withdraw .desk) s = .next
          ((t.onClock fun c => { c with notedWithdraw := true }).giveReply .desk (Reply.done (num2 n)))
      | .contest => exec (.withdraw .desk) s = no .busy
      | .idle => exec (.withdraw .desk) s = no .state) ∧
    ∀ v : BitVec 16, match s.clock.state with
      | .loaded | .halted => ∀ n l, s.clock.lot = some n → s.lots.lots.get n = some l →
          let p := max l.floorPrice (min l.startPrice v.toNat)
          exec (.setPrice .desk v) s = .next
            (((t.onClock fun c => { c with price := p }).reface).giveReply .desk (Reply.done (num2 p)))
      | .idle | .running | .contest | .showing => exec (.setPrice .desk v) s = no .state

/-- TICK, SHOW and AUTO DELAY store a clamped setting and answer it or nothing (R101, R105, R113). AUTO turns auto mode on or
off and answers the mode, 1 for on and 0 for off (the model's choice, log entry 8): off, it stops the auto timer; newly on,
it starts the auto timer in LOADED and loads the first WAITING lot of the presented train in IDLE (R111, R94). -/
def Obligations.ClockSettings : Prop :=
  ∀ s : State, s.listens .desk = true →
    let t := s.frameTaken .desk
    (∀ v : Byte, exec (.tick .desk v) s = .next
      ((t.onClock fun c => { c with tickPeriod := max 2 (min 250 v.toNat) }).giveReply .desk
        (Reply.done [BitVec.ofNat 8 (max 2 (min 250 v.toNat))]))) ∧
    (∀ v : Byte, exec (.showTime .desk v) s = .next
      ((t.onClock fun c => { c with showTime := max 5 (min 100 v.toNat) }).giveReply .desk (Reply.done []))) ∧
    (∀ v : Byte, exec (.autoDelay .desk v) s = .next
      ((t.onClock fun c => { c with autoDelay := v.toNat }).giveReply .desk (Reply.done []))) ∧
    (s.clock.auto = true → exec (.auto .desk 0) s = .next
      ((t.onClock fun c => { c with auto := false, autoTimer := none }).giveReply .desk (Reply.done [0]))) ∧
    (s.clock.auto = false → exec (.auto .desk 0) s = .next (s.replied .desk (Reply.done [0]))) ∧
    ∀ v : Byte, v ≠ 0 →
      (s.clock.auto = true → exec (.auto .desk v) s = .next (s.replied .desk (Reply.done [1]))) ∧
      (s.clock.auto = false → match s.clock.state with
        | .loaded => exec (.auto .desk v) s = .next
            ((t.onClock fun c => { c with auto := true, autoTimer := some (s.clock.autoDelay * 1000) }).giveReply .desk
              (Reply.done [1]))
        | .running | .contest | .showing | .halted => exec (.auto .desk v) s = .next
            ((t.onClock fun c => { c with auto := true }).giveReply .desk (Reply.done [1]))
        | .idle => ∃ u, exec (.auto .desk v) s = .next u ∧ u.clock.auto = true ∧
            (u.port .desk).replyLeft = replyWords (s.port .desk).checkNow (Reply.done [1]) ∧
            (s.lots.firstWaiting = none → u.clock = { s.clock with auto := true } ∧ u.lots = s.lots) ∧
            ∀ n l x, s.lots.firstWaiting = some n → s.lots.lots.get n = some l → l.train = some x →
              s.lots.trainState x = some .presented →
              u.clock.state = .loaded ∧ u.clock.lot = some n ∧ u.clock.price = l.startPrice ∧
              u.clock.autoTimer = some (s.clock.autoDelay * 1000) ∧
              u.lots.lots.get n = some { l with state := .loaded })

/-- STEP TABLE replaces the eight bands, a step of 0 stored as 1, and answers them as stored; it is refused with BUSY in
RUNNING and CONTEST, and with RANGE and the number of the first band whose top is not in 1..9999, or else of the first whose
top is below the one before it, or else of band 8 where its top is not 9999 (R118). -/
def Obligations.StepTableIsChecked : Prop :=
  ∀ (s : State) (bs : List BandDecl), s.listens .desk = true → bs.length = 8 →
    exec (.stepTable .desk bs) s = .next (
      let range := fun k : Nat => s.replied .desk { status := .range, payload := [BitVec.ofNat 8 k] }
      if s.clock.state = .running ∨ s.clock.state = .contest then s.rejected .desk .busy
      else match bs.findIdx? (fun b => b.top = 0 ∨ 9999 < b.top.toNat),
          (bs.zip bs.tail).findIdx? (fun x => x.2.top.toNat < x.1.top.toNat) with
        | some i, _ => range (i + 1)
        | none, some i => range (i + 2)
        | none, none =>
          if bs.getLast?.map (·.top) ≠ some 9999 then range 8
          else
            let bands := bs.map fun b : BandDecl => ({ top := b.top.toNat, step := max 1 b.step.toNat } : Band)
            ((s.frameTaken .desk).onClock fun c =>
              { c with steps := Vector.ofFn fun i : Fin 8 => bands.getD i.val { top := 0, step := 0 } }).giveReply .desk
              (Reply.done (bs.flatMap fun b => split2 b.top ++ [if b.step = 0 then 1 else b.step])))

/-- A tick of a RUNNING clock above the floor lowers the price by the step of its band, to the floor at the lowest, enters the
price in the history, whose 33rd entry drops the oldest, and loads the tick timer with the period in force; a tick at the
floor begins a FLOOR showing (R97 to R100, R105, R119, R120). That the run time at the tick is the run time before it and
the timer's time left is the model's choice (log entry 6). -/
def Obligations.TickLowersPrice : Prop :=
  ∀ (s : State) (n m : Nat) (l : Lot) (b : Band),
    s.clock.state = .running → s.clock.tickTimer = some n → s.clock.lot = some m → s.lots.lots.get m = some l →
    s.clock.steps.toList.find? (fun b => s.clock.price ≤ b.top) = some b →
      ∃ u, exec .tickTimerExpiry s = .next u ∧ u.clock.lot = some m ∧ u.clock.segment = s.clock.segment ∧
        u.clock.runTime = min (s.clock.runTime + n) 4294967295 ∧
        u.lots = s.lots ∧ u.accounts = s.accounts ∧ u.log = s.log ∧ u.scan = s.scan ∧ u.inputs = s.inputs ∧
        if l.floorPrice < s.clock.price then
          let p := if s.clock.price < l.floorPrice + b.step then l.floorPrice else s.clock.price - b.step
          let h := s.clock.history ++ [{ runTime := min (s.clock.runTime + n) 4294967295, price := p }]
          u.clock.state = .running ∧ u.clock.price = p ∧ u.clock.history = h.drop (h.length - 32) ∧
          u.clock.tickTimer = some (s.clock.tickPeriod * 10) ∧ u.face.image.price = .price p ∧
          u.face.image.ring = some (p % 100)
        else
          u.clock.state = .showing ∧ u.clock.showing = some .floor ∧ u.clock.price = s.clock.price ∧
          u.clock.history = s.clock.history ∧ u.clock.tickTimer = none ∧
          u.clock.showTimer = some (s.clock.showTime * 1000) ∧ u.face.image.price = .dashes ∧ u.holds .clock = true

/-- The end of a showing: the lot closes after a noted WITHDRAW, with no units remaining or after a FLOOR showing; a noted HALT
halts the clock; a lot with no restart left halts it with RESTART_LIMIT and a full log with LOG_FULL; and otherwise a restart
is counted and a RESTARTED segment begins. The price of a halt or restart is the last sale's price plus the restart raise,
at most the start price (R107, R108). That the expiry row lets the time left pass first, and the price of a lot with no last
sale, which no run shows, are the model's choice (log entries 6 and 19). -/
def Obligations.ShowingEnds : Prop :=
  ∀ (s : State) (n m : Nat) (l : Lot) (k : ShowingKind),
    s.clock.state = .showing → s.clock.showing = some k → s.clock.showTimer = some n → s.clock.lot = some m →
    s.lots.lots.get m = some l → l.state = .loaded ∨ l.state = .onClock →
      ∃ u, exec .showTimerExpiry s = .next u ∧ u.clock.showTimer = none ∧
        let t := s.elapse n
        let p := match l.lastSale with
          | some x => min (x.price + l.restartRaise) l.startPrice
          | none => l.startPrice
        let halted := fun r : HaltReason =>
          u.clock.state = .halted ∧ u.clock.halt = some r ∧ u.clock.price = p ∧ u.clock.lot = some m ∧
          u.clock.showing = none ∧ u.clock.segment = s.clock.segment ∧ u.clock.notedHalt = false ∧
          u.holds .clock = true ∧ u.lots = s.lots ∧ u.scan = s.scan ∧ u.accounts = s.accounts ∧ u.log = s.log
        if s.clock.notedWithdraw = true ∨ l.remaining = 0 ∨ k = .floor then t.lotClosed u m l
        else if s.clock.notedHalt = true then halted .desk
        else if l.restartsUsed = l.restartLimit then halted .restartLimit
        else if s.log.records.length < 128 then
          let v : State := { t with clock := { t.clock with price := p },
                                    lots := t.lots.onLot m fun e => { e with restartsUsed := e.restartsUsed + 1 } }
          v.segmentBegun u .restarted
        else halted .logFull

/-! ## The Seat Scanner -/

/-- SET SCAN COUNT of 8 to 256 is kept as the next count and unbinds every seat at or above it without a RELEASED answer, and
answers how many; it is refused with RANGE, and with BUSY in RUNNING and CONTEST (R72, R86). UNBIND ends one binding with
RELEASED and answers the buyer; it is refused with RANGE above address 255 and with STATE for an unbound seat (R87). That
SET SCAN COUNT tests RANGE before BUSY (log entry 23) and answers the number in one byte (log entry 8) is the model's. -/
def Obligations.SeatsAreUnbound : Prop :=
  ∀ s : State, s.listens .desk = true →
    (∀ n : BitVec 16, n.toNat < 8 ∨ 256 < n.toNat →
      exec (.setScanCount .desk n) s = .next (s.rejected .desk .range)) ∧
    (∀ n : BitVec 16, 8 ≤ n.toNat → n.toNat ≤ 256 → s.clock.state = .running ∨ s.clock.state = .contest →
      exec (.setScanCount .desk n) s = .next (s.rejected .desk .busy)) ∧
    (∀ n : BitVec 16, 8 ≤ n.toNat → n.toNat ≤ 256 → s.clock.state ≠ .running → s.clock.state ≠ .contest →
      ∃ u, exec (.setScanCount .desk n) s = .next u ∧ u.scan.nextCount = some n.toNat ∧
        u.scan = { s.scan with nextCount := some n.toNat, seats := u.scan.seats } ∧
        (∀ a : SeatAddr, u.scan.seats[a] =
          if n.toNat ≤ a.val ∧ s.scan.seats[a].buyer.isSome then { s.scan.seats[a] with buyer := none, answer := none }
          else s.scan.seats[a]) ∧
        (∀ b, u.accounts.buyers.get b = (s.accounts.buyers.get b).map fun r =>
          if ∃ a : SeatAddr, n.toNat ≤ a.val ∧ s.scan.seats[a].buyer = some b then { r with seat := none } else r) ∧
        u = { s with scan := u.scan, accounts := { s.accounts with buyers := u.accounts.buyers }, ports := u.ports } ∧
        u.ports = (s.replied .desk (Reply.done [BitVec.ofNat 8
          ((List.finRange 256).filter fun a => n.toNat ≤ a.val && s.scan.seats[a].buyer.isSome).length])).ports) ∧
    (∀ n : BitVec 16, 255 < n.toNat → exec (.unbind .desk n) s = .next (s.rejected .desk .range)) ∧
    ∀ (n : BitVec 16) (a : SeatAddr), n.toNat = a.val → match s.scan.seats[a].buyer with
      | none => exec (.unbind .desk n) s = .next (s.rejected .desk .state)
      | some b => ∃ u, exec (.unbind .desk n) s = .next u ∧
          u.scan.seats[a] = { s.scan.seats[a] with buyer := none, answer := some { code := .released, value := 0 } } ∧
          (∀ x, x ≠ a → u.scan.seats[x] = s.scan.seats[x]) ∧
          u.accounts.buyers.get b = (s.accounts.buyers.get b).map (fun r => { r with seat := none }) ∧
          (∀ m, m ≠ b → u.accounts.buyers.get m = s.accounts.buyers.get m) ∧
          u.ports = (s.replied .desk (Reply.done (num2 b))).ports ∧
          u = { s with scan := { s.scan with seats := u.scan.seats },
                       accounts := { s.accounts with buyers := u.accounts.buyers }, ports := u.ports }

/-- The beacon that begins a cycle carries the beacon number, the segment, the run time, the run flag and the displayed price,
is entered in the table of eight and takes the next number, after a next scan count has been adopted outside CONTEST
(R72 to R75). A poll carries the seat's address, its verdict and its pending answer, which is gone with it (R75, R76); the
poll of a contest's opener closes the contest first and carries the answer just placed (R76, R139). Out of their place in
the scan neither occurs (log entry 6). -/
def Obligations.BeaconAndPollCarryRecords : Prop :=
  ∀ s : State,
    (s.scan.beaconNext = true ↔ s.scan.pos = .beacon ∧ s.scan.stage = .due ∨
      s.scan.stage = .ended ∧ ∃ a, s.scan.pos = .seat a ∧ s.scan.scanCount ≤ a.val + 1) ∧
    (s.scan.beaconNext = true → ∃ u, exec .beacon s = .next u ∧ u = { s with scan := u.scan } ∧
      u.scan.sent = ([0xC1, s.scan.beaconNo, s.clock.segment] ++ num4 s.clock.runTime ++
        [if s.clock.state = ClockState.running then (1 : Byte) else 0] ++ num2 (match s.face.image.price with
          | .blank => 0
          | .dashes => 0xFFFF
          | .price n => n)).map LinkWord.sound ∧
      (let l := s.scan.beacons ++
        [{ number := s.scan.beaconNo, segment := s.clock.segment, runTime := s.clock.runTime,
           running := s.clock.state = .running }]
       u.scan.beacons = l.drop (l.length - 8)) ∧
      u.scan.beaconNo = s.scan.beaconNo + 1 ∧ u.scan.pos = .beacon ∧ u.scan.stage = .sent ∧
      match s.scan.nextCount with
      | some n =>
        if s.clock.state = .contest then
          u.scan.scanCount = s.scan.scanCount ∧ u.scan.nextCount = some n ∧ u.scan.seats = s.scan.seats
        else u.scan.scanCount = n ∧ u.scan.nextCount = none ∧ ∀ a : SeatAddr, u.scan.seats[a] =
          if n ≤ a.val then { s.scan.seats[a] with answer := none } else s.scan.seats[a]
      | none =>
        u.scan.scanCount = s.scan.scanCount ∧ u.scan.nextCount = none ∧ u.scan.seats = s.scan.seats) ∧
    (s.scan.beaconNext = false → exec .beacon s = .next s) ∧
    (∀ a, s.scan.pollNext = some a ↔ s.scan.pos = .beacon ∧ s.scan.stage = .sent ∧ a = 0 ∨
      s.scan.stage = .ended ∧ ∃ b, s.scan.pos = .seat b ∧ a.val = b.val + 1 ∧ a.val < s.scan.scanCount) ∧
    (∀ a, s.scan.pollNext = some a → ¬ (s.clock.state = .contest ∧ s.clock.opener = some a) →
      ∃ u, exec .pollSlot s = .next u ∧
        u = { s with scan := u.scan, face := { s.face with image := u.face.image } } ∧
        u.scan.pos = .seat a ∧ u.scan.stage = .sent ∧
        u.scan.sent = ([0xC2, BitVec.ofNat 8 a.val, if s.scan.seats[a].verdict = .accepted then 1 else 0] ++
          (match s.scan.seats[a].answer with
            | some y => [BitVec.ofNat 8 y.code.code, BitVec.ofNat 8 y.value]
            | none => [0, 0])).map LinkWord.sound ∧
        u.scan.seats[a] = { s.scan.seats[a] with answer := none } ∧
        (∀ b, b ≠ a → u.scan.seats[b] = s.scan.seats[b]) ∧ u.scan.beacons = s.scan.beacons) ∧
    (∀ a, s.scan.pollNext = some a → s.clock.state = .contest → s.clock.opener = some a →
      let c := ({ s with scan := { s.scan with pos := .seat a } } : State).closeContest
      ∃ u, exec .pollSlot s = .next u ∧ u.scan.pos = .seat a ∧ u.scan.stage = .sent ∧
        u.scan.sent = (match c.scan.seats[a].answer with
          | some y => s.pollWith a y.code.code y.value
          | none => s.pollWith a 0 0) ∧
        u.scan.seats[a] = { s.scan.seats[a] with answer := none } ∧
        (∀ b, b ≠ a → u.scan.seats[b] = c.scan.seats[b]) ∧ u.clock = c.clock ∧ u.lots = c.lots ∧
        u.accounts = c.accounts ∧ u.log = c.log) ∧
    (s.scan.pollNext = none → exec .pollSlot s = .next s)

/-- A reply is good exactly when every word has an odd number of ones and its bytes are the polled address, a report kind 0 to 4
and the report's fields (R75, R77). After a bad reply or none REFUSED is owed and the silence count rises to 16 at the most,
where the seat becomes OFFLINE with SEAT; after a good one ACCEPTED is owed, the count is 0 and an OFFLINE seat is ONLINE with
SEAT; a QUANTITY report stores the quantity, 0 as 1 (R78, R79, R82). -/
def Obligations.RepliesAreJudged : Prop :=
  (∀ (a : SeatAddr) (ws : List LinkWord) (r : Report), judge a ws = some r ↔
    (∀ w ∈ ws, w.parityGood = true) ∧ match r with
      | .none => ws.map LinkWord.data = [BitVec.ofNat 8 a.val, 0]
      | .login b => ∃ v : BitVec 16, v.toNat = b ∧ ws.map LinkWord.data = [BitVec.ofNat 8 a.val, 1] ++ split2 v
      | .logout => ws.map LinkWord.data = [BitVec.ofNat 8 a.val, 2]
      | .quantity q => ∃ v : Byte, v.toNat = q ∧ ws.map LinkWord.data = [BitVec.ofNat 8 a.val, 3, v]
      | .press n d => ∃ v : BitVec 16, v.toNat = d ∧
          ws.map LinkWord.data = [BitVec.ofNat 8 a.val, 4, n] ++ split2 v) ∧
  ∀ (s : State) (a : SeatAddr) (ws : List LinkWord), s.scan.pos = .seat a → s.scan.stage = .sent →
    (judge a ws = none → ∃ u, exec (.replyWindowEnd ws) s = .next u ∧ u.scan.stage = .ended ∧
      u.scan.seats[a].verdict = .refused ∧ u.scan.seats[a].silence = min (s.scan.seats[a].silence + 1) 16 ∧
      (15 ≤ s.scan.seats[a].silence → u.scan.seats[a].link = .offline ∧
        (s.scan.seats[a].link = .online → u.holds .seat = true)) ∧
      (s.scan.seats[a].silence < 15 → u.scan.seats[a].link = s.scan.seats[a].link ∧ u.ports = s.ports) ∧
      u.scan.seats[a].buyer = s.scan.seats[a].buyer ∧ u.scan.seats[a].quantity = s.scan.seats[a].quantity ∧
      u.scan.seats[a].answer = s.scan.seats[a].answer ∧ (∀ b, b ≠ a → u.scan.seats[b] = s.scan.seats[b]) ∧
      u.clock = s.clock ∧ u.accounts = s.accounts ∧ u.log = s.log ∧ u.lots = s.lots) ∧
    (∀ r, judge a ws = some r → ∃ u, exec (.replyWindowEnd ws) s = .next u ∧ u.scan.stage = .ended ∧
      u.scan.seats[a].verdict = .accepted ∧ u.scan.seats[a].silence = 0 ∧ u.scan.seats[a].link = .online ∧
      (s.scan.seats[a].link = .offline → u.holds .seat = true) ∧
      (r = .none → u.scan.seats[a].buyer = s.scan.seats[a].buyer ∧
        u.scan.seats[a].quantity = s.scan.seats[a].quantity ∧ u.scan.seats[a].answer = s.scan.seats[a].answer ∧
        u.clock = s.clock ∧ u.accounts = s.accounts) ∧
      (∀ q, r = .quantity q → u.scan.seats[a].quantity = max 1 q ∧
        u.scan.seats[a].buyer = s.scan.seats[a].buyer ∧ u.scan.seats[a].answer = s.scan.seats[a].answer ∧
        u.clock = s.clock ∧ u.accounts = s.accounts))

/-- A LOGIN of an ACTIVE buyer that is bound nowhere, or at this seat already, binds it with quantity 1 and answers READY; the
seat's former buyer loses the seat; any other LOGIN, and one at a seat that a next scan count leaves out, is answered DENIED
and changes no binding. A LOGOUT of a bound seat ends the binding with RELEASED (R80, R81, R163). -/
def Obligations.LoginBindsAndLogoutReleases : Prop :=
  ∀ (s : State) (a : SeatAddr) (ws : List LinkWord), s.scan.pos = .seat a → s.scan.stage = .sent →
    (∀ b, judge a ws = some (.login b) → ∃ u, exec (.replyWindowEnd ws) s = .next u ∧
      u.clock = s.clock ∧ u.log = s.log ∧ u.lots = s.lots ∧ (∀ x, x ≠ a → u.scan.seats[x] = s.scan.seats[x]) ∧
      if b ≠ 0 ∧ (∃ r, s.accounts.buyers.get b = some r ∧ r.state = .active ∧ (r.seat = none ∨ r.seat = some a)) ∧
          (s.scan.nextCount.all fun n => decide (a.val < n)) = true then
        u.scan.seats[a].buyer = some b ∧ u.scan.seats[a].quantity = 1 ∧
        u.scan.seats[a].answer = some { code := .ready, value := 1 } ∧
        u.accounts.buyers.get b = (s.accounts.buyers.get b).map (fun r => { r with seat := some a }) ∧
        (∀ c, s.scan.seats[a].buyer = some c → c ≠ b →
          u.accounts.buyers.get c = (s.accounts.buyers.get c).map fun r => { r with seat := none }) ∧
        ∀ c, c ≠ b → s.scan.seats[a].buyer ≠ some c → u.accounts.buyers.get c = s.accounts.buyers.get c
      else
        u.scan.seats[a].buyer = s.scan.seats[a].buyer ∧ u.scan.seats[a].quantity = s.scan.seats[a].quantity ∧
        u.scan.seats[a].answer = some { code := .denied, value := 0 } ∧ u.accounts = s.accounts) ∧
    (judge a ws = some .logout → ∃ u, exec (.replyWindowEnd ws) s = .next u ∧
      u.clock = s.clock ∧ u.log = s.log ∧ u.lots = s.lots ∧ (∀ x, x ≠ a → u.scan.seats[x] = s.scan.seats[x]) ∧
      u.scan.seats[a].quantity = s.scan.seats[a].quantity ∧ u.scan.seats[a].buyer = none ∧
      match s.scan.seats[a].buyer with
      | some b => u.scan.seats[a].answer = some { code := .released, value := 0 } ∧
          u.accounts.buyers.get b = (s.accounts.buyers.get b).map (fun r => { r with seat := none }) ∧
          ∀ c, c ≠ b → u.accounts.buyers.get c = s.accounts.buyers.get c
      | none => u.scan.seats[a].answer = s.scan.seats[a].answer ∧ u.accounts = s.accounts)

/-! ## Presses and contests -/

/-- A press is classified against the beacon it names and the segment in progress: STALE, EARLY, or TIMED at the beacon's run
time plus its offset, at most the run time (R84). Outside RUNNING and CONTEST it is answered WAIT, or LATE in a showing; in
RUNNING a STALE press is answered LATE, an EARLY one WAIT, one of no ACTIVE buyer DENIED and one below the minimum
purchase QTY, and any other opens the contest (R130 to R133). -/
def Obligations.PressOpensContest : Prop :=
  ∀ (s : State) (a : SeatAddr) (ws : List LinkWord) (n : Byte) (d : Nat),
    s.scan.pos = .seat a → s.scan.stage = .sent → judge a ws = some (.press n d) →
    s.clock.state ≠ .contest →
      ∃ u, exec (.replyWindowEnd ws) s = .next u ∧
        u.lots = s.lots ∧ u.accounts = s.accounts ∧ u.log = s.log ∧ u.scan.beacons = s.scan.beacons ∧
        (∀ x, x ≠ a → u.scan.seats[x] = s.scan.seats[x]) ∧ u.scan.seats[a].buyer = s.scan.seats[a].buyer ∧
        u.scan.seats[a].quantity = s.scan.seats[a].quantity ∧
        let q := s.scan.seats[a].quantity
        let answered := fun c : AnswerCode =>
          u.scan.seats[a].answer = some { code := c, value := 0 } ∧ u.clock = s.clock
        match s.clock.state with
        | .idle | .loaded | .halted => answered .wait
        | .showing => answered .late
        | .running | .contest => match s.scan.beacons.find? fun b => b.number = n with
          | none => answered .late
          | some b =>
            if b.segment ≠ s.clock.segment then answered .late
            else if b.running = false then answered .wait
            else match s.scan.seats[a].buyer.bind fun x => (s.accounts.buyers.get x).map fun r => (x, r) with
              | none => answered .denied
              | some (x, r) =>
                if r.state = .suspended then answered .denied
                else if (s.curLot.any fun l => decide (q < l.minimum ∧ l.minimum ≤ l.remaining)) = true then
                  answered .qty
                else
                  let t := min (b.runTime + d) s.clock.runTime
                  u.clock = { s.clock with state := .contest, halt := none, tickTimer := none,
                                           stopTime := some s.clock.runTime, stopPrice := some s.clock.price,
                                           contenders := [{ seat := a, buyer := x, quantity := q, time := t }],
                                           opener := some a } ∧
                  u.holds .clock = true ∧ u.scan.seats[a].answer = s.scan.seats[a].answer

/-- In a consistent CONTEST a press of a seat or buyer already in the list changes nothing; a STALE or EARLY press and one above
the stop time are answered LATE, one of no ACTIVE buyer DENIED and one below the minimum purchase QTY; any other joins the
list in press-time order, of which the first eight are kept and a ninth is answered LATE (R135, R136). The clock record is
otherwise as it was. -/
def Obligations.PressJoinsContest : Prop :=
  ∀ (s : State) (a : SeatAddr) (ws : List LinkWord) (n : Byte) (d : Nat) (k : Nat) (l : Lot) (ts : Nat),
    s.scan.pos = .seat a → s.scan.stage = .sent → judge a ws = some (.press n d) → s.clock.state = .contest →
    s.ContestOk → s.clock.lot = some k → s.lots.lots.get k = some l → s.clock.stopTime = some ts →
      ∃ u, exec (.replyWindowEnd ws) s = .next u ∧
        u.lots = s.lots ∧ u.accounts = s.accounts ∧ u.log = s.log ∧
        u.clock = { s.clock with contenders := u.clock.contenders } ∧
        let q := s.scan.seats[a].quantity
        let same := u.clock = s.clock ∧ (∀ x : SeatAddr, u.scan.seats[x].answer = s.scan.seats[x].answer)
        let answered := fun c : AnswerCode =>
          u.clock = s.clock ∧ u.scan.seats[a].answer = some { code := c, value := 0 } ∧
          (∀ x : SeatAddr, x ≠ a → u.scan.seats[x] = s.scan.seats[x])
        if (∃ y ∈ s.clock.contenders, y.seat = a ∨ s.scan.seats[a].buyer = some y.buyer) then same
        else match s.scan.beacons.find? fun b => b.number = n with
          | none => answered .late
          | some b =>
            let t := min (b.runTime + d) s.clock.runTime
            if b.segment ≠ s.clock.segment ∨ b.running = false ∨ ts < t then answered .late
            else match s.scan.seats[a].buyer.bind fun x => (s.accounts.buyers.get x).map fun r => (x, r) with
              | none => answered .denied
              | some (x, r) =>
                if r.state = .suspended then answered .denied
                else if q < l.minimum ∧ l.minimum ≤ l.remaining then answered .qty
                else
                  let y : Contender := { seat := a, buyer := x, quantity := q, time := t }
                  ∃ all : List Contender, all.Perm (y :: s.clock.contenders) ∧
                    all.Pairwise (fun v w => v.time < w.time ∨ v.time = w.time ∧ v.seat < w.seat) ∧
                    u.clock.contenders = all.take 8 ∧
                    (∀ z ∈ all.drop 8, u.scan.seats[z.seat].answer = some { code := .late, value := 0 }) ∧
                    ∀ x : SeatAddr, (∀ z ∈ all.drop 8, z.seat ≠ x) →
                      u.scan.seats[x].answer = s.scan.seats[x].answer

/-- The close of a contest, at the poll of its opener (R76, R139 to R147): the contenders are examined in list order; the first
that is ACTIVE, passes the quantity test and is within its credit limit makes the one purchase, of its quantity or what
remains, at the price-at of its press time; its record joins the log PENDING, its buyer's pending and its lot's counts take
it, the clock enters a SALE showing with SALE raised, the winner is owed WON with the units and those after it LATE. With no
such contender the clock runs on at its price with a whole tick period. The contest's record is empty after either. A seat's
answer waits for its own poll, but the seat polled has it in this poll at once, or has there the answer it was owed where
it is no contender. -/
def Obligations.ContestSellsAtMostOnce : Prop :=
  ∀ (s : State) (a : SeatAddr) (n : Nat) (l : Lot),
    s.scan.pollNext = some a → s.clock.state = .contest → s.clock.opener = some a → s.ContestOk →
    s.clock.lot = some n → s.lots.lots.get n = some l →
    let others := fun u : State => u.scan.seats[a].answer = none ∧
      ((∀ y ∈ s.clock.contenders, y.seat ≠ a) → u.scan.sent = match s.scan.seats[a].answer with
        | some y => s.pollWith a y.code.code y.value
        | none => s.pollWith a 0 0) ∧
      ∀ x : SeatAddr, x ≠ a → (∀ y ∈ s.clock.contenders, y.seat ≠ x) → u.scan.seats[x] = s.scan.seats[x]
    (∀ (pre post : List Contender) (x : Contender) (v p : Nat) (am : Amounts),
      s.clock.contenders = pre ++ x :: post → (∀ y ∈ pre, ∀ v p am, ¬ s.wouldWin l y v p am) →
      s.wouldWin l x v p am →
        ∃ u r, exec .pollSlot s = .next u ∧ u.log.records = s.log.records ++ [r] ∧
          r = { seq := s.log.nextSeq, state := .pending, lot := n, buyer := x.buyer, seat := x.seat, units := v,
                price := p, goods := am.goods, fee := am.fee, container := am.container, total := am.total,
                segment := s.clock.segment, time := x.time, restart := s.clock.kind = .restarted, carried := false } ∧
          u.log.nextSeq = s.log.nextSeq + 1 ∧
          u.lots.lots.get n = some
            { l with remaining := l.remaining - v, sold := l.sold + v, pendingCount := l.pendingCount + 1,
                     lastSale := some { price := p, buyer := x.buyer, units := v } } ∧
          (∀ m, m ≠ n → u.lots.lots.get m = s.lots.lots.get m) ∧ u.lots.trains = s.lots.trains ∧
          u.accounts.buyers.get x.buyer =
            (s.accounts.buyers.get x.buyer).map (fun b => { b with pendingSum := b.pendingSum + am.total }) ∧
          (∀ b, b ≠ x.buyer → u.accounts.buyers.get b = s.accounts.buyers.get b) ∧
          u.clock.state = .showing ∧ u.clock.showing = some .sale ∧ u.clock.contenders = [] ∧
          u.clock.opener = none ∧ u.clock.tickTimer = none ∧
          u.clock.showTimer = some (s.clock.showTime * 1000) ∧ u.clock.price = s.clock.price ∧
          u.clock.lot = some n ∧ u.holds .sale = true ∧ u.holds .log = true ∧ u.holds .clock = true ∧
          (s.log.records.length = 95 → u.holds .high = true) ∧
          (s.log.records.length = 127 → u.holds .logFullDesk = true ∧ u.holds .logFullAccounts = true) ∧
          u.face.image.price = .price p ∧ u.face.image.buyer = some { buyer := x.buyer, units := v } ∧
          s.answeredAt u a x.seat .won v ∧ (∀ y ∈ post, s.answeredAt u a y.seat .late 0) ∧
          (∀ y ∈ pre, ∃ c, s.answeredAt u a y.seat c 0 ∧ (c = .denied ∨ c = .qty ∨ c = .limit)) ∧ others u) ∧
    ((∀ y ∈ s.clock.contenders, ∀ v p am, ¬ s.wouldWin l y v p am) →
      ∃ u, exec .pollSlot s = .next u ∧ u.log = s.log ∧ u.lots = s.lots ∧ u.accounts.buyers = s.accounts.buyers ∧
        u.clock.state = .running ∧ u.clock.contenders = [] ∧ u.clock.opener = none ∧
        u.clock.tickTimer = some (s.clock.tickPeriod * 10) ∧ u.clock.price = s.clock.price ∧
        u.clock.history = s.clock.history ∧ u.clock.runTime = s.clock.runTime ∧ u.holds .clock = true ∧
        (∀ y ∈ s.clock.contenders, ∃ c, s.answeredAt u a y.seat c 0 ∧ (c = .denied ∨ c = .qty ∨ c = .limit)) ∧ others u)

/-- The examination of each contender of a closing contest that is reached, those before it having failed: one whose buyer is
gone or SUSPENDED is answered DENIED, one below the minimum purchase while that much remains QTY, and one that fails the
credit comparison alone LIMIT, with REFUSAL raised; any other wins and is answered WON with its units. The last-refusal
record takes the buyer, line total and available amount of the last contender examined that is answered LIMIT, and stays as
it was where none is (R131, R132, R141, R143, R162). The opener's own answer goes out in the poll that closes the
contest (R139). -/
def Obligations.ContendersThatFail : Prop :=
  ∀ (s : State) (a : SeatAddr) (n : Nat) (l : Lot) (pre post : List Contender) (x : Contender),
    s.scan.pollNext = some a → s.clock.state = .contest → s.clock.opener = some a → s.ContestOk →
    s.clock.lot = some n → s.lots.lots.get n = some l → s.clock.contenders = pre ++ x :: post →
    (∀ y ∈ pre, ∀ v p am, ¬ s.wouldWin l y v p am) →
      ∃ u, exec .pollSlot s = .next u ∧
        let answered := fun (c : AnswerCode) (v : Nat) => s.answeredAt u a x.seat c v
        let lost := fun y : Contender => (∀ v p am, ¬ s.wouldWin l y v p am) ∧ ∀ v w, ¬ s.creditRefused l y v w
        (match s.accounts.buyers.get x.buyer with
        | none => answered .denied 0
        | some b =>
          let v := min x.quantity l.remaining
          let am := amounts v l.stems (priceAt s.clock.history x.time) b.fee l.container
          if b.state = .suspended then answered .denied 0
          else if x.quantity < l.minimum ∧ l.minimum ≤ l.remaining then answered .qty 0
          else if b.limit < b.pendingSum + b.owed + am.total then
            answered .limit 0 ∧ u.holds .refusal = true ∧
            ∀ mid rest, post = mid ++ rest → (∀ y ∈ mid, lost y) →
              (∀ y, rest.head? = some y → ∃ v p am, s.wouldWin l y v p am) →
                u.accounts.lastRefusal = some
                  { buyer := x.buyer, total := am.total,
                    available := (b.limit : Int) - (b.pendingSum : Int) - (b.owed : Int) }
          else answered .won v) ∧
        ((∀ y ∈ pre, lost y) → (∃ v p am, s.wouldWin l x v p am) ∨ post = [] ∧ lost x →
          u.accounts.lastRefusal = s.accounts.lastRefusal ∧ u.holds .refusal = s.holds .refusal)

/-! ## Price and amount arithmetic -/

/-- Under a valid step table a tick above the floor lowers the price and not below the floor (R119, R120); the price-at of a
press time is the price of the newest history entry at or before it, or of the oldest where every entry is later, and never
rises with the press time, so that no press up to the stop time is priced below the last entry (R122, R123). -/
def Obligations.PricesDescendWithinTheLot : Prop :=
  (∀ (v : Vector Band 8) (price floor : Nat), stepsOk v → floor < price → price ≤ 9999 →
    floor ≤ descend v price floor ∧ descend v price floor < price) ∧
  (∀ (h : List TickRec) (t t' : Nat), t ≤ t' →
    h.Pairwise (fun a b => a.runTime ≤ b.runTime ∧ b.price ≤ a.price) → priceAt h t' ≤ priceAt h t) ∧
  (∀ (pre post : List TickRec) (e : TickRec) (t : Nat), e.runTime ≤ t → (∀ x ∈ post, t < x.runTime) →
    priceAt (pre ++ e :: post) t = e.price) ∧
  ∀ (rest : List TickRec) (e : TickRec) (t : Nat), (∀ x ∈ e :: rest, t < x.runTime) → priceAt (e :: rest) t = e.price

/-- The amounts of a purchase within the ranges of its fields are within theirs, every intermediate product with them, and the
fee is the exact fee to the nearest cent, a half rounded up (R124 to R126); with pending plus owed at most 2,000,000,000 the
credit comparison's sum stays below 2^32 (R128). -/
def Obligations.AmountsStayInRange : Prop :=
  ∀ units stems price rate charge : Nat, 1 ≤ units → units ≤ 255 → 1 ≤ stems → stems ≤ 500 → 1 ≤ price → price ≤ 9999 →
    rate ≤ 100 → charge ≤ 9999 →
      let a := amounts units stems price rate charge
      a.goods = units * stems * price ∧ 1 ≤ a.goods ∧ a.goods ≤ 1274872500 ∧
      a.goods * rate ≤ 1000 * a.fee + 499 ∧ 1000 * a.fee ≤ a.goods * rate + 500 ∧ a.fee ≤ 127487250 ∧
      a.container = units * charge ∧ a.container ≤ 2549745 ∧ a.total = a.goods + a.fee + a.container ∧
      a.total ≤ 1404909495 ∧
      ∀ b : Buyer, b.pendingSum + b.owed ≤ 2000000000 →
        b.pendingSum + b.owed + a.total < 2 ^ 32 ∧
        (b.creditOk a.total = true ↔ (a.total : Int) ≤ b.available)

/-! ## The clock face -/

/-- SET FACE MAP sets one cell and answers the map (R183); FACE TEST runs for 2.0 s in IDLE and is refused with STATE otherwise,
and ends at its timer's expiry (R188), whose row lets the time left pass first (log entry 6). A chain pass carries for
each lamp the level that stood when its place was shifted out, RING first and then the segments of the cells of PRICE, LOT,
BUYER and PREVIEW, cell after cell, and at its end the lamps take those levels, so that none is more than one pass behind
(R189); how far a pass gets while time passes, how many segments a cell has and which of them a figure lights are free
values (log entry 13). A level is on during a test, in which each cell shows the figure 8 and its dash together, and otherwise
where the image lights the lamp and the generator of its group and phase is on: the ring's lamp, and the numbers and dashes of
the other groups, right-aligned in their fields (R181, R182, R184 to R186). -/
def Obligations.FaceCommandsAndLatch : Prop :=
  ∀ s : State,
    (s.listens .desk = true → ∀ (x y z : Byte) (g : Fin 5) (f : Fin 3) (n : Gen),
      x.toNat = g.val → y.toNat = f.val → z.toNat = n.val →
      ∃ u, exec (.setFaceMap .desk x y z) s = .next u ∧
        (∀ c : Fin 15, u.face.map[c] = if c.val = 3 * g.val + f.val then n else s.face.map[c]) ∧
        u.ports = (s.replied .desk (Reply.done (u.face.map.toList.map fun k : Gen => BitVec.ofNat 8 k.val))).ports ∧
        u = { s with face := { s.face with map := u.face.map }, ports := u.ports }) ∧
    (s.listens .desk = true → ∀ x y z : Byte, 4 < x.toNat ∨ 2 < y.toNat ∨ 5 < z.toNat →
      exec (.setFaceMap .desk x y z) s = .next (s.rejected .desk .range)) ∧
    (s.listens .desk = true → exec (.faceTest .desk) s = .next (
      if s.clock.state = .idle then
        let t := s.frameTaken .desk
        ({ t with face := { s.face with testTimer := some 20000 } } : State).giveReply .desk (Reply.done [])
      else s.rejected .desk .state)) ∧
    (∀ n, s.face.testTimer = some n → ∃ u, exec .faceTestTimerExpiry s = .next u ∧ u.face.testTimer = none ∧
      u = { s.elapse n with face := { (s.elapse n).face with testTimer := none } }) ∧
    ∃ u w, exec .faceChainLatch s = .next u ∧
      exec .faceChainLatch { s with face := { s.face with shifted := 0 } } = .next w ∧
      u = { s with face := { s.face with lamps := u.face.lamps, carried := u.face.carried, shifted := 0 } } ∧
      (let mixed := fun x : Lamps =>
        ∀ p, x.on p = if p < s.face.shifted then s.face.carried.on p else w.face.lamps.on p
       mixed u.face.lamps ∧
       ∀ n, mixed (s.elapse n).face.carried ∧ (s.elapse n).face.lamps = s.face.lamps ∧
         (s.face.Ok → (s.elapse n).face.Ok ∧ s.face.shifted ≤ (s.elapse n).face.shifted)) ∧
      (s.face.Ok → u.face.Ok) ∧ (∀ p, Config.chainLength ≤ p → w.face.lamps.on p = false) ∧
      (s.face.testTimer.isSome → (∀ p < Config.chainLength, w.face.lamps.on p = true) ∧
        w.face.lamps.shows (List.replicate 52 .test) ∧
        ∀ i < 52, ∀ j < Config.cellSegments, w.face.lamps.on (100 + i * Config.cellSegments + j) =
          ((Cell.digit 8).lit j || Cell.dash.lit j)) ∧
      (s.face.testTimer = none →
        let lit := fun g : Fin 5 => s.drive.gens[s.face.map[mapCell g (phaseOf s.clock.state)]].on
        let im := s.face.image
        (∀ i < 100, w.face.lamps.on i = (lit 0 && decide (im.ring = some i))) ∧
        ∃ price lot buyer preview : List Cell,
          w.face.lamps.shows (price ++ lot ++ buyer ++ preview) ∧
          price.length = 4 ∧ lot.length = 25 ∧ buyer.length = 8 ∧ preview.length = 15 ∧
          (lit 1 = true → ∀ p < 10000, im.price = .price p → showsNumber 4 p price) ∧
          (lit 1 = true → im.price = .dashes → price = List.replicate 4 .dash) ∧
          (lit 1 = false ∨ im.price = .blank → price = List.replicate 4 .dark) ∧
          (lit 2 = true → ∀ x, im.lot = some x → x.lot < 100000 → x.product < 10000000000 → x.grower < 100000 →
            x.grade < 100 → x.remaining < 1000 → ∃ c1 c2 c3 c4 c5, lot = c1 ++ c2 ++ c3 ++ c4 ++ c5 ∧
              showsNumber 5 x.lot c1 ∧ showsNumber 10 x.product c2 ∧ showsNumber 5 x.grower c3 ∧
              showsNumber 2 x.grade c4 ∧ showsNumber 3 x.remaining c5) ∧
          (lit 2 = false ∨ im.lot = none → lot = List.replicate 25 .dark) ∧
          (lit 3 = true → ∀ x, im.buyer = some x → x.buyer < 100000 → x.units < 1000 →
            ∃ c1 c2, buyer = c1 ++ c2 ∧ showsNumber 5 x.buyer c1 ∧ showsNumber 3 x.units c2) ∧
          (lit 3 = false ∨ im.buyer = none → buyer = List.replicate 8 .dark) ∧
          (lit 4 = true → im.preview.length ≤ 3 → (∀ x ∈ im.preview, x < 100000) →
            ∃ cs : List (List Cell), List.Forall₂ (fun c x => showsNumber 5 x c) cs im.preview ∧
              preview = cs.flatten ++ List.replicate (15 - 5 * im.preview.length) .dark) ∧
          (lit 4 = false ∨ im.preview = [] → preview = List.replicate 15 .dark))

/-! ## Accounts and the purchase log -/

/-- OPEN ACCOUNT creates an ACTIVE buyer with nothing pending or owed, its limit and fee rate clamped, and is refused with RANGE,
IN_USE or FULL (R152); CLOSE ACCOUNT removes a record with nothing pending or owed and no seat and answers its day figures,
and is refused with NOT_FOUND, and otherwise with STATE and what stands (R153), the seat as an optional field (log
entry 8). -/
def Obligations.AccountsOpenAndClose : Prop :=
  ∀ s : State, s.listens .accounts = true →
    (∀ (n : BitVec 16) (l : BitVec 32) (f : Byte),
      exec (.openAccount .accounts n l f) s = .next (
        if n = 0 then s.rejected .accounts .range
        else if (s.accounts.buyers.get n.toNat).isSome then s.rejected .accounts .inUse
        else if 512 ≤ s.accounts.buyers.length then s.rejected .accounts .full
        else
          let b : Buyer :=
            { state := .active, limit := min l.toNat 2000000000, pendingSum := 0, owed := 0, fee := min f.toNat 100,
              seat := none, dayTotal := 0, dayCount := 0 }
          ((s.frameTaken .accounts).onBuyers fun t => t.put n.toNat b).giveReply .accounts
            (Reply.done (num4 b.limit ++ num1 b.fee ++ num2 (511 - s.accounts.buyers.length))))) ∧
    ∀ n : BitVec 16, exec (.closeAccount .accounts n) s = .next (match s.accounts.buyers.get n.toNat with
      | none => s.rejected .accounts .notFound
      | some b =>
        if b.pendingSum = 0 ∧ b.owed = 0 ∧ b.seat = none then
          ((s.frameTaken .accounts).onBuyers fun t => t.erase n.toNat).giveReply .accounts
            (Reply.done (num4 b.dayTotal ++ num2 b.dayCount))
        else s.replied .accounts
          { status := .state, payload := num4 b.pendingSum ++ num4 b.owed ++ (match b.seat with
            | some a => [1, BitVec.ofNat 8 a.val]
            | none => [0, 0]) })

/-- SET LIMIT and SET FEE replace a clamped value, SUSPEND and REINSTATE the state, PAYMENT lowers what is owed by at most its
amount, and DAY CLOSE returns and zeroes the day figures; each changes one buyer's record alone, and is refused with NOT_FOUND
for an absent one (R154 to R156, R159, R160). -/
def Obligations.AccountSettings : Prop :=
  ∀ (s : State) (n : BitVec 16), s.listens .accounts = true →
    match s.accounts.buyers.get n.toNat with
    | none => (∀ l, exec (.setLimit .accounts n l) s = .next (s.rejected .accounts .notFound)) ∧
        (∀ f, exec (.setFee .accounts n f) s = .next (s.rejected .accounts .notFound)) ∧
        exec (.suspend .accounts n) s = .next (s.rejected .accounts .notFound) ∧
        exec (.reinstate .accounts n) s = .next (s.rejected .accounts .notFound) ∧
        (∀ a, exec (.payment .accounts n a) s = .next (s.rejected .accounts .notFound)) ∧
        exec (.dayClose .accounts n) s = .next (s.rejected .accounts .notFound)
    | some b =>
      let becomes := fun (i : Instr) (b' : Buyer) (reply : Bytes) => ∃ u, exec i s = .next u ∧
        u.accounts.buyers.get n.toNat = some b' ∧
        (∀ m, m ≠ n.toNat → u.accounts.buyers.get m = s.accounts.buyers.get m) ∧
        u.accounts.buyers.length = s.accounts.buyers.length ∧
        u.ports = (s.replied .accounts (Reply.done reply)).ports ∧
        u = { s with accounts := { s.accounts with buyers := u.accounts.buyers }, ports := u.ports }
      (∀ l : BitVec 32, becomes (.setLimit .accounts n l) { b with limit := min l.toNat 2000000000 }
        (num4 (min l.toNat 2000000000) ++
          signed4 ((min l.toNat 2000000000 : Nat) - (b.pendingSum : Int) - (b.owed : Int)))) ∧
      (∀ f : Byte, becomes (.setFee .accounts n f) { b with fee := min f.toNat 100 } (num1 (min f.toNat 100))) ∧
      becomes (.suspend .accounts n) { b with state := .suspended } [1] ∧
      becomes (.reinstate .accounts n) { b with state := .active } [0] ∧
      (∀ a : BitVec 32, becomes (.payment .accounts n a) { b with owed := b.owed - min a.toNat b.owed }
        (num4 (min a.toNat b.owed) ++ num4 (a.toNat - min a.toNat b.owed) ++ num4 (b.owed - min a.toNat b.owed))) ∧
      becomes (.dayClose .accounts n) { b with dayTotal := 0, dayCount := 0 } (num4 b.dayTotal ++ num2 b.dayCount)

/-- POST takes the head of the log alone: a PENDING record's total moves from pending to owed and into the day figures, its lot's
pending count falls unless it is carried, and the record is removed, with LOGFULL where the log was full; a VOID record moves
no sum. An empty log is refused with NOT_FOUND, and another number with ORDER and the head's (R172 to R174, R18, R19). -/
def Obligations.PostTakesTheHead : Prop :=
  ∀ (s : State) (q : BitVec 32), s.listens .accounts = true → match s.log.records with
    | [] => exec (.post .accounts q) s = .next (s.rejected .accounts .notFound)
    | r :: rest =>
      if q ≠ r.seq then
        exec (.post .accounts q) s = .next (s.replied .accounts { status := .order, payload := split4 r.seq })
      else ∃ u, exec (.post .accounts q) s = .next u ∧ u.log = { records := rest, nextSeq := s.log.nextSeq } ∧
        (u.port .accounts).replyLeft = replyWords (s.port .accounts).checkNow (Reply.done (r.bytes .accounts)) ∧
        (∀ k : Event, u.holds k =
          (s.holds k || decide (rest.length = 127 ∧ (k = .logFullDesk ∨ k = .logFullAccounts)))) ∧
        u.accounts.lastRefusal = s.accounts.lastRefusal ∧
        (∀ n, u.accounts.buyers.get n = (s.accounts.buyers.get n).map fun b =>
          if r.state = .pending ∧ r.buyer = n then
            { b with pendingSum := b.pendingSum - r.total, owed := b.owed + r.total,
                     dayTotal := min (b.dayTotal + r.total) 4294967295, dayCount := min (b.dayCount + 1) 65535 }
          else b) ∧
        (∀ n, u.lots.lots.get n = if r.state = .pending ∧ r.carried = false ∧ r.lot = n then
          (s.lots.lots.get n).bind fun l =>
            if l.state = .closed ∧ l.train = none ∧ l.pendingCount - 1 = 0 then none
            else some { l with pendingCount := l.pendingCount - 1 }
          else s.lots.lots.get n) ∧
        u.lots.trains = s.lots.trains ∧ u.lots.queue = s.lots.queue ∧ u.clock = s.clock ∧ u.scan = s.scan ∧
        u.rail = s.rail ∧ u.drive = s.drive ∧ u.inputs = s.inputs

/-- VOID marks a PENDING record VOID in its place: its total leaves the buyer's pending, and unless the record is carried its
units return to the lot, to remaining or, once the lot is CLOSED, to withdrawn with the outcome set anew. An absent record
is refused with NOT_FOUND and a VOID one with STATE (R17, R175, R179). The reply's mark, 1 for units returned and 0 for a
carried record, has its spelling from log entry 8. -/
def Obligations.VoidReturnsUnits : Prop :=
  ∀ (s : State) (q : BitVec 32), s.listens .desk = true →
    match s.log.records.find? fun r => r.seq = q with
    | none => exec (.void .desk q) s = .next (s.rejected .desk .notFound)
    | some r =>
      if r.state = .void then exec (.void .desk q) s = .next (s.rejected .desk .state)
      else ∃ u, exec (.void .desk q) s = .next u ∧ u.log.nextSeq = s.log.nextSeq ∧
        u.log.records = s.log.records.map (fun x => if x.seq = q then { x with state := .void } else x) ∧
        (u.port .desk).replyLeft = replyWords (s.port .desk).checkNow
          (Reply.done (split4 q ++ num2 r.lot ++ num2 r.buyer ++ num1 r.units ++ [if r.carried then 0 else 1])) ∧
        (∀ k : Event, u.holds k = s.holds k) ∧ u.accounts.lastRefusal = s.accounts.lastRefusal ∧
        (∀ n, u.accounts.buyers.get n = (s.accounts.buyers.get n).map fun b =>
          if r.buyer = n then { b with pendingSum := b.pendingSum - r.total } else b) ∧
        (∀ n, n ≠ r.lot ∨ r.carried = true → u.lots.lots.get n = s.lots.lots.get n) ∧
        (r.carried = false → ∀ l, s.lots.lots.get r.lot = some l →
          u.lots.lots.get r.lot =
            if l.state = .closed then
              let sold := l.sold - r.units
              if l.train = none ∧ l.pendingCount - 1 = 0 then none
              else some { l with sold := sold, withdrawn := l.withdrawn + r.units, pendingCount := l.pendingCount - 1,
                                 outcome := some (if sold = l.unitsTotal then .soldOut else if sold = 0 then .noSale
                                   else .part) }
            else some { l with sold := l.sold - r.units, remaining := l.remaining + r.units,
                               pendingCount := l.pendingCount - 1 }) ∧
        u.lots.trains = s.lots.trains ∧ u.lots.queue = s.lots.queue ∧ u.clock = s.clock ∧ u.scan = s.scan ∧
        u.rail = s.rail ∧ u.drive = s.drive ∧ u.inputs = s.inputs

/-! ## What every step keeps -/

/-- The state after reset meets every invariant, and a power-on reset leaves it as it is: with nothing waiting and the input
levels of `State.reset` (log entry 2) there is nothing for the reset to find. -/
def Obligations.ResetMeetsEveryInvariant : Prop :=
  State.reset.TablesOk ∧ State.reset.CapacityOk ∧ State.reset.LogOk ∧ State.reset.MoneyOk ∧ State.reset.SeatsOk ∧
  State.reset.ContestOk ∧ State.reset.clock.Ok ∧ State.reset.clock.HistoryOk ∧ State.reset.RailOk ∧
  State.reset.GateOk ∧ State.reset.LotsOk ∧ State.reset.RecordsOk ∧ State.reset.QueueOk ∧ State.reset.ImageOk ∧
  State.reset.drive.Ok ∧ State.reset.PortsOk ∧ State.reset.RangesOk ∧ exec .powerOnReset State.reset = .next State.reset

/-- Every step keeps the tables in canonical form (R1, R8, R151) and every collection within its capacity (R1, R8, R74, R98,
R151). -/
def Obligations.EveryStepKeepsTables : Prop :=
  ∀ s t : State, s.TablesOk → step s = .next t → t.TablesOk ∧ (s.CapacityOk → t.CapacityOk)

/-- Every step keeps the log to at most 128 records with consecutive numbers, and a free entry under a clock that may sell
(R114, R168); with that, every buyer's pending equal to the PENDING records that name it and pending plus owed within
2,000,000,000 (R157, R158); and the bindings of seats and buyers two sides of one table (R71, R163). -/
def Obligations.EveryStepKeepsLogMoneyAndBindings : Prop :=
  ∀ s t : State, step s = .next t →
    (s.LogOk → t.LogOk ∧ (s.MoneyOk → t.MoneyOk)) ∧ (s.SeatsOk → t.SeatsOk)

/-- Every step keeps the contest's record in order and empty outside CONTEST (R133 to R136), the clock record in agreement with
the clock state (R91, R99, R105, R112), and the tick history of a descending clock in order (R95, R98). -/
def Obligations.EveryStepKeepsClockInOrder : Prop :=
  ∀ s t : State, step s = .next t →
    (s.ContestOk → t.ContestOk) ∧ (s.clock.Ok → t.clock.Ok) ∧ (s.RangesOk → s.clock.HistoryOk → t.clock.HistoryOk)

/-- Every step keeps the rail consistent: the moves in flight apart, their trains those of their sections, the stall list in
agreement with the BLOCKED sections, the hold, the gate and the admission wait each in agreement with what is in flight, and
every train where its record says (R8, R24 to R53). With it every step keeps the gate apart from the presented train, so
that the PRESENT gate channel is never energised while a lot entry is LOADED or ON_CLOCK (R42). -/
def Obligations.EveryStepKeepsRail : Prop :=
  ∀ s t : State, s.TablesOk → s.RailOk → step s = .next t →
    t.RailOk ∧
    (s.drive.Ok → s.GateOk → t.GateOk ∧
      (t.LotsOk → (∃ n l, t.lots.lots.get n = some l ∧ (l.state = .loaded ∨ l.state = .onClock)) →
        t.drive.chans[(7 : Chan)].output = .off ∧ t.drive.chans[(7 : Chan)].turn = none))

/-- Every step keeps the lots, the trains, the queue, the clock and the log in agreement: units accounted for, one lot on sale,
every price between floor and start, the pending counts those of the records that wait, and the queue that of the trains not
yet admitted (R1, R7, R14, R16 to R19, R123). -/
def Obligations.EveryStepKeepsLotsAndRecords : Prop :=
  ∀ s t : State, s.TablesOk → s.RailOk → step s = .next t →
    (s.clock.Ok → s.LotsOk → s.LogOk → s.RecordsOk → t.LotsOk ∧ t.RecordsOk) ∧ (s.QueueOk → t.QueueOk)

/-- Every step keeps the face image the one the records give (R187), every channel record consistent (R55, R58, R64), every
port record consistent (R192, R193, R199), and every setting and count within its range (R24, R35, R71, R72, R79, R91,
R117). -/
def Obligations.EveryStepKeepsFaceDrivePortsRanges : Prop :=
  ∀ s t : State, step s = .next t →
    (s.ImageOk → t.ImageOk) ∧ (s.drive.Ok → t.drive.Ok) ∧ (s.PortsOk → t.PortsOk) ∧ (s.RangesOk → t.RangesOk)
end

