-- ==== Sys2Proof/Laws/State.lean ====
section
/-!
SUPPORT. What each named update of the state leaves in each field, so that no proof unfolds a record update.
-/

namespace Sys2Proof.Machine

/-! ## Ports -/

@[simp] theorem State.onPort_lots (s : State) (p : Role) (f : Port → Port) : (s.onPort p f).lots = s.lots := rfl
@[simp] theorem State.onPort_rail (s : State) (p : Role) (f : Port → Port) : (s.onPort p f).rail = s.rail := rfl
@[simp] theorem State.onPort_drive (s : State) (p : Role) (f : Port → Port) : (s.onPort p f).drive = s.drive := rfl
@[simp] theorem State.onPort_scan (s : State) (p : Role) (f : Port → Port) : (s.onPort p f).scan = s.scan := rfl
@[simp] theorem State.onPort_clock (s : State) (p : Role) (f : Port → Port) : (s.onPort p f).clock = s.clock := rfl
@[simp] theorem State.onPort_accounts (s : State) (p : Role) (f : Port → Port) : (s.onPort p f).accounts = s.accounts :=
  rfl
@[simp] theorem State.onPort_log (s : State) (p : Role) (f : Port → Port) : (s.onPort p f).log = s.log := rfl
@[simp] theorem State.onPort_face (s : State) (p : Role) (f : Port → Port) : (s.onPort p f).face = s.face := rfl
@[simp] theorem State.onPort_inputs (s : State) (p : Role) (f : Port → Port) : (s.onPort p f).inputs = s.inputs := rfl
@[simp] theorem State.onPort_resetCause (s : State) (p : Role) (f : Port → Port) :
    (s.onPort p f).resetCause = s.resetCause := rfl
@[simp] theorem State.onPort_pending (s : State) (p : Role) (f : Port → Port) : (s.onPort p f).pending = s.pending := rfl
@[simp] theorem State.onPort_choices (s : State) (p : Role) (f : Port → Port) : (s.onPort p f).choices = s.choices := rfl

@[simp] theorem Ports.get_set_self (ps : Ports) (p : Role) (r : Port) : (ps.set p r).get p = r := by cases p <;> rfl

theorem Ports.get_set_ne (ps : Ports) {p q : Role} (r : Port) (h : p ≠ q) : (ps.set p r).get q = ps.get q := by
  cases p <;> cases q <;> first | rfl | exact absurd rfl h

@[simp] theorem State.port_setPort_self (s : State) (p : Role) (r : Port) : (s.setPort p r).port p = r :=
  Ports.get_set_self s.ports p r

theorem State.port_setPort_ne (s : State) {p q : Role} (r : Port) (h : p ≠ q) : (s.setPort p r).port q = s.port q :=
  Ports.get_set_ne s.ports r h

@[simp] theorem State.port_onPort_self (s : State) (p : Role) (f : Port → Port) : (s.onPort p f).port p = f (s.port p) :=
  State.port_setPort_self s p _

theorem State.port_onPort_ne (s : State) {p q : Role} (f : Port → Port) (h : p ≠ q) :
    (s.onPort p f).port q = s.port q := State.port_setPort_ne s _ h

@[simp] theorem State.onPort_onPort (s : State) (p : Role) (f g : Port → Port) :
    (s.onPort p f).onPort p g = s.onPort p fun r => g (f r) := by
  cases p <;> rfl

@[simp] theorem State.setPort_port (s : State) (p : Role) : s.setPort p (s.port p) = s := by
  cases p <;> rfl

/-- Raising an event touches one port alone. -/
theorem State.raise_eq (s : State) (e : Event) : s.raise e = s.onPort e.role fun r => r.raiseBits e.mask := rfl

@[simp] theorem State.raise_lots (s : State) (e : Event) : (s.raise e).lots = s.lots := rfl
@[simp] theorem State.raise_rail (s : State) (e : Event) : (s.raise e).rail = s.rail := rfl
@[simp] theorem State.raise_drive (s : State) (e : Event) : (s.raise e).drive = s.drive := rfl
@[simp] theorem State.raise_scan (s : State) (e : Event) : (s.raise e).scan = s.scan := rfl
@[simp] theorem State.raise_clock (s : State) (e : Event) : (s.raise e).clock = s.clock := rfl
@[simp] theorem State.raise_accounts (s : State) (e : Event) : (s.raise e).accounts = s.accounts := rfl
@[simp] theorem State.raise_log (s : State) (e : Event) : (s.raise e).log = s.log := rfl
@[simp] theorem State.raise_face (s : State) (e : Event) : (s.raise e).face = s.face := rfl
@[simp] theorem State.raise_inputs (s : State) (e : Event) : (s.raise e).inputs = s.inputs := rfl
@[simp] theorem State.raise_resetCause (s : State) (e : Event) : (s.raise e).resetCause = s.resetCause := rfl
@[simp] theorem State.raise_pending (s : State) (e : Event) : (s.raise e).pending = s.pending := rfl
@[simp] theorem State.raise_choices (s : State) (e : Event) : (s.raise e).choices = s.choices := rfl

@[simp] theorem State.giveReply_lots (s : State) (p : Role) (x : Reply) : (s.giveReply p x).lots = s.lots := rfl
@[simp] theorem State.giveReply_rail (s : State) (p : Role) (x : Reply) : (s.giveReply p x).rail = s.rail := rfl
@[simp] theorem State.giveReply_drive (s : State) (p : Role) (x : Reply) : (s.giveReply p x).drive = s.drive := rfl
@[simp] theorem State.giveReply_scan (s : State) (p : Role) (x : Reply) : (s.giveReply p x).scan = s.scan := rfl
@[simp] theorem State.giveReply_clock (s : State) (p : Role) (x : Reply) : (s.giveReply p x).clock = s.clock := rfl
@[simp] theorem State.giveReply_accounts (s : State) (p : Role) (x : Reply) :
    (s.giveReply p x).accounts = s.accounts := rfl
@[simp] theorem State.giveReply_log (s : State) (p : Role) (x : Reply) : (s.giveReply p x).log = s.log := rfl
@[simp] theorem State.giveReply_face (s : State) (p : Role) (x : Reply) : (s.giveReply p x).face = s.face := rfl
@[simp] theorem State.giveReply_inputs (s : State) (p : Role) (x : Reply) : (s.giveReply p x).inputs = s.inputs := rfl
@[simp] theorem State.giveReply_pending (s : State) (p : Role) (x : Reply) : (s.giveReply p x).pending = s.pending := rfl
@[simp] theorem State.giveReply_choices (s : State) (p : Role) (x : Reply) : (s.giveReply p x).choices = s.choices := rfl
@[simp] theorem State.giveReply_replyLeft (s : State) (p : Role) (x : Reply) :
    ((s.giveReply p x).port p).replyLeft = replyWords (s.port p).checkNow x := by
  simp [State.giveReply]
@[simp] theorem State.giveReply_events (s : State) (p : Role) (x : Reply) :
    ((s.giveReply p x).port p).events = (s.port p).events := by simp [State.giveReply]

@[simp] theorem State.frameTaken_lots (s : State) (p : Role) : (s.frameTaken p).lots = s.lots := rfl
@[simp] theorem State.frameTaken_rail (s : State) (p : Role) : (s.frameTaken p).rail = s.rail := rfl
@[simp] theorem State.frameTaken_drive (s : State) (p : Role) : (s.frameTaken p).drive = s.drive := rfl
@[simp] theorem State.frameTaken_scan (s : State) (p : Role) : (s.frameTaken p).scan = s.scan := rfl
@[simp] theorem State.frameTaken_clock (s : State) (p : Role) : (s.frameTaken p).clock = s.clock := rfl
@[simp] theorem State.frameTaken_accounts (s : State) (p : Role) : (s.frameTaken p).accounts = s.accounts := rfl
@[simp] theorem State.frameTaken_log (s : State) (p : Role) : (s.frameTaken p).log = s.log := rfl
@[simp] theorem State.frameTaken_face (s : State) (p : Role) : (s.frameTaken p).face = s.face := rfl
@[simp] theorem State.frameTaken_inputs (s : State) (p : Role) : (s.frameTaken p).inputs = s.inputs := rfl
@[simp] theorem State.frameTaken_resetCause (s : State) (p : Role) : (s.frameTaken p).resetCause = s.resetCause := rfl
@[simp] theorem State.frameTaken_pending (s : State) (p : Role) : (s.frameTaken p).pending = s.pending := rfl
@[simp] theorem State.frameTaken_choices (s : State) (p : Role) : (s.frameTaken p).choices = s.choices := rfl
@[simp] theorem State.frameTaken_checkNow (s : State) (p : Role) :
    ((s.frameTaken p).port p).checkNow = (s.port p).checkNow := by simp [State.frameTaken, Port.cleared]
@[simp] theorem State.frameTaken_events (s : State) (p : Role) :
    ((s.frameTaken p).port p).events = (s.port p).events := by simp [State.frameTaken, Port.cleared]
@[simp] theorem State.frameTaken_mask (s : State) (p : Role) :
    ((s.frameTaken p).port p).mask = (s.port p).mask := by simp [State.frameTaken, Port.cleared]

/-! ## The blocks -/

@[simp] theorem State.onLots_lots (s : State) (f : LotStore → LotStore) : (s.onLots f).lots = f s.lots := rfl
@[simp] theorem State.onLots_rail (s : State) (f : LotStore → LotStore) : (s.onLots f).rail = s.rail := rfl
@[simp] theorem State.onLots_drive (s : State) (f : LotStore → LotStore) : (s.onLots f).drive = s.drive := rfl
@[simp] theorem State.onLots_scan (s : State) (f : LotStore → LotStore) : (s.onLots f).scan = s.scan := rfl
@[simp] theorem State.onLots_clock (s : State) (f : LotStore → LotStore) : (s.onLots f).clock = s.clock := rfl
@[simp] theorem State.onLots_accounts (s : State) (f : LotStore → LotStore) : (s.onLots f).accounts = s.accounts := rfl
@[simp] theorem State.onLots_log (s : State) (f : LotStore → LotStore) : (s.onLots f).log = s.log := rfl
@[simp] theorem State.onLots_face (s : State) (f : LotStore → LotStore) : (s.onLots f).face = s.face := rfl
@[simp] theorem State.onLots_ports (s : State) (f : LotStore → LotStore) : (s.onLots f).ports = s.ports := rfl
@[simp] theorem State.onLots_inputs (s : State) (f : LotStore → LotStore) : (s.onLots f).inputs = s.inputs := rfl
@[simp] theorem State.onLots_pending (s : State) (f : LotStore → LotStore) : (s.onLots f).pending = s.pending := rfl
@[simp] theorem State.onLots_choices (s : State) (f : LotStore → LotStore) : (s.onLots f).choices = s.choices := rfl

@[simp] theorem State.onClock_clock (s : State) (f : Clock → Clock) : (s.onClock f).clock = f s.clock := rfl
@[simp] theorem State.onClock_lots (s : State) (f : Clock → Clock) : (s.onClock f).lots = s.lots := rfl
@[simp] theorem State.onClock_rail (s : State) (f : Clock → Clock) : (s.onClock f).rail = s.rail := rfl
@[simp] theorem State.onClock_drive (s : State) (f : Clock → Clock) : (s.onClock f).drive = s.drive := rfl
@[simp] theorem State.onClock_scan (s : State) (f : Clock → Clock) : (s.onClock f).scan = s.scan := rfl
@[simp] theorem State.onClock_accounts (s : State) (f : Clock → Clock) : (s.onClock f).accounts = s.accounts := rfl
@[simp] theorem State.onClock_log (s : State) (f : Clock → Clock) : (s.onClock f).log = s.log := rfl
@[simp] theorem State.onClock_face (s : State) (f : Clock → Clock) : (s.onClock f).face = s.face := rfl
@[simp] theorem State.onClock_ports (s : State) (f : Clock → Clock) : (s.onClock f).ports = s.ports := rfl
@[simp] theorem State.onClock_inputs (s : State) (f : Clock → Clock) : (s.onClock f).inputs = s.inputs := rfl
@[simp] theorem State.onClock_pending (s : State) (f : Clock → Clock) : (s.onClock f).pending = s.pending := rfl
@[simp] theorem State.onClock_choices (s : State) (f : Clock → Clock) : (s.onClock f).choices = s.choices := rfl

@[simp] theorem State.mapRail_rail (s : State) (f : Rail → Rail) : (s.mapRail f).rail = f s.rail := rfl
@[simp] theorem State.mapRail_lots (s : State) (f : Rail → Rail) : (s.mapRail f).lots = s.lots := rfl
@[simp] theorem State.mapRail_drive (s : State) (f : Rail → Rail) : (s.mapRail f).drive = s.drive := rfl
@[simp] theorem State.mapRail_scan (s : State) (f : Rail → Rail) : (s.mapRail f).scan = s.scan := rfl
@[simp] theorem State.mapRail_clock (s : State) (f : Rail → Rail) : (s.mapRail f).clock = s.clock := rfl
@[simp] theorem State.mapRail_accounts (s : State) (f : Rail → Rail) : (s.mapRail f).accounts = s.accounts := rfl
@[simp] theorem State.mapRail_log (s : State) (f : Rail → Rail) : (s.mapRail f).log = s.log := rfl
@[simp] theorem State.mapRail_face (s : State) (f : Rail → Rail) : (s.mapRail f).face = s.face := rfl
@[simp] theorem State.mapRail_ports (s : State) (f : Rail → Rail) : (s.mapRail f).ports = s.ports := rfl
@[simp] theorem State.mapRail_inputs (s : State) (f : Rail → Rail) : (s.mapRail f).inputs = s.inputs := rfl
@[simp] theorem State.mapRail_pending (s : State) (f : Rail → Rail) : (s.mapRail f).pending = s.pending := rfl
@[simp] theorem State.mapRail_choices (s : State) (f : Rail → Rail) : (s.mapRail f).choices = s.choices := rfl

@[simp] theorem State.onRail_lots (s : State) (f : RailWork → RailWork) : (s.onRail f).lots = s.lots := rfl
@[simp] theorem State.onRail_rail (s : State) (f : RailWork → RailWork) :
    (s.onRail f).rail = (f { rail := s.rail, drive := s.drive, raised := 0 }).rail := rfl
@[simp] theorem State.onRail_drive (s : State) (f : RailWork → RailWork) :
    (s.onRail f).drive = (f { rail := s.rail, drive := s.drive, raised := 0 }).drive := rfl
@[simp] theorem State.onRail_scan (s : State) (f : RailWork → RailWork) : (s.onRail f).scan = s.scan := rfl
@[simp] theorem State.onRail_clock (s : State) (f : RailWork → RailWork) : (s.onRail f).clock = s.clock := rfl
@[simp] theorem State.onRail_accounts (s : State) (f : RailWork → RailWork) : (s.onRail f).accounts = s.accounts := rfl
@[simp] theorem State.onRail_log (s : State) (f : RailWork → RailWork) : (s.onRail f).log = s.log := rfl
@[simp] theorem State.onRail_face (s : State) (f : RailWork → RailWork) : (s.onRail f).face = s.face := rfl
@[simp] theorem State.onRail_inputs (s : State) (f : RailWork → RailWork) : (s.onRail f).inputs = s.inputs := rfl
@[simp] theorem State.onRail_pending (s : State) (f : RailWork → RailWork) : (s.onRail f).pending = s.pending := rfl
@[simp] theorem State.onRail_choices (s : State) (f : RailWork → RailWork) : (s.onRail f).choices = s.choices := rfl

@[simp] theorem State.onSeat_seat (s : State) (a : SeatAddr) (f : Seat → Seat) :
    (s.onSeat a f).scan.seats[a] = f s.scan.seats[a] := by simp [State.onSeat]
theorem State.onSeat_seat_ne (s : State) {a b : SeatAddr} (f : Seat → Seat) (h : b ≠ a) :
    (s.onSeat a f).scan.seats[b] = s.scan.seats[b] := by
  have hv : (a : Nat) ≠ (b : Nat) := fun e => h (Fin.ext e.symm)
  simp [State.onSeat, hv]
@[simp] theorem State.onSeat_lots (s : State) (a : SeatAddr) (f : Seat → Seat) : (s.onSeat a f).lots = s.lots := rfl
@[simp] theorem State.onSeat_rail (s : State) (a : SeatAddr) (f : Seat → Seat) : (s.onSeat a f).rail = s.rail := rfl
@[simp] theorem State.onSeat_drive (s : State) (a : SeatAddr) (f : Seat → Seat) : (s.onSeat a f).drive = s.drive := rfl
@[simp] theorem State.onSeat_clock (s : State) (a : SeatAddr) (f : Seat → Seat) : (s.onSeat a f).clock = s.clock := rfl
@[simp] theorem State.onSeat_accounts (s : State) (a : SeatAddr) (f : Seat → Seat) :
    (s.onSeat a f).accounts = s.accounts := rfl
@[simp] theorem State.onSeat_log (s : State) (a : SeatAddr) (f : Seat → Seat) : (s.onSeat a f).log = s.log := rfl
@[simp] theorem State.onSeat_face (s : State) (a : SeatAddr) (f : Seat → Seat) : (s.onSeat a f).face = s.face := rfl
@[simp] theorem State.onSeat_ports (s : State) (a : SeatAddr) (f : Seat → Seat) : (s.onSeat a f).ports = s.ports := rfl
@[simp] theorem State.onSeat_inputs (s : State) (a : SeatAddr) (f : Seat → Seat) : (s.onSeat a f).inputs = s.inputs := rfl
@[simp] theorem State.onSeat_pending (s : State) (a : SeatAddr) (f : Seat → Seat) : (s.onSeat a f).pending = s.pending :=
  rfl
@[simp] theorem State.onSeat_choices (s : State) (a : SeatAddr) (f : Seat → Seat) : (s.onSeat a f).choices = s.choices :=
  rfl

@[simp] theorem State.onBuyers_buyers (s : State) (f : Tbl Buyer → Tbl Buyer) :
    (s.onBuyers f).accounts.buyers = f s.accounts.buyers := rfl
@[simp] theorem State.onBuyer_buyers (s : State) (b : Nat) (f : Buyer → Buyer) :
    (s.onBuyer b f).accounts.buyers = s.accounts.buyers.modify b f := rfl
@[simp] theorem State.onBuyer_lots (s : State) (b : Nat) (f : Buyer → Buyer) : (s.onBuyer b f).lots = s.lots := rfl
@[simp] theorem State.onBuyer_clock (s : State) (b : Nat) (f : Buyer → Buyer) : (s.onBuyer b f).clock = s.clock := rfl
@[simp] theorem State.onBuyer_log (s : State) (b : Nat) (f : Buyer → Buyer) : (s.onBuyer b f).log = s.log := rfl
@[simp] theorem State.onBuyer_scan (s : State) (b : Nat) (f : Buyer → Buyer) : (s.onBuyer b f).scan = s.scan := rfl
@[simp] theorem State.onBuyer_ports (s : State) (b : Nat) (f : Buyer → Buyer) : (s.onBuyer b f).ports = s.ports := rfl

@[simp] theorem State.reface_lots (s : State) : s.reface.lots = s.lots := rfl
@[simp] theorem State.reface_rail (s : State) : s.reface.rail = s.rail := rfl
@[simp] theorem State.reface_drive (s : State) : s.reface.drive = s.drive := rfl
@[simp] theorem State.reface_scan (s : State) : s.reface.scan = s.scan := rfl
@[simp] theorem State.reface_clock (s : State) : s.reface.clock = s.clock := rfl
@[simp] theorem State.reface_accounts (s : State) : s.reface.accounts = s.accounts := rfl
@[simp] theorem State.reface_log (s : State) : s.reface.log = s.log := rfl
@[simp] theorem State.reface_ports (s : State) : s.reface.ports = s.ports := rfl
@[simp] theorem State.reface_inputs (s : State) : s.reface.inputs = s.inputs := rfl
@[simp] theorem State.reface_pending (s : State) : s.reface.pending = s.pending := rfl
@[simp] theorem State.reface_choices (s : State) : s.reface.choices = s.choices := rfl
/-- The image formed anew is the one the records give, before and after (R187). -/
theorem State.reface_imageOk (s : State) : s.reface.ImageOk := rfl

/-! ## A change of the clock state (R92) -/

theorem State.setClock_cases (s : State) (st : ClockState) (h : Option HaltReason) :
    ∃ (f : Face) (ps : Ports), s.setClock st h =
      { s with clock := { s.clock with state := st, halt := h }, face := f, ports := ps } ∧ f.image = s.face.image := by
  unfold State.setClock
  by_cases hc : s.clock.state = st ∧ s.clock.halt = h
  · dsimp only; rw [if_pos hc]; exact ⟨_, _, rfl, rfl⟩
  · dsimp only; rw [if_neg hc]; exact ⟨_, _, rfl, rfl⟩

@[simp] theorem State.setClock_clock (s : State) (st : ClockState) (h : Option HaltReason) :
    (s.setClock st h).clock = { s.clock with state := st, halt := h } := by
  obtain ⟨f, ps, e, -⟩ := s.setClock_cases st h; rw [e]
@[simp] theorem State.setClock_lots (s : State) (st : ClockState) (h : Option HaltReason) :
    (s.setClock st h).lots = s.lots := by obtain ⟨f, ps, e, -⟩ := s.setClock_cases st h; rw [e]
@[simp] theorem State.setClock_rail (s : State) (st : ClockState) (h : Option HaltReason) :
    (s.setClock st h).rail = s.rail := by obtain ⟨f, ps, e, -⟩ := s.setClock_cases st h; rw [e]
@[simp] theorem State.setClock_drive (s : State) (st : ClockState) (h : Option HaltReason) :
    (s.setClock st h).drive = s.drive := by obtain ⟨f, ps, e, -⟩ := s.setClock_cases st h; rw [e]
@[simp] theorem State.setClock_scan (s : State) (st : ClockState) (h : Option HaltReason) :
    (s.setClock st h).scan = s.scan := by obtain ⟨f, ps, e, -⟩ := s.setClock_cases st h; rw [e]
@[simp] theorem State.setClock_accounts (s : State) (st : ClockState) (h : Option HaltReason) :
    (s.setClock st h).accounts = s.accounts := by obtain ⟨f, ps, e, -⟩ := s.setClock_cases st h; rw [e]
@[simp] theorem State.setClock_log (s : State) (st : ClockState) (h : Option HaltReason) :
    (s.setClock st h).log = s.log := by obtain ⟨f, ps, e, -⟩ := s.setClock_cases st h; rw [e]
@[simp] theorem State.setClock_inputs (s : State) (st : ClockState) (h : Option HaltReason) :
    (s.setClock st h).inputs = s.inputs := by obtain ⟨f, ps, e, -⟩ := s.setClock_cases st h; rw [e]
@[simp] theorem State.setClock_pending (s : State) (st : ClockState) (h : Option HaltReason) :
    (s.setClock st h).pending = s.pending := by obtain ⟨f, ps, e, -⟩ := s.setClock_cases st h; rw [e]
@[simp] theorem State.setClock_choices (s : State) (st : ClockState) (h : Option HaltReason) :
    (s.setClock st h).choices = s.choices := by obtain ⟨f, ps, e, -⟩ := s.setClock_cases st h; rw [e]

/-! ## The end of a rail event -/

/-- WANT, where it is raised, is all that `wantSince` changes. -/
theorem State.wantSince_cases (s before : State) : s.wantSince before = s ∨ s.wantSince before = s.raise .want := by
  unfold State.wantSince; split
  · exact .inr rfl
  · exact .inl rfl

/-- All that `railDone` can change: the rail and the Drive Unit as the examination of eligibility leaves them, the face image,
and the yard port's events. -/
theorem State.railDone_cases (s before : State) :
    ∃ ps, s.railDone before =
      { s with rail := s.settle.rail, drive := s.settle.drive, ports := ps,
               face := { s.face with image := (s.railDone before).imageNow } } := by
  have hw := s.settle.wantSince_cases before
  unfold State.railDone
  rcases hw with h | h <;> rw [h] <;> exact ⟨_, rfl⟩

@[simp] theorem State.railDone_lots (s b : State) : (s.railDone b).lots = s.lots := by
  obtain ⟨ps, e⟩ := s.railDone_cases b; rw [e]
@[simp] theorem State.railDone_rail (s b : State) : (s.railDone b).rail = s.settle.rail := by
  obtain ⟨ps, e⟩ := s.railDone_cases b; rw [e]
@[simp] theorem State.railDone_drive (s b : State) : (s.railDone b).drive = s.settle.drive := by
  obtain ⟨ps, e⟩ := s.railDone_cases b; rw [e]
@[simp] theorem State.railDone_scan (s b : State) : (s.railDone b).scan = s.scan := by
  obtain ⟨ps, e⟩ := s.railDone_cases b; rw [e]
@[simp] theorem State.railDone_clock (s b : State) : (s.railDone b).clock = s.clock := by
  obtain ⟨ps, e⟩ := s.railDone_cases b; rw [e]
@[simp] theorem State.railDone_accounts (s b : State) : (s.railDone b).accounts = s.accounts := by
  obtain ⟨ps, e⟩ := s.railDone_cases b; rw [e]
@[simp] theorem State.railDone_log (s b : State) : (s.railDone b).log = s.log := by
  obtain ⟨ps, e⟩ := s.railDone_cases b; rw [e]
@[simp] theorem State.railDone_inputs (s b : State) : (s.railDone b).inputs = s.inputs := by
  obtain ⟨ps, e⟩ := s.railDone_cases b; rw [e]
@[simp] theorem State.railDone_pending (s b : State) : (s.railDone b).pending = s.pending := by
  obtain ⟨ps, e⟩ := s.railDone_cases b; rw [e]
@[simp] theorem State.railDone_choices (s b : State) : (s.railDone b).choices = s.choices := by
  obtain ⟨ps, e⟩ := s.railDone_cases b; rw [e]
theorem State.railDone_imageOk (s b : State) : (s.railDone b).ImageOk := State.reface_imageOk _

/-! ## Time -/

@[simp] theorem State.elapse_lots (n : Nat) (s : State) : (s.elapse n).lots = s.lots := rfl
@[simp] theorem State.elapse_rail (n : Nat) (s : State) : (s.elapse n).rail = s.rail.after n := rfl
@[simp] theorem State.elapse_drive (n : Nat) (s : State) : (s.elapse n).drive = s.drive.after n := rfl
@[simp] theorem State.elapse_scan (n : Nat) (s : State) : (s.elapse n).scan = s.scan := rfl
@[simp] theorem State.elapse_clock (n : Nat) (s : State) : (s.elapse n).clock = s.clock.after n := rfl
@[simp] theorem State.elapse_accounts (n : Nat) (s : State) : (s.elapse n).accounts = s.accounts := rfl
@[simp] theorem State.elapse_log (n : Nat) (s : State) : (s.elapse n).log = s.log := rfl
@[simp] theorem State.elapse_ports (n : Nat) (s : State) : (s.elapse n).ports = s.ports := rfl
@[simp] theorem State.elapse_inputs (n : Nat) (s : State) : (s.elapse n).inputs = s.inputs := rfl
@[simp] theorem State.elapse_pending (n : Nat) (s : State) : (s.elapse n).pending = s.pending := rfl
@[simp] theorem State.elapse_late (n : Nat) (s : State) : (s.elapse n).choices.late = s.choices.late := rfl
@[simp] theorem State.elapse_image (n : Nat) (s : State) : (s.elapse n).face.image = s.face.image := rfl
@[simp] theorem State.elapse_map (n : Nat) (s : State) : (s.elapse n).face.map = s.face.map := rfl
@[simp] theorem State.elapse_lamps (n : Nat) (s : State) : (s.elapse n).face.lamps = s.face.lamps := rfl
@[simp] theorem Rail.after_secs (n : Nat) (r : Rail) : (r.after n).secs = r.secs := rfl
@[simp] theorem Rail.after_stalls (n : Nat) (r : Rail) : (r.after n).stalls = r.stalls := rfl
@[simp] theorem Rail.after_hold (n : Nat) (r : Rail) : (r.after n).hold = r.hold := rfl
@[simp] theorem Rail.after_gate (n : Nat) (r : Rail) : (r.after n).gate = r.gate := rfl
@[simp] theorem Clock.after_state (n : Nat) (c : Clock) : (c.after n).state = c.state := rfl
@[simp] theorem Clock.after_lot (n : Nat) (c : Clock) : (c.after n).lot = c.lot := rfl
@[simp] theorem Clock.after_price (n : Nat) (c : Clock) : (c.after n).price = c.price := rfl

@[simp] theorem Clock.after_noticeWaiting (n : Nat) (c : Clock) : (c.after n).noticeWaiting = c.noticeWaiting := rfl

/-! ## The face chain -/

@[simp] theorem Lamps.upTo_zero (x y : Lamps) : Lamps.upTo 0 x y = y := by
  cases y; simp [Lamps.upTo]
@[simp] theorem Lamps.off_on (p : Nat) : Lamps.off.on p = false := rfl

/-- A lamp in the chain: the level carried where its place is shifted out, and otherwise the present one. -/
theorem Lamps.upTo_on (n : Nat) (x y : Lamps) (p : Nat) :
    (Lamps.upTo n x y).on p = if p < n then x.on p else y.on p := by
  by_cases h : p < n <;> simp [Lamps.upTo, Lamps.on, h, Nat.not_le.mpr, Nat.not_lt.mp]

/-- A pass keeps the form of the levels. -/
theorem Lamps.upTo_wf (n : Nat) {x y : Lamps} (hx : x.wf) (hy : y.wf) : (Lamps.upTo n x y).wf := by
  refine ⟨List.pairwise_append.mpr ⟨hx.1.filter _, hy.1.filter _, fun a ha b hb => ?_⟩, fun p hp => ?_⟩
  · exact Nat.lt_of_lt_of_le (by simpa using (List.mem_filter.mp ha).2) (by simpa using (List.mem_filter.mp hb).2)
  · rcases List.mem_append.mp hp with h | h
    · exact hx.2 p (List.mem_filter.mp h).1
    · exact hy.2 p (List.mem_filter.mp h).1

/-- The lit segments of a cell are those its content lights. -/
theorem Cell.mem_segments (c : Cell) (j : Nat) : j ∈ c.segments ↔ j < Config.cellSegments ∧ c.lit j = true := by
  cases c <;> simp [Cell.segments, Cell.lit]

/-- The figure 8 and the dash together light every segment of a cell (R188). -/
theorem Cell.eight_or_dash_lit (j : Nat) : ((Cell.digit 8).lit j || Cell.dash.lit j) = true := by
  cases h : Config.dashLit j <;> simp [Cell.lit, digitLit, h]

@[simp] theorem Cell.test_lit (j : Nat) : Cell.test.lit j = true := Cell.eight_or_dash_lit j

/-- The lit places of a run of cells: those of the segments that each cell's content lights. -/
theorem mem_cellPlaces (p : Nat) : ∀ (i : Nat) (cs : List Cell), p ∈ cellPlaces i cs ↔
    ∃ k c, cs[k]? = some c ∧ ∃ j < Config.cellSegments, c.lit j = true ∧ segmentPlace (i + k) j = p
  | _, [] => by simp [cellPlaces]
  | i, c :: cs => by
    simp only [cellPlaces, List.mem_append, List.mem_map, Cell.mem_segments, mem_cellPlaces p (i + 1) cs, and_assoc]
    constructor
    · rintro (⟨j, hj, hl, rfl⟩ | ⟨k, d, hd, j, hj, hl, rfl⟩)
      · exact ⟨0, c, rfl, j, hj, hl, rfl⟩
      · exact ⟨k + 1, d, hd, j, hj, hl, by rw [Nat.add_right_comm, Nat.add_assoc]⟩
    · rintro ⟨_ | k, d, hd, j, hj, hl, rfl⟩
      · cases hd; exact .inl ⟨j, hj, hl, rfl⟩
      · exact .inr ⟨k, d, hd, j, hj, hl, by rw [Nat.add_right_comm, Nat.add_assoc]⟩

/-- In a face test every lamp of the chain is lit (R188, R189). -/
theorem Lamps.testing_on (p : Nat) : Lamps.testing.on p = decide (p < Config.chainLength) := by
  have hs : 0 < Config.cellSegments := Nat.succ_pos _
  rw [Lamps.on, List.contains_eq_mem, decide_eq_decide]
  simp only [Lamps.testing, List.mem_append, List.mem_range, mem_cellPlaces, Config.chainLength, segmentPlace,
    List.getElem?_replicate]
  constructor
  · rintro (h | ⟨k, c, hc, j, hj, -, rfl⟩)
    · exact Nat.lt_add_right _ h
    · have hk : k < Config.faceCells := by by_contra hn; simp [hn] at hc
      have := Nat.mul_le_mul_right Config.cellSegments (Nat.succ_le_of_lt hk)
      rw [Nat.succ_mul] at this
      rw [Nat.zero_add]
      omega
  · intro h
    by_cases hr : p < Config.ringLamps
    · exact .inl hr
    · have hd := Nat.div_add_mod (p - Config.ringLamps) Config.cellSegments
      have hk : (p - Config.ringLamps) / Config.cellSegments < Config.faceCells :=
        (Nat.div_lt_iff_lt_mul hs).mpr (by omega)
      refine .inr ⟨_, .test, if_pos hk, _, Nat.mod_lt (p - Config.ringLamps) hs, Cell.test_lit _, ?_⟩
      rw [Nat.zero_add, Nat.mul_comm]
      omega

/-- At the beginning of a pass a latch takes the present levels. -/
theorem Face.latch_start (f : Face) (now : Lamps) (h : f.shifted = 0) :
    f.latch now = { f with lamps := now, carried := now } := by
  cases f; cases h; simp [Face.latch]

/-- The Clock Engine told of a presentation: a late notice waits, and any other is taken at once (R94, R116). -/
theorem State.tellClock_cases (s : State) :
    (s.choices.late.head? = some true ∧ s.tellClock =
      { s with choices := { s.choices with late := s.choices.late.tail }, clock := { s.clock with noticeWaiting := true } }) ∨
    (s.choices.late.head? ≠ some true ∧ s.tellClock =
      ({ s with choices := { s.choices with late := s.choices.late.tail } } : State).presentedNotice) := by
  unfold State.tellClock
  by_cases h : s.choices.late.head? = some true
  · exact .inl ⟨h, by simp only [h, if_true]; rfl⟩
  · exact .inr ⟨h, by simp only [h, if_false]⟩

/-- All that the taking of a waiting notice does where it changes nothing else (R94). -/
theorem State.takeNotice_idle (s : State) (h : ¬ (s.clock.state = .idle ∧ s.clock.auto = true)) :
    s.takeNotice = s.onClock fun c => { c with noticeWaiting := false } := by
  simp only [State.takeNotice, State.onClock_clock]; exact if_neg h

/-- A running timer's expiry lets the time left pass and takes the expiry; a stopped timer has none. -/
@[simp] theorem State.expire_some (s : State) (n : Nat) (f : State → State) : s.expire (some n) f = f (s.elapse n) := rfl
@[simp] theorem State.expire_none (s : State) (f : State → State) : s.expire none f = s := rfl

end Sys2Proof.Machine
end

