-- ==== Sys2Proof/Laws/Commands.lean ====
section
/-!
SUPPORT. What a catalogue command does on a port, said once for every command, and what a step may change: the shared
operations behind every meaning.
-/

namespace Sys2Proof.Machine

/-! ## A port that listens -/

theorem State.listens_iff (s : State) (p : Role) :
    s.listens p = true ↔ (s.port p).window = .opened ∧ (s.port p).phase = .frame ∧ (s.port p).frame = [] ∧
      (s.port p).poisoned = false := by
  simp [State.listens, Port.ready, and_assoc]

/-- Every catalogue command's meaning is what its owner does, taken as a command on its port. -/
theorem exec_command (i : Instr) (s : State) (x : Role × Byte × List Byte) (h : frameOf i = some x) :
    exec i s = .next (s.commanded i (takeCommand i)) := by
  cases i <;> cases h <;> rfl

/-- A sound frame of a permitted command on a port that listens is taken by its owner (R197). -/
theorem State.commanded_taken (s : State) (i : Instr) (p : Role) (code : Byte) (payload : List Byte) (roles : List Role)
    (take : State → Taken) (hf : frameOf i = some (p, code, payload)) (hr : rolesOf code = some roles)
    (hp : roles.contains p = true) (hw : i.wellFormed = true) (hl : s.listens p = true) :
    s.commanded i take = (s.frameTaken p).takeOn p take := by
  simp only [State.listens, Bool.and_eq_true, Bool.not_eq_true'] at hl
  simp only [State.commanded, hf, hl.1, hw, hl.2, hr, hp, Option.any_some, and_self, if_true, Bool.false_eq_true,
    if_false]

/-- A command of a role without permission is answered NOT_PERMITTED (R197). -/
theorem State.commanded_notPermitted (s : State) (i : Instr) (p : Role) (code : Byte) (payload : List Byte)
    (roles : List Role) (take : State → Taken) (hf : frameOf i = some (p, code, payload)) (hr : rolesOf code = some roles)
    (hp : roles.contains p = false) (hw : i.wellFormed = true) (hl : s.listens p = true) :
    s.commanded i take = s.rejected p .notPermitted := by
  simp only [State.listens, Bool.and_eq_true, Bool.not_eq_true'] at hl
  simp only [State.commanded, hf, hl.1, hw, hl.2, hr, hp, Option.any_some, and_self, if_true, Bool.false_eq_true,
    if_false, State.rejected, State.replied]

/-- What `exec` answers for a permitted command on a port that listens. -/
theorem exec_taken (i : Instr) (s : State) (p : Role) (code : Byte) (payload : List Byte) (roles : List Role)
    (hf : frameOf i = some (p, code, payload)) (hr : rolesOf code = some roles) (hp : roles.contains p = true)
    (hw : i.wellFormed = true) (hl : s.listens p = true) :
    exec i s = .next ((takeCommand i (s.frameTaken p)).1.giveReply p (takeCommand i (s.frameTaken p)).2) := by
  rw [exec_command i s _ hf, s.commanded_taken i p code payload roles _ hf hr hp hw hl]; rfl

/-- A refusal leaves everything but the port's framing as it was. -/
@[simp] theorem State.refused_eq (s : State) (p : Role) (st : Status) :
    (refuse (s.frameTaken p) st).1.giveReply p (refuse (s.frameTaken p) st).2 = s.rejected p st := rfl

/-! ## Words -/

/-- A word in a closed window reads 0xFF and changes nothing else (R193). -/
theorem State.clockWord_closed (s : State) (p : Role) (w : LinkWord) (h : (s.port p).window = .closed) :
    s.clockWord p w = s.onPort p fun r => { r with out := LinkWord.idle } := by simp [State.clockWord, h]

/-- A word during a reply carries the reply on (R193, R195). -/
theorem State.clockWord_reply (s : State) (p : Role) (w : LinkWord) (h : (s.port p).window = .opened)
    (hp : (s.port p).phase = .reply) : s.clockWord p w = s.onPort p Port.replyWord := by simp [State.clockWord, h, hp]

/-- A word where a frame is received is the frame's next word, or skipped (R193, R194). -/
theorem State.clockWord_frame (s : State) (p : Role) (w : LinkWord) (h : (s.port p).window = .opened)
    (hp : (s.port p).phase = .frame) : s.clockWord p w = s.frameWord p w := by simp [State.clockWord, h, hp]

@[simp] theorem State.clockWords_nil (s : State) (p : Role) : s.clockWords p [] = s := rfl
@[simp] theorem State.clockWords_cons (s : State) (p : Role) (w : LinkWord) (ws : List LinkWord) :
    s.clockWords p (w :: ws) = (s.clockWord p w).clockWords p ws := rfl
theorem State.clockWords_append (s : State) (p : Role) (us ws : List LinkWord) :
    s.clockWords p (us ++ ws) = (s.clockWords p us).clockWords p ws := List.foldl_append

/-! ## What a condition needs to be kept by every command -/

/-- A condition that no change of a port record touches. -/
def PortFree (P : State → Prop) : Prop := ∀ (s : State) (p : Role) (r : Port), P s → P (s.setPort p r)

/-- A condition that every command's owner keeps, whichever command of the catalogue it takes. -/
def OwnersKeep (P : State → Prop) : Prop := ∀ (i : Instr) (s : State), P s → P (takeCommand i s).1

theorem State.giveReply_keeps {P : State → Prop} (hp : PortFree P) {s : State} (h : P s) (p : Role) (x : Reply) :
    P (s.giveReply p x) := hp s p _ h

theorem State.lineError_keeps {P : State → Prop} (hp : PortFree P) {s : State} (h : P s) (p : Role) (st : Status) :
    P (s.lineError p st) := hp _ p _ (hp s p _ h)

theorem State.passFrame_keeps {P : State → Prop} (hp : PortFree P) (ho : OwnersKeep P) {s : State} (h : P s) (p : Role)
    (code : Byte) (payload : List Byte) : P (s.passFrame p code payload) := by
  unfold State.passFrame
  split
  · exact hp s p _ h
  · split
    · split
      · exact hp s p _ h
      · exact hp _ p _ (ho _ s h)
    · exact hp s p _ h

theorem State.frameDone_keeps {P : State → Prop} (hp : PortFree P) (ho : OwnersKeep P) {s : State} (h : P s) (p : Role)
    (f : Port) : P (s.frameDone p f) := by
  unfold State.frameDone
  split
  · exact hp s p _ h
  · split
    · exact s.lineError_keeps hp h p _
    · split
      · split
        · exact s.lineError_keeps hp h p _
        · exact s.passFrame_keeps hp ho h p _ _
      · exact h

theorem State.clockWord_keeps {P : State → Prop} (hp : PortFree P) (ho : OwnersKeep P) {s : State} (h : P s) (p : Role)
    (w : LinkWord) : P (s.clockWord p w) := by
  unfold State.clockWord
  split
  · exact hp s p _ h
  · exact hp s p _ h
  · unfold State.frameWord
    dsimp only
    split
    · exact hp s p _ h
    · split
      · exact State.frameDone_keeps hp ho (hp s p _ h) p _
      · exact hp s p _ h

theorem State.clockWords_keeps {P : State → Prop} (hp : PortFree P) (ho : OwnersKeep P) (p : Role) (ws : List LinkWord)
    {s : State} (h : P s) : P (s.clockWords p ws) := by
  induction ws generalizing s with
  | nil => exact h
  | cons w ws ih => exact ih (State.clockWord_keeps hp ho h p w)

theorem State.commanded_keeps {P : State → Prop} (hp : PortFree P) (ho : OwnersKeep P) (i : Instr) {s : State} (h : P s) :
    P (s.commanded i (takeCommand i)) := by
  unfold State.commanded
  split
  · exact h
  · next p code payload _ =>
    split
    · split
      · exact hp _ p _ (hp s p _ h)
      · split
        · exact hp _ p _ (ho i _ (hp s p _ h))
        · exact hp _ p _ (hp s p _ h)
    · exact State.clockWords_keeps hp ho p _ h

/-- An event that is neither a command, a word nor a select line: a reset, or a row of a block other than the ports. -/
def blockEvent : Instr → Bool
  | .selectFall _ | .selectRise _ | .unknownCommand _ _ _ | .wordClocked _ _ | .frameLineError _ _ => false
  | i => (frameOf i).isNone

/-- A condition that no port record touches, that every owner keeps and that every event of the other blocks keeps is kept by
every row of the table: the one case analysis that the invariants need. -/
theorem exec_keeps {P : State → Prop} (hp : PortFree P) (ho : OwnersKeep P)
    (he : ∀ (i : Instr) (s t : State), blockEvent i = true → P s → exec i s = .next t → P t)
    (i : Instr) {s t : State} (h : P s) (hx : exec i s = .next t) : P t := by
  by_cases hb : blockEvent i = true
  · exact he i s t hb h hx
  · cases hf : frameOf i with
    | some x =>
      rw [exec_command i s x hf] at hx
      injection hx with hx
      exact hx ▸ State.commanded_keeps hp ho i h
    | none =>
      cases i <;> simp [blockEvent, frameOf] at hb hf <;> injection hx with hx <;> subst hx
      · split
        · exact h
        · exact hp s _ _ h
      · split
        · exact hp s _ _ h
        · exact h
      · exact State.clockWords_keeps hp ho _ _ h
      · exact State.clockWord_keeps hp ho h _ _
      · exact State.clockWords_keeps hp ho _ _ h

/-- A condition that the queue does not touch and that every row of the table, the taking of a notice and the passing of
0.1 ms keep is kept by every step. -/
theorem step_keeps {P : State → Prop} (hq : ∀ (s : State) (l : List Instr), P s → P { s with pending := l })
    (hx : ∀ (i : Instr) (s t : State), P s → exec i s = .next t → P t) (hn : ∀ s, P s → P s.takeNotice)
    (ht : ∀ s, P s → P (s.elapse 1))
    {s t : State} (h : P s) (hs : step s = .next t) : P t := by
  unfold step State.idle at hs
  split at hs
  · split at hs
    · injection hs with hs; exact hs ▸ hn s h
    · split at hs
      · exact hx _ s t h hs
      · injection hs with hs; exact hs ▸ ht s h
  · exact hx _ _ t (hq s _ h) hs

end Sys2Proof.Machine
end

