-- ==== Sys2Proof/Laws/Tables.lean ====
section
/-!
SUPPORT. What each operation on a keyed table does to a look-up, and that each keeps the canonical form.
-/

namespace Sys2Proof.Machine

variable {α : Type}

@[simp] theorem Tbl.get_nil (k : Nat) : Tbl.get ([] : Tbl α) k = none := rfl

@[simp] theorem Tbl.get_put_self (t : Tbl α) (k : Nat) (v : α) : (t.put k v).get k = some v := by
  induction t with
  | nil => simp [Tbl.put, Tbl.get]
  | cons e t ih =>
    obtain ⟨k', v'⟩ := e
    unfold Tbl.put
    by_cases h1 : k < k'
    · simp [h1, Tbl.get]
    · by_cases h2 : k = k'
      · simp [h2, Tbl.get]
      · rw [if_neg h1, if_neg h2, Tbl.get, if_neg (Ne.symm h2), ih]

theorem Tbl.get_put_ne (t : Tbl α) {k j : Nat} (v : α) (h : j ≠ k) : (t.put k v).get j = t.get j := by
  induction t with
  | nil => simp [Tbl.put, Tbl.get, Ne.symm h]
  | cons e t ih =>
    obtain ⟨k', v'⟩ := e
    unfold Tbl.put
    by_cases h1 : k < k'
    · simp [h1, Tbl.get, Ne.symm h]
    · by_cases h2 : k = k'
      · subst h2; simp [Tbl.get, Ne.symm h]
      · rw [if_neg h1, if_neg h2]
        simp only [Tbl.get]
        split
        · rfl
        · exact ih

theorem Tbl.get_erase (t : Tbl α) (k j : Nat) : (t.erase k).get j = if j = k then none else t.get j := by
  induction t with
  | nil => simp [Tbl.erase, Tbl.get]
  | cons e t ih =>
    obtain ⟨k', v'⟩ := e
    unfold Tbl.erase at ih ⊢
    by_cases h : k' = k
    · subst h
      simp only [List.filter, ne_eq, not_true, decide_false, Tbl.get]
      rw [ih]
      split
      · rfl
      · next h2 => rw [if_neg (Ne.symm h2)]
    · simp only [List.filter, ne_eq, h, not_false_eq_true, decide_true, Tbl.get]
      by_cases h3 : k' = j
      · rw [if_pos h3, if_pos h3, if_neg (h3 ▸ h)]
      · rw [if_neg h3, if_neg h3, ih]

@[simp] theorem Tbl.get_erase_self (t : Tbl α) (k : Nat) : (t.erase k).get k = none := by rw [Tbl.get_erase, if_pos rfl]

theorem Tbl.get_erase_ne (t : Tbl α) {k j : Nat} (h : j ≠ k) : (t.erase k).get j = t.get j := by
  rw [Tbl.get_erase, if_neg h]

theorem Tbl.get_mapAll (t : Tbl α) (f : Nat → α → α) (k : Nat) : (t.mapAll f).get k = (t.get k).map (f k) := by
  induction t with
  | nil => rfl
  | cons e t ih =>
    obtain ⟨k', v'⟩ := e
    unfold Tbl.mapAll at ih ⊢
    simp only [List.map, Tbl.get]
    by_cases h : k' = k
    · subst h; simp
    · rw [if_neg h, if_neg h, ih]

theorem Tbl.get_modify (t : Tbl α) (k : Nat) (f : α → α) (j : Nat) :
    (t.modify k f).get j = if j = k then (t.get j).map f else t.get j := by
  rw [Tbl.modify, Tbl.get_mapAll]
  by_cases h : j = k
  · subst h; simp
  · simp [h]

@[simp] theorem Tbl.get_modify_self (t : Tbl α) (k : Nat) (f : α → α) : (t.modify k f).get k = (t.get k).map f := by
  rw [Tbl.get_modify, if_pos rfl]

theorem Tbl.get_modify_ne (t : Tbl α) {k j : Nat} (f : α → α) (h : j ≠ k) : (t.modify k f).get j = t.get j := by
  rw [Tbl.get_modify, if_neg h]

/-! ## Lengths -/

@[simp] theorem Tbl.length_mapAll (t : Tbl α) (f : Nat → α → α) : (t.mapAll f).length = t.length := List.length_map ..

@[simp] theorem Tbl.length_modify (t : Tbl α) (k : Nat) (f : α → α) : (t.modify k f).length = t.length :=
  Tbl.length_mapAll ..

theorem Tbl.length_erase_le (t : Tbl α) (k : Nat) : (t.erase k).length ≤ t.length := List.length_filter_le ..

theorem Tbl.length_put (t : Tbl α) (k : Nat) (v : α) (h : t.get k = none) : (t.put k v).length = t.length + 1 := by
  induction t with
  | nil => rfl
  | cons e t ih =>
    obtain ⟨k', v'⟩ := e
    simp only [Tbl.get] at h
    unfold Tbl.put
    by_cases h1 : k < k'
    · simp [h1]
    · by_cases h2 : k = k'
      · simp [h2] at h
      · rw [if_neg (Ne.symm h2)] at h
        rw [if_neg h1, if_neg h2]
        simp [ih h]

/-! ## The canonical form -/

@[simp] theorem Tbl.mapAll_keys (t : Tbl α) (f : Nat → α → α) : (t.mapAll f).map (·.1) = t.map (·.1) := by
  simp [Tbl.mapAll]

theorem Tbl.wf_iff (t : Tbl α) : t.wf = true ↔ (t.map (·.1)).Pairwise (· < ·) := by simp [Tbl.wf]

@[simp] theorem Tbl.wf_mapAll (t : Tbl α) (f : Nat → α → α) : (t.mapAll f).wf = t.wf := by simp [Tbl.wf]

@[simp] theorem Tbl.wf_modify (t : Tbl α) (k : Nat) (f : α → α) : (t.modify k f).wf = t.wf := Tbl.wf_mapAll ..

theorem Tbl.wf_erase (t : Tbl α) (k : Nat) (h : t.wf = true) : (t.erase k).wf = true := by
  rw [Tbl.wf_iff] at *
  exact h.sublist (List.filter_sublist.map _)

theorem Tbl.key_of_mem_put (t : Tbl α) (k : Nat) (v : α) (x : Nat) (h : x ∈ (t.put k v).map (·.1)) :
    x = k ∨ x ∈ t.map (·.1) := by
  induction t with
  | nil => simpa [Tbl.put] using h
  | cons e t ih =>
    obtain ⟨k', v'⟩ := e
    unfold Tbl.put at h
    by_cases h1 : k < k'
    · simpa [h1] using h
    · by_cases h2 : k = k'
      · subst h2; simp at h; rcases h with h | h
        · exact .inl h
        · simp [h]
      · rw [if_neg h1, if_neg h2] at h
        simp only [List.map_cons, List.mem_cons] at h ⊢
        rcases h with h | h
        · exact .inr (.inl h)
        · exact (ih h).imp id .inr

theorem Tbl.wf_put (t : Tbl α) (k : Nat) (v : α) (h : t.wf = true) : (t.put k v).wf = true := by
  rw [Tbl.wf_iff] at *
  induction t with
  | nil => simp [Tbl.put]
  | cons e t ih =>
    obtain ⟨k', v'⟩ := e
    simp only [List.map_cons, List.pairwise_cons] at h
    unfold Tbl.put
    by_cases h1 : k < k'
    · simp only [h1, if_true, List.map_cons, List.pairwise_cons, List.mem_cons]
      exact ⟨fun x hx => hx.elim (fun e => e ▸ h1) (fun hx => h1.trans (h.1 x hx)), h.1, h.2⟩
    · by_cases h2 : k = k'
      · subst h2; simpa using h
      · rw [if_neg h1, if_neg h2]
        simp only [List.map_cons, List.pairwise_cons]
        refine ⟨fun x hx => ?_, ih h.2⟩
        rcases Tbl.key_of_mem_put t k v x hx with e | hx
        · omega
        · exact h.1 x hx

/-- In canonical form a key's record is the one its entry holds. -/
theorem Tbl.get_eq_of_mem (t : Tbl α) (h : t.wf = true) {k : Nat} {v : α} (hm : (k, v) ∈ t) : t.get k = some v := by
  rw [Tbl.wf_iff] at h
  induction t with
  | nil => simp at hm
  | cons e t ih =>
    obtain ⟨k', v'⟩ := e
    simp only [List.map_cons, List.pairwise_cons] at h
    simp only [Tbl.get]
    rcases List.mem_cons.1 hm with he | hm
    · simp at he; simp [he]
    · have : k' < k := h.1 k (List.mem_map.2 ⟨(k, v), hm, rfl⟩)
      rw [if_neg (by omega)]
      exact ih h.2 hm

theorem Tbl.mem_of_get_eq (t : Tbl α) {k : Nat} {v : α} (h : t.get k = some v) : (k, v) ∈ t := by
  induction t with
  | nil => simp at h
  | cons e t ih =>
    obtain ⟨k', v'⟩ := e
    simp only [Tbl.get] at h
    by_cases hk : k' = k
    · simp [hk] at h; simp [hk, h]
    · rw [if_neg hk] at h; exact List.mem_cons_of_mem _ (ih h)

end Sys2Proof.Machine
end

