-- ==== Sys2Proof/Tests/Slice0.lean ====
section
/-!
SUPPORT. Tests: ill-formed terms that `wellFormed` refuses, the manual's worked numbers, one small step for each family, and
for each obligation with hypotheses a concrete state and operands that meet them.

A `witness_<name>` theorem shows that the hypotheses of the obligation of that name can be met together, clause by clause. A
`test_<name>` theorem checks one step or one function against a value that the manual gives.
-/

namespace Sys2Proof.Tests

open Sys2Proof Sys2Proof.Machine

set_option Elab.async false

/-! ## Small states -/

/-- A port's window opened. -/
def opened (p : Role) (s : State) : State := s.setPort p { s.port p with window := .opened, selectLow := true }

/-- What a step answers, where it answers a next state. -/
def after (i : Instr) (s : State) : State :=
  match exec i s with
  | .next t => t
  | _ => s

/-- The lot of the small states: ten units, floor 60, start 100. -/
def lotIn (st : LotState) (train place : Option Nat) : Lot :=
  { train := train, place := place, product := 7, grower := 3, grade := 1, unitsTotal := 10, stems := 20, minimum := 2,
    startPrice := 100, floorPrice := 60, restartRaise := 5, restartLimit := 1, container := 30, state := st,
    outcome := none, remaining := 10, sold := 0, withdrawn := 0, restartsUsed := 0, pendingCount := 0, lastSale := none }

/-- A train of one trolley with lot 10. -/
def trainIn (st : TrainState) (k : Option Sec) : Train := { trolleys := 1, lots := [10], state := st, sec := k }

def withLot (l : Lot) (s : State) : State := { s with lots := { s.lots with lots := [(10, l)] } }

/-- Train 7 and the queue that goes with its state. -/
def withTrain (r : Train) (s : State) : State :=
  { s with lots := { s.lots with trains := [(7, r)],
                                 queue := if r.state = .announced ∨ r.state = .misorder then [7] else [] } }

def withSec (k : Sec) (c : Cond) (t : Option Nat) (s : State) : State :=
  { s with rail := s.rail.onSec k fun x => { x with cond := c, occupant := t } }

def withMove (m : Move) (s : State) : State := { s with rail := { s.rail with slots := s.rail.slots.set 0 (some m) } }

def withPresence (k : Sec) (b : Bool) (s : State) : State :=
  { s with inputs := { s.inputs with presence := s.inputs.presence.set k b } }

def withStall (k : Sec) (st : Stall) (s : State) : State :=
  { s with rail := { s.rail with stalls := s.rail.stalls.set k (some st) } }

def withBuyer (b : Buyer) (s : State) : State := { s with accounts := { s.accounts with buyers := [(5, b)] } }

/-- Buyer 5: a limit of 1000.00 and a fee of 50 per mille. -/
def buyerAt (seat : Option SeatAddr) : Buyer :=
  { state := .active, limit := 100000, pendingSum := 0, owed := 0, fee := 50, seat := seat, dayTotal := 0, dayCount := 0 }

def withSeat (a : SeatAddr) (f : Seat → Seat) (s : State) : State :=
  { s with scan := { s.scan with seats := s.scan.seats.set a (f s.scan.seats[a]) } }

/-- Train 7 at PRESENT with lot 10 WAITING. -/
def presented : State :=
  withPresence 5 true (withSec 5 .occupied (some 7)
    (withTrain (trainIn .presented (some 5)) (withLot (lotIn .waiting (some 7) (some 1)) State.reset)))

/-- Lot 10 of `presented` on the clock in a clock state, at a price. -/
def onSale (st : ClockState) (price : Nat) : State :=
  let s := withLot (lotIn (if st = .loaded then .loaded else .onClock) (some 7) (some 1)) presented
  { s with clock := { s.clock with state := st, lot := some 10, price := price } }

/-- Auto mode on, a presentation notice that is to wait, and one that waits. -/
def autoOn (s : State) : State := { s with clock := { s.clock with auto := true } }
def lateNext (s : State) : State := { s with choices := { s.choices with late := [true] } }
def noticed (s : State) : State := { s with clock := { s.clock with noticeWaiting := true } }

/-- A RUNNING descent at a price, one tick timer running, buyer 5 bound at seat 3, one beacon sent in the segment. -/
def running (price : Nat) : State :=
  let s := withSeat 3 (fun x => { x with buyer := some 5, quantity := 2 }) (withBuyer (buyerAt (some 3)) (onSale .running price))
  { s with
    clock := { s.clock with segment := 1, runTime := 400, tickTimer := some 200,
                            history := [{ runTime := 0, price := 100 }, { runTime := 200, price := price }] }
    scan := { s.scan with beacons := [{ number := 0, segment := 1, runTime := 100, running := true }], beaconNo := 1,
                          pos := .seat 3, stage := .sent } }

/-- A CONTEST opened by seat 3 at run time 400, its address about to be polled again. -/
def contest : State :=
  let s := running 90
  { s with
    clock := { s.clock with state := .contest, tickTimer := none, stopTime := some 400, stopPrice := some 90,
                            contenders := [{ seat := 3, buyer := 5, quantity := 2, time := 150 }], opener := some 3 }
    scan := { s.scan with pos := .seat 2, stage := .ended } }

/-- A SHOWING that is about to end. -/
def showing (k : ShowingKind) : State :=
  let s := onSale .showing 60
  { s with clock := { s.clock with showing := some k, showTimer := some 20000 } }

/-- Train 7 on its way from STAGE4 to PRESENT, with its presence still at STAGE4. -/
def conveyed : State :=
  withPresence 4 true (withMove { train := some 7, source := 4, dest := .sec 5, left := 80000 }
    (withSec 5 .reserved none (withSec 4 .occupied (some 7)
      (withTrain (trainIn .onRail (some 4)) (withLot (lotIn .announced (some 7) (some 1)) State.reset)))))

/-- Train 7 held MISORDER at INTAKE. -/
def misordered : State :=
  withPresence 0 true (withSec 0 .occupied (some 7)
    (withTrain (trainIn .misorder (some 0)) (withLot (lotIn .announced (some 7) (some 1)) State.reset)))

/-- INTAKE held by an unknown occupant with tag 9. -/
def unknownAtIntake : State :=
  let s := withPresence 0 true (withSec 0 .occupied none State.reset)
  { s with rail := { s.rail with unknownTag := some 9 } }

/-- A PENDING record of lot 10. -/
def purchase (q : BitVec 32) : Purchase :=
  { seq := q, state := .pending, lot := 10, buyer := 5, seat := 3, units := 2, price := 90, goods := 3600, fee := 180,
    container := 60, total := 3840, segment := 1, time := 150, restart := false, carried := false }

/-- One record in the log, its buyer's pending and its lot's count with it. -/
def sold : State :=
  let s := withBuyer { buyerAt none with pendingSum := 3840 } (withLot { lotIn .onClock (some 7) (some 1) with
    remaining := 8, sold := 2, pendingCount := 1 } presented)
  { s with log := { records := [purchase 1], nextSeq := 2 } }

/-- The words of a run of bytes. -/
def words (bytes : List Byte) : List LinkWord := bytes.map LinkWord.sound

/-! ## Well-formed terms -/

theorem test_refuses_announce_of_31_lots :
    (Instr.announceTrain .yard 7 1 (List.replicate 31 1)).wellFormed = false ∧
    (Instr.announceTrain .yard 7 1 (List.replicate 30 1)).wellFormed = true := by decide +kernel

theorem test_refuses_step_table_of_7_bands :
    (Instr.stepTable .desk (List.replicate 7 { top := 9999, step := 1 })).wellFormed = false := by decide +kernel

/-- A code of the catalogue is not unknown, 0xFF is no command word, and 65 payload words are a line error. -/
theorem test_refuses_unknown_command_terms :
    (Instr.unknownCommand .desk 0x01 []).wellFormed = false ∧ (Instr.unknownCommand .desk 0xFF []).wellFormed = false ∧
    (Instr.unknownCommand .desk 0x06 (List.replicate 65 0)).wellFormed = false ∧
    (Instr.unknownCommand .desk 0x06 (List.replicate 64 0)).wellFormed = true := by decide +kernel

theorem test_refuses_error_frame_cut_short :
    (Instr.frameLineError .desk (words [0x10, 2, 0])).wellFormed = false ∧
    (Instr.frameLineError .desk (words [0x10, 2, 0, 1])).wellFormed = true := by decide +kernel

/-! ## Words and frames -/

/-- The parity bit makes the number of ones odd (R193). -/
theorem test_parity_bit : LinkWord.sound 0x00 = 0b000000001 ∧ LinkWord.sound 0x01 = 0b000000010 ∧
    LinkWord.sound 0xFF = 0b111111111 ∧ LinkWord.parityGood 0b000000000 = false := by decide +kernel

/-- The check word of READ EVENTS (0x01, 0x00) is 0x15, and that of its reply OK with one byte 0x05 is 0x0E: long division by
x^8 + x^2 + x + 1 done by hand (R194). -/
theorem test_check_words : crc8 [0x01, 0x00] = 0x15 ∧ crc8 [0x00, 0x00, 0x01, 0x05] = 0x0E := by decide +kernel

/-- Frames written out from the catalogue's table (R197), one for each owner. -/
theorem test_frames_read :
    decodeCommand .desk 0x02 [0x3F] = some (.setEventMask .desk 0x3F) ∧
    decodeCommand .yard 0x22 [0x01, 0x36, 2, 0x10, 0x05, 0x10, 0x06] = some (.announceTrain .yard 310 2 [4101, 4102]) ∧
    decodeCommand .yard 0x2C [5, 1] = some (.resolve .yard 5 1) ∧
    decodeCommand .yard 0x34 [7, 1, 2, 0] = some (.setChannel .yard 7 1 2 0) ∧
    decodeCommand .desk 0x4B [0x01, 0x00] = some (.setScanCount .desk 256) ∧
    decodeCommand .desk 0x45 [0x00, 0x5A] = some (.setPrice .desk 90) ∧
    decodeCommand .desk 0x4E [4, 2, 5] = some (.setFaceMap .desk 4 2 5) ∧
    decodeCommand .accounts 0x66 [0, 5, 0, 1, 0, 0] = some (.payment .accounts 5 65536) ∧
    decodeCommand .accounts 0x68 [0x80, 0, 0, 1] = some (.post .accounts 0x80000001) := by decide +kernel

/-- DECLARE LOT's 22 bytes in the catalogue's order (R197). -/
theorem test_declare_frame :
    decodeCommand .yard 0x20 [0x10, 0x05, 0, 0, 0x30, 0x39, 0, 9, 2, 40, 0, 50, 1, 0, 100, 0, 60, 0, 10, 3, 0, 25] =
      some (.declareLot .yard { lot := 4101, product := 12345, grower := 9, grade := 2, unitsTotal := 40, stems := 50,
                                minimum := 1, startPrice := 100, floorPrice := 60, restartRaise := 10, restartLimit := 3,
                                container := 25 }) := by decide +kernel

/-- A wrong payload length is no length of the command: an even one for ANNOUNCE TRAIN, 23 bytes for STEP TABLE. -/
theorem test_wrong_lengths :
    decodeCommand .yard 0x22 [0, 1, 2, 0] = none ∧ decodeCommand .desk 0x4A (List.replicate 23 1) = none ∧
    decodeCommand .desk 0x10 [1] = none := by decide +kernel

/-- No row of the table gives bits, so no table word spells a command and a step from reset runs nothing it names. -/
theorem test_no_table_bits : decodeTableWord 8 1 = none ∧ State.reset.withFetchWord 8 1 = State.reset := by
  decide +kernel

/-! ## Arithmetic (the manual's tables) -/

/-- The step table of R119's example. -/
def steps119 : Vector Band 8 :=
  #v[⟨50, 1⟩, ⟨150, 2⟩, ⟨400, 3⟩, ⟨1000, 5⟩, ⟨9999, 10⟩, ⟨9999, 10⟩, ⟨9999, 10⟩, ⟨9999, 10⟩]

theorem test_bands_of_prices :
    [1, 50, 51, 150, 151, 400, 401, 1000, 1001, 9999].map (stepOf steps119) = [1, 1, 2, 2, 3, 3, 5, 5, 10, 10] := by
  decide +kernel

/-- The fees of R125's table. -/
theorem test_fees :
    (amounts 1 1 10 50 0).fee = 1 ∧ (amounts 1 1 10 49 0).fee = 0 ∧ (amounts 1 1 1 100 0).fee = 0 ∧
    (amounts 1 100 1221 25 0).fee = 3053 ∧ (amounts 1 100 814 30 0).fee = 2442 ∧
    amounts 255 500 9999 100 9999 =
      { goods := 1274872500, fee := 127487250, container := 2549745, total := 1404909495 } := by decide +kernel

/-- A press at the very run time of a tick takes the lowered price, and one unit earlier the price before it (R122). -/
theorem test_price_at :
    priceAt [⟨0, 100⟩, ⟨200, 98⟩, ⟨400, 96⟩] 200 = 98 ∧ priceAt [⟨0, 100⟩, ⟨200, 98⟩, ⟨400, 96⟩] 199 = 100 ∧
    priceAt [⟨200, 98⟩, ⟨400, 96⟩] 10 = 98 := by decide +kernel

/-! ## One step of each family -/

/-- Ports: a mask bit 6 is no kind of the desk (R200). -/
theorem test_mask_bits : after (.setEventMask .desk 0x40) (opened .desk State.reset) =
      (opened .desk State.reset).rejected .desk .range ∧
    ((after (.setEventMask .desk 0x3F) (opened .desk State.reset)).port .desk).mask = 0x3F := by decide +kernel

/-- Every field of DECLARE LOT at the top of its range. -/
def topDecl : LotDecl :=
  { lot := 65535, product := 0xFFFFFFFF, grower := 65535, grade := 15, unitsTotal := 255, stems := 500, minimum := 255,
    startPrice := 9999, floorPrice := 9999, restartRaise := 999, restartLimit := 15, container := 9999 }

/-- Lots: every field of DECLARE LOT at the top of its range is in range (R2). -/
theorem test_declare_at_the_top :
    ((after (.declareLot .yard topDecl) (opened .yard State.reset)).lots.lots.get 65535).map (·.remaining) = some 255 := by
  decide +kernel

/-- Trains: the lots of an announced train stand at their places (R9). -/
theorem test_announce_places :
    ((after (.announceTrain .yard 7 1 [10]) (opened .yard (withLot (lotIn .declared none none) State.reset))).lots.lots.get
      10).map (fun l => (l.state, l.train, l.place)) = some (.announced, some 7, some 1) := by decide +kernel

/-- Rail: the rise at PRESENT alone does not complete the move, and the fall at STAGE4 after it does (R33, R35). -/
theorem test_move_completes_at_the_later_edge :
    (after (.presenceEdge 5 true) conveyed).lots.trainState 7 = some .onRail ∧
    (after (.presenceEdge 4 false) (after (.presenceEdge 5 true) conveyed)).lots.trainState 7 = some .presented := by
  decide +kernel

/-- Rail: JOG is refused with STATE while the rail is not HELD (R51). -/
theorem test_jog_needs_hold : after (.jog .yard 0 0 1) (opened .yard State.reset) =
    (opened .yard State.reset).rejected .yard .state := by decide +kernel

/-- Drive: a latch forces the channel off, and a released input leaves the latch (R64). -/
theorem test_latch_stays :
    (after (.faultRelease 2 .overcurrent) (after (.faultAssertion 2 .overcurrent) State.reset)).drive.chans[(2 : Chan)].latch =
      some .overcurrent := by decide +kernel

/-- Clock: the tick before the floor lands on it, and the next one ends the descent (R99, R100, R120). -/
theorem test_floor_end :
    (after .tickTimerExpiry (running 61)).clock.price = 60 ∧ (after .tickTimerExpiry (running 61)).clock.state = .running ∧
    (after .tickTimerExpiry (running 60)).clock.showing = some .floor := by decide +kernel

/-- Clock: WITHDRAW of an unsold lot closes it with NO_SALE, and its train is DONE (R7, R12). -/
theorem test_withdraw_closes :
    ((after (.withdraw .desk) (opened .desk (onSale .halted 80))).lots.lots.get 10).map (·.outcome) = some (some .noSale) ∧
    (after (.withdraw .desk) (opened .desk (onSale .halted 80))).lots.trainState 7 = some .done := by decide +kernel

/-- Seats: a poll of seat 3 carries its address and its answer, and takes the answer away (R75, R76). -/
theorem test_poll_carries_answer :
    let s := withSeat 3 (fun x => { x with answer := some { code := .wait, value := 0 } }) State.reset
    let t := after .pollSlot { s with scan := { s.scan with pos := .seat 2, stage := .ended } }
    t.scan.sent = words [0xC2, 3, 1, 3, 0] ∧ t.scan.seats[(3 : SeatAddr)].answer = none := by decide +kernel

/-- Strike: two units of twenty stems at 100 cents, 50 per mille and 30 cents a unit: 4000 + 200 + 60 (R124 to R126). The press
at 150 stands before the tick at 200, and is priced at 100. -/
theorem test_strike :
    (after .pollSlot contest).log.records.map (fun r => (r.price, r.total, r.units)) = [(100, 4260, 2)] ∧
    (after .pollSlot contest).clock.state = .showing := by decide +kernel

/-- Clock: a LOAD taken after the presentation and before the notice loads its lot in IDLE with auto mode on, and the notice
then changes nothing (R94, R116). -/
theorem test_load_before_the_notice :
    let s := after (.presenceEdge 4 false) (withPresence 5 true (lateNext (autoOn conveyed)))
    let t := after (.load .desk 10) (opened .desk s)
    s.clock.state = .idle ∧ s.clock.noticeWaiting = true ∧ t.clock.state = .loaded ∧ t.clock.lot = some 10 ∧
    t.takeNotice = { t with clock := { t.clock with noticeWaiting := false } } ∧
    (after (.presenceEdge 4 false) (withPresence 5 true (autoOn conveyed))).clock.lot = some 10 := by decide +kernel

/-- Accounts: a payment is applied to owed alone, and the rest is not (R159). -/
theorem test_payment :
    ((after (.payment .accounts 5 100) (opened .accounts
      (withBuyer { buyerAt none with owed := 40 } State.reset))).accounts.buyers.get 5).map (·.owed) = some 0 := by
  decide +kernel

/-- Log: a post moves the total to owed and empties the log (R173). -/
theorem test_post :
    let t := after (.post .accounts 1) (opened .accounts sold)
    (t.accounts.buyers.get 5).map (fun b => (b.pendingSum, b.owed, b.dayCount)) = some (0, 3840, 1) ∧
    t.log.records = [] := by decide +kernel

/-- Face: the ring shows the price modulo 100 and PRICE the price of a running clock (R121, R184). -/
theorem test_face_image : (after .tickTimerExpiry (running 90)).face.image.price = .price 89 ∧
    (after .tickTimerExpiry (running 90)).face.image.ring = some 89 := by decide +kernel

/-- Face: the lamps whose places a pass has shifted out keep the level carried, and the others take the level that stands at
its end, the ring first (R189). -/
theorem test_chain_pass_ends :
    let s : State := { State.reset with face := { Face.reset with
      shifted := 50, carried := { lit := [0, 49, 50, 120] } } }
    let u := after .faceChainLatch s
    u.face.lamps.on 49 = true ∧ u.face.lamps.on 50 = false ∧ u.face.lamps.on 120 = false ∧ u.face.shifted = 0 := by
  decide +kernel

/-- Face: a change taken where a pass stands between two segments shows in the segments after it alone (R189). -/
theorem test_change_between_segments :
    (Lamps.upTo 103 { lit := [101, 104] } { lit := [102, 103] }).lit = [101, 103] := by decide

/-- Resets: a pin reset keeps the log with every record carried (R179). -/
theorem test_pin_reset_carries : (after .pinReset sold).log.records.map (·.carried) = [true] ∧
    (after .pinReset sold).lots.lots = [] ∧ (after .powerOnReset sold).log.records = [] := by decide +kernel

/-! ## Witnesses: the machine and the ports -/

theorem witness_StepTakesFrontOrIdles :
    (State.reset.pending = [] ∧ State.reset.due = none ∧ State.reset.clock.noticeWaiting = false) ∧
    ((noticed State.reset).pending = [] ∧ (noticed State.reset).clock.noticeWaiting = true) ∧
    (let s := { State.reset with face := { Face.reset with testTimer := some 0 } }
     s.pending = [] ∧ s.clock.noticeWaiting = false ∧ s.due = some .faceTestTimerExpiry) := by decide +kernel

theorem witness_DecodeReadsEveryFrame :
    (Instr.announceTrain .yard 7 1 (List.replicate 30 1)).wellFormed = true ∧
    ∃ payload, frameOf (.announceTrain .yard 7 1 (List.replicate 30 1)) = some (.yard, 0x22, payload) ∧
      payload.length = 63 := ⟨by decide +kernel, _, rfl, by decide +kernel⟩

theorem witness_CommandIsItsFrameOfWords :
    (Instr.stepTable .desk (List.replicate 8 { top := 9999, step := 0 })).wellFormed = true ∧
    ∃ payload, frameOf (.stepTable .desk (List.replicate 8 { top := 9999, step := 0 })) = some (.desk, 0x4A, payload) :=
  ⟨by decide +kernel, _, rfl⟩

theorem witness_SelectOpensAndClosesWindow :
    (State.reset.port .desk).selectLow = false ∧ ((opened .desk State.reset).port .desk).selectLow = true := by
  decide +kernel

/-- The desk port sending the three words of a reply without payload. -/
def replying : State := after (.portReset .desk) (opened .desk State.reset)

theorem witness_ReplyIsClockedOutInOrder :
    (State.reset.port .desk).window = .closed ∧ ((opened .desk State.reset).port .desk).ready = true ∧
    LinkWord.isIdle (LinkWord.sound 0xFF) = true ∧ (replying.port .desk).window = .opened ∧
    (replying.port .desk).phase = .reply ∧ words [0xFF, 0, 0] ≠ [] ∧
    (words [0xFF, 0, 0]).length = (replying.port .desk).replyLeft.length := by decide +kernel

/-- A port that expects a command word in a poisoned window, and one with the check in force. -/
def poisoned : State := (opened .desk State.reset).onPort .desk fun r => { r with poisoned := true }
def checking : State := (opened .desk State.reset).onPort .desk fun r => { r with checkNow := true }

/-- A parity error, a wrong check word, a length word of 65, and a sound frame in a poisoned window. -/
theorem witness_LineErrorsPoisonTheWindow :
    (((opened .desk State.reset).port .desk).ready = true ∧
      wholeFrame ((opened .desk State.reset).port .desk).checkNow [0b000000011, LinkWord.sound 0] = true) ∧
    ((checking.port .desk).ready = true ∧ wholeFrame (checking.port .desk).checkNow (words [0x01, 0, 0x14]) = true) ∧
    wholeFrame ((opened .desk State.reset).port .desk).checkNow (words (0x10 :: 65 :: List.replicate 65 0)) = true ∧
    ((poisoned.port .desk).ready = true ∧ wholeFrame (poisoned.port .desk).checkNow (words [0x01, 0]) = true) := by
  decide +kernel

/-- Code 0x06 lies just above a run of codes, READ DRIVE is not for the accounts port, whatever its payload, and READ LOT takes
two bytes. -/
theorem witness_PortTestsCodeRoleLength :
    ((opened .desk State.reset).listens .desk = true ∧ (Instr.unknownCommand .desk 0x06 []).wellFormed = true) ∧
    ((opened .accounts State.reset).listens .accounts = true ∧ (Instr.readDrive .accounts).wellFormed = true ∧
      frameOf (.readDrive .accounts) = some (.accounts, 0x17, []) ∧ rolesOf 0x17 = some [.desk, .yard] ∧
      Role.accounts ∉ [Role.desk, .yard]) ∧
    (rolesOf 0x06 = none ∧ (0x06 : Byte) ≠ 0xFF ∧ (0x17 : Byte) ≠ 0xFF ∧ (opened .accounts State.reset).pending = [] ∧
      decodeCommand .accounts 0x17 (List.replicate 64 0) = none) ∧
    ((opened .desk State.reset).pending = [] ∧ (List.replicate 64 (0 : Byte)).length ≤ 64 ∧
      rolesOf 0x10 = some allRoles ∧ Role.desk ∈ allRoles ∧ decodeCommand .desk 0x10 (List.replicate 64 0) = none) := by
  decide +kernel

theorem witness_PortOwnCommands :
    (opened .desk State.reset).listens .desk = true ∧ (opened .yard State.reset).listens .yard = true ∧
    (opened .accounts State.reset).listens .accounts = true ∧
    (poisoned.port .desk).ready = true ∧ (poisoned.port .desk).poisoned = true ∧
    Instr.readIdentity .desk ∈ [Instr.readEvents .desk, .portReset .desk, .readIdentity .desk] := by decide +kernel

theorem witness_ReadsChangeNoRecord :
    (opened .desk presented).listens .desk = true ∧ (opened .yard presented).listens .yard = true ∧
    (opened .accounts presented).listens .accounts = true ∧ Role.desk ≠ .accounts ∧ Role.accounts ≠ .yard ∧
    ((0 : BitVec 16).toNat = (0 : SeatAddr).val ∧ (255 : BitVec 16).toNat = (255 : SeatAddr).val ∧
      256 < (257 : BitVec 16).toNat) := by decide +kernel

/-- Two states whose buyer and record differ in sums of money alone. -/
theorem witness_DeskReadsShowNoMoney :
    let s := opened .desk sold
    let s' : State := { s with
      accounts := { s.accounts with buyers := [(5, { buyerAt none with limit := 7, pendingSum := 9999 })] }
      log := { s.log with records := [{ purchase 1 with goods := 9000, total := 9999 }] } }
    s.sameButMoney s' ∧ s ≠ s' ∧ s.listens .desk = true := by
  refine ⟨⟨by decide +kernel, by decide +kernel, by decide +kernel, by decide +kernel⟩, by decide +kernel, by decide +kernel⟩

/-! ## Witnesses: lots and trains -/

theorem witness_DeclareAndDropLot :
    (opened .yard State.reset).listens .yard = true ∧
    (let s := opened .yard (withLot (lotIn .declared none none) State.reset)
     s.listens .yard = true ∧ (s.lots.lots.get 10).map (·.state) = some .declared) := by decide +kernel

/-- A declared lot, and a train whose id is the unknown tag at INTAKE. -/
theorem witness_AnnounceTrainGivesLots :
    (let s := opened .yard (withLot (lotIn .declared none none) unknownAtIntake)
     s.listens .yard = true ∧ ([10] : List (BitVec 16)).length ≤ 30 ∧
      s.rail.unknownTag = some (9 : BitVec 16).toNat ∧ (s.lots.queue ++ [9]).head? = some 9 ∧
      [(10 : BitVec 16)].find? (fun n => !(s.lots.lots.get n.toNat).any fun l => l.state = .declared) = none) ∧
    (List.replicate 30 (1 : BitVec 16)).length ≤ 30 := by decide +kernel

theorem witness_CancelTrainReturnsLots :
    let s := opened .yard (withTrain (trainIn .announced none) (withLot (lotIn .announced (some 7) (some 1)) State.reset))
    s.listens .yard = true ∧ s.lots.trains.get 7 = some (trainIn .announced none) := by decide +kernel

/-- The MISORDER train of `misordered` with its eject in flight in slot 1, and an announced tag under an eject of its own. -/
def ejecting (s : State) (n : Option Nat) : State :=
  { s with rail := { s.rail with slots := s.rail.slots.set 1 (some { train := n, source := 0, dest := .out, left := 9 }) } }

theorem ejecting_ejectIn (s : State) (n : Option Nat) (h : s.rail.slots = Rail.reset.slots) :
    (ejecting s n).rail.ejectIn 1 := fun j => by
  simp only [ejecting, h]; revert j; cases n <;> (unfold Rail.reset; intro j; fin_cases j <;> simp)

theorem witness_ReorderMovesToHead_eject :
    (let s := opened .yard (ejecting misordered (some 7))
     s.listens .yard = true ∧ s.lots.trains.get 7 = some (trainIn .misorder (some 0)) ∧
      s.drive.chans[(0 : Chan)].latch = none) ∧ (ejecting misordered (some 7)).rail.ejectIn 1 ∧
    (opened .yard (ejecting (withLot (lotIn .declared none none) unknownAtIntake) none)).listens .yard = true ∧
    (ejecting (withLot (lotIn .declared none none) unknownAtIntake) none).rail.ejectIn 1 ∧
    ∀ (i : Fin 3) (m : Move), misordered.rail.slots[i] = some m → m.dest ≠ .out :=
  ⟨by decide +kernel, ejecting_ejectIn _ _ rfl, by decide +kernel, ejecting_ejectIn _ _ rfl,
    fun i m h => (by revert h; fin_cases i <;> intro h <;> cases h)⟩

theorem witness_ReorderMovesToHead :
    let s := opened .yard misordered
    s.listens .yard = true ∧ s.lots.trains.get 7 = some (trainIn .misorder (some 0)) := by decide +kernel

/-! ## Witnesses: the rail -/

theorem witness_EjectPends :
    (let s := opened .yard misordered
     s.listens .yard = true ∧ s.rail.secs[(0 : Sec)].cond = .occupied ∧ s.rail.secs[(0 : Sec)].occupant = some 7 ∧
      s.lots.trainState 7 = some .misorder) ∧
    (let s := opened .yard unknownAtIntake
     s.listens .yard = true ∧ s.rail.secs[(0 : Sec)].cond = .occupied ∧ s.rail.secs[(0 : Sec)].occupant = none ∧
      s.rail.unknownTag.isSome) ∧
    (opened .yard State.reset).rail.secs[(0 : Sec)].cond ≠ .occupied := by decide +kernel

def withHold (h : Hold) (s : State) : State := { s with rail := { s.rail with hold := h } }

theorem witness_HoldAndRelease :
    (let s := opened .yard State.reset
     s.listens .yard = true ∧ s.rail.hold = .none ∧ s.rail.moving = false ∧ s.rail.gateMoving = false) ∧
    (let s := opened .yard conveyed
     s.listens .yard = true ∧ s.rail.hold = .none ∧ s.rail.moving = true) ∧
    (opened .yard (withHold .pending conveyed)).rail.hold ≠ .none ∧
    (withHold .held State.reset).rail.hold ≠ .none := by decide +kernel

/-- Train 7 OCCUPIES STAGE3 under a hold, which the rail at reset did not hold back. -/
theorem witness_HoldAndRelease_want :
    let s := withHold .held (withPresence 3 true (withSec 3 .occupied (some 7)
      (withTrain (trainIn .onRail (some 3)) (withLot (lotIn .announced (some 7) (some 1)) State.reset))))
    let newly := fun due : State → Bool => due s && !(State.reset.rail.hold ≠ .none && due State.reset)
    s.rail.hold ≠ .none ∧ (4 : Sec).val = (3 : Sec).val + 1 ∧ newly (fun x => x.rail.moveDue x.lots 3 4) = true := by
  decide +kernel

theorem conveyed_movesApart : conveyed.rail.MovesApart := by
  refine ⟨fun i m h => ?_, fun i j m n hi hj _ => ?_⟩
  · have : m = { train := some 7, source := 4, dest := .sec 5, left := 80000 } := by
      revert h; fin_cases i <;> intro h <;> cases h; rfl
    subst this; decide +kernel
  · have hx : ∀ (k : Fin 3) (x : Move), conveyed.rail.slots[k] = some x → k = 0 := by
      intro k x h; revert h; fin_cases k <;> intro h <;> first | rfl | cases h
    rw [hx i m hi, hx j n hj]

theorem witness_ArbiterLeavesNothingEligible :
    (withHold .held State.reset).rail.hold ≠ .none ∧ conveyed.rail.hold = .none ∧ conveyed.rail.MovesApart :=
  ⟨by decide +kernel, by decide +kernel, conveyed_movesApart⟩

/-- Trains 7 at STAGE3, with STAGE4 CLEAR. -/
def atStage3 : State :=
  withPresence 3 true (withSec 3 .occupied (some 7)
    (withTrain (trainIn .onRail (some 3)) (withLot (lotIn .announced (some 7) (some 1)) State.reset)))

theorem witness_ArbiterGrantsHighestMove :
    atStage3.rail.hold = .none ∧ atStage3.rail.gateDue atStage3.lots = false ∧ atStage3.rail.freeSlot = some 0 ∧
    atStage3.rail.nextMove atStage3.lots = some (3, 4) ∧ atStage3.drive.chans[(3 : Sec).castSucc].latch = none ∧
    atStage3.drive.chans[(4 : Sec).castSucc].latch = none ∧
    (let s : State := { unknownAtIntake with rail := { unknownAtIntake.rail with ejectPending := true } }
     s.rail.hold = .none ∧ s.rail.gateDue s.lots = false ∧ s.rail.freeSlot = some 0 ∧ s.rail.nextMove s.lots = none ∧
      s.rail.ejectDue = true ∧ s.drive.chans[(0 : Chan)].latch = none) := by decide +kernel

/-- A channel with a fault latched. -/
def withLatch (c : Chan) (s : State) : State :=
  { s with drive := { s.drive with chans := s.drive.chans.set c { s.drive.chans[c] with latch := some .openLoad } } }

/-- A grant that D4 refuses, and an eject that D0 refuses. -/
theorem witness_ArbiterGrantsHighestMove_refused :
    (let s := withLatch 4 atStage3
     s.rail.hold = .none ∧ s.rail.gateDue s.lots = false ∧ s.rail.freeSlot = some 0 ∧
      s.rail.nextMove s.lots = some (3, 4) ∧ s.drive.chans[(4 : Sec).castSucc].latch.isSome) ∧
    (let s : State := withLatch 0 { unknownAtIntake with rail := { unknownAtIntake.rail with ejectPending := true } }
     s.rail.hold = .none ∧ s.rail.gateDue s.lots = false ∧ s.rail.freeSlot = some 0 ∧ s.rail.nextMove s.lots = none ∧
      s.rail.ejectDue = true ∧ s.drive.chans[(0 : Chan)].latch.isSome) := by decide +kernel

/-- The rise at the to-section after the fall at the from-section, and the fall after the rise. -/
theorem witness_PresenceEdgeCompletesMove :
    (let s := withPresence 4 false conveyed
     s.rail.slotAt 5 = some 0 ∧ s.rail.slots[(0 : Fin 3)] = some { train := some 7, source := 4, dest := .sec 5, left := 80000 } ∧
      s.inputs.presence[(5 : Sec)] ≠ true ∧ (s.setPresence 5 true).inputs.presence[(5 : Sec)] = true ∧
      (s.setPresence 5 true).inputs.presence[(4 : Sec)] = false) ∧
    (let s := withPresence 5 true conveyed
     s.rail.slotAt 4 = some 0 ∧ s.inputs.presence[(4 : Sec)] ≠ false ∧
      (s.setPresence 4 false).inputs.presence[(5 : Sec)] = true ∧
      (s.setPresence 4 false).inputs.presence[(4 : Sec)] = false) := by decide +kernel

/-- The first of the two expected edges: the rise at PRESENT before the fall at STAGE4, and the fall before the rise. -/
theorem witness_PresenceEdgeCompletesMove_first :
    conveyed.rail.slotAt 5 = some 0 ∧ conveyed.rail.slotAt 4 = some 0 ∧
    conveyed.rail.slots[(0 : Fin 3)] = some { train := some 7, source := 4, dest := .sec 5, left := 80000 } ∧
    (5 : Sec).val = (4 : Sec).val + 1 ∧
    (conveyed.inputs.presence[(5 : Sec)] ≠ true ∧ ¬ ((conveyed.setPresence 5 true).inputs.presence[(5 : Sec)] = true ∧
      (conveyed.setPresence 5 true).inputs.presence[(4 : Sec)] = false)) ∧
    (conveyed.inputs.presence[(4 : Sec)] ≠ false ∧ ¬ ((conveyed.setPresence 4 false).inputs.presence[(5 : Sec)] = true ∧
      (conveyed.setPresence 4 false).inputs.presence[(4 : Sec)] = false)) := by decide +kernel

/-- A notice that waits with auto mode on, an eject at its fall, a departure, and unexpected edges: on a forward move, on an
eject, at a section with no move, at a BLOCKED one, and at PRESENT in a gate operation. -/
theorem witness_PresenceEdgeCompletesMove_others :
    (let s := noticed (autoOn presented)
     s.pending = [] ∧ s.clock.noticeWaiting = true ∧ s.clock.state = .idle ∧ s.clock.auto = true ∧
      s.lots.firstWaiting = some 10 ∧ s.lots.lots.get 10 = some (lotIn .waiting (some 7) (some 1)) ∧
      s.lots.trainState 7 = some .presented) ∧
    (let m : Move := { train := none, source := 0, dest := .out, left := 80000 }
     let s := withMove m unknownAtIntake
     s.rail.slotAt 0 = some 0 ∧ s.rail.slots[(0 : Fin 3)] = some m ∧ m.dest = .out ∧ s.inputs.presence[(0 : Sec)] = true ∧
      (withPresence 0 false s).inputs.presence[(0 : Sec)] ≠ true) ∧
    (let s := withPresence 6 true (withSec 6 .occupied (some 7)
       (withTrain (trainIn .leaving (some 6)) (withLot (lotIn .closed (some 7) (some 1)) State.reset)))
     s.rail.slotAt 6 = none ∧ s.rail.secs[(6 : Sec)].cond = .occupied ∧ s.rail.secs[(6 : Sec)].occupant = some 7 ∧
      s.lots.trains.get 7 = some (trainIn .leaving (some 6)) ∧ s.inputs.presence[(6 : Sec)] = true) ∧
    ((withPresence 5 true conveyed).rail.slotAt 5 = some 0 ∧ (withPresence 5 true conveyed).inputs.presence[(5 : Sec)] ≠ false ∧
      (5 : Sec).val = (4 : Sec).val + 1) ∧
    (State.reset.rail.slotAt 3 = none ∧ State.reset.inputs.presence[(3 : Sec)] ≠ true) ∧
    ((withSec 3 .blocked none State.reset).rail.slotAt 3 = none ∧
      (withSec 3 .blocked none State.reset).rail.secs[(3 : Sec)].cond = .blocked) ∧
    (let s : State := { State.reset with rail := { State.reset.rail with gate := .closing } }
     s.rail.slotAt 5 = none ∧ s.rail.gateMoving = true ∧ s.inputs.presence[(5 : Sec)] ≠ true) := by decide +kernel

/-- A forward move, and an eject. -/
theorem witness_MoveLimitExpiryStalls :
    (conveyed.rail.slots[(0 : Fin 3)] = some { train := some 7, source := 4, dest := .sec 5, left := 80000 } ∧
      ∀ b, (Dest.sec 5) = .sec b → b.val = (4 : Sec).val + 1) ∧
    ((withMove { train := none, source := 0, dest := .out, left := 80000 } unknownAtIntake).rail.slots[(0 : Fin 3)] =
        some { train := none, source := 0, dest := .out, left := 80000 } ∧
      ∀ b, Dest.out = .sec b → b.val = (0 : Sec).val + 1) := by decide +kernel

def withAdm (a : AdmState) (tag : Option Nat) (t : Timer) (s : State) : State :=
  { s with rail := { s.rail with adm := a, heldTag := tag, admTimer := t } }

/-- A train announced and on its way to INTAKE. -/
def expected : State :=
  withTrain (trainIn .announced none) (withLot (lotIn .announced (some 7) (some 1)) State.reset)

theorem witness_AdmissionDecidesByQueue :
    (let s := withAdm .waitTag none (some 20000) (withSec 0 .occupied none (withPresence 0 true expected))
     s.rail.adm = .waitTag ∧ s.rail.admTimer.isSome) ∧
    (let s := withAdm .waitPresence (some 7) (some 20000) expected
     s.rail.adm = .waitPresence ∧ s.rail.heldTag = some 7 ∧ s.rail.slotAt 0 = none ∧
      s.rail.secs[(0 : Sec)].cond = .clear ∧ s.inputs.presence[(0 : Sec)] = false ∧ s.rail.admTimer.isSome ∧
      s.rail.adm ≠ .waitTag) ∧
    (expected.rail.adm = .idle ∧ expected.rail.slotAt 0 = none ∧ expected.rail.secs[(0 : Sec)].cond = .clear ∧
      expected.inputs.presence[(0 : Sec)] = false ∧ expected.rail.ejectPending = false) := by decide +kernel

/-- A tag while a move is leaving INTAKE, and one while INTAKE holds a MISORDER train. -/
theorem witness_AdmissionDecidesByQueue_tags :
    (let m : Move := { train := some 7, source := 0, dest := .sec 1, left := 80000 }
     let s := withMove m (withSec 0 .occupied (some 7) State.reset)
     s.rail.adm ≠ .waitTag ∧ s.rail.slots[(0 : Fin 3)] = some m ∧ m.source = 0 ∧ m.dest ≠ .out) ∧
    misordered.rail.adm ≠ .waitTag ∧ misordered.rail.secs[(0 : Sec)].cond ≠ .clear ∧
    ¬ ∃ (i : Fin 3) (m : Move), misordered.rail.slots[i] = some m ∧ m.source = 0 ∧ m.dest ≠ .out :=
  ⟨by decide +kernel, by decide +kernel, by decide +kernel,
    fun ⟨i, m, h, _⟩ => by revert h; fin_cases i <;> intro h <;> cases h⟩

def withGate (g : GatePos) (t c : Timer) (i : Bool) (s : State) : State :=
  { s with rail := { s.rail with gate := g, gateTimer := t, confirmTimer := c },
           inputs := { s.inputs with gateOpen := i, gateClosed := false } }

theorem witness_GateOperationEnds :
    (let s := withGate .opening none (some 20000) false State.reset
     s.rail.gate = .opening ∧ s.rail.gateTimer = none ∧ s.inputs.gateOpen = false ∧ s.rail.confirmTimer.isSome) ∧
    (let s := withGate .closing none (some 20000) false State.reset
     s.rail.gate = .closing ∧ s.rail.gateTimer = none ∧ s.inputs.gateClosed = false) ∧
    (State.reset.rail.gateMoving = false ∧ State.reset.inputs.gateSensor .gateOpen ≠ true) ∧
    (let s := withGate .opening (some 4000) (some 24000) true State.reset
     s.rail.gateTimer = some 4000 ∧ s.rail.gateMoving = true) := by decide +kernel

/-- A DONE train at PRESENT under a closed gate. -/
def gateWaits : State :=
  withPresence 5 true (withSec 5 .occupied (some 7)
    (withTrain (trainIn .done (some 5)) (withLot (lotIn .closed (some 7) (some 1)) State.reset)))

/-- An opening that begins, one that D7's latch refuses, and the closing of a gate of unknown position with nothing at
PRESENT. -/
theorem witness_GateOperationEnds_begins :
    (gateWaits.rail.hold = .none ∧ gateWaits.rail.gateDue gateWaits.lots = true ∧
      gateWaits.rail.wanted gateWaits.lots = .opened ∧ gateWaits.drive.chans[(7 : Chan)].latch = none ∧
      gateWaits.drive.chans[(7 : Chan)].output = .off ∧ gateWaits.drive.chans[(7 : Chan)].turn = none) ∧
    (let s : State := { gateWaits with drive := { gateWaits.drive with
       chans := gateWaits.drive.chans.set 7 { gateWaits.drive.chans[(7 : Chan)] with latch := some .openLoad } } }
     s.rail.hold = .none ∧ s.rail.gateDue s.lots = true ∧ s.rail.wanted s.lots = .opened ∧
      s.drive.chans[(7 : Chan)].latch.isSome) ∧
    (let s := withGate .unknown none none false State.reset
     s.rail.hold = .none ∧ s.rail.gateDue s.lots = true ∧ s.rail.wanted s.lots ≠ .opened) := by decide +kernel

/-- A forward move stalled between two sections. -/
def stalledAt (a b : Sec) : State :=
  withStall a { train := some 7, dest := some (.sec b), cause := .timeout } (withSec b .blocked none (withSec a .blocked (some 7)
    (withTrain (trainIn .onRail (some a)) (withLot (lotIn .announced (some 7) (some 1)) State.reset))))

/-- A gate operation stalled at PRESENT. -/
def gateStalled : State :=
  withStall 5 { train := none, dest := none, cause := .driveFault } (withSec 5 .blocked none State.reset)

theorem witness_YardSettlesStalls :
    (let s := opened .yard (withSec 6 .blocked none State.reset)
     s.listens .yard = true ∧ (6 : Byte).toNat = (6 : Sec).val ∧ s.rail.stalls[(6 : Sec)] = none) ∧
    (let s := opened .yard (stalledAt 0 1)
     s.listens .yard = true ∧ (0 : Byte).toNat = (0 : Sec).val ∧
      s.rail.stalls[(0 : Sec)] = some { train := some 7, dest := some (.sec 1), cause := .timeout } ∧
      (1 : Sec).val = (0 : Sec).val + 1) ∧
    (let s := opened .yard (stalledAt 5 6)
     s.listens .yard = true ∧ (5 : Byte).toNat = (5 : Sec).val ∧
      s.rail.stalls[(5 : Sec)] = some { train := some 7, dest := some (.sec 6), cause := .timeout }) ∧
    (let s := opened .yard gateStalled
     s.listens .yard = true ∧ s.rail.stalls[(5 : Sec)] = some { train := none, dest := none, cause := .driveFault } ∧
      Cause.driveFault ≠ .sensor) := by decide +kernel

/-- A HELD rail, without and with a jog. -/
def jogging : State := { withHold .held State.reset with rail := { (withHold .held State.reset).rail with
  jog := some { chan := 7, dir := .reverse, left := 50000 } } }

theorem witness_JogRunsAndEnds :
    (let s := opened .yard (withHold .held State.reset)
     s.listens .yard = true ∧ (7 : Byte).toNat = (7 : Chan).val ∧ (1 : Byte) = (if Dir.reverse = .forward then 0 else 1) ∧
      ¬ ((50 : Byte).toNat = 0 ∨ 50 < (50 : Byte).toNat) ∧ s.rail.hold = .held ∧ s.rail.jog.isSome = false ∧
      s.rail.holdsTrain s.lots 5 .presented = false) ∧
    (jogging.rail.jog = some { chan := 7, dir := .reverse, left := 50000 } ∧ jogging.rail.hold = .held) := by decide +kernel

/-- An eject stalled at INTAKE, and a lone edge with and without a train. -/
theorem witness_YardSettlesEjectsAndEdges :
    (let s := opened .yard (withStall 0 { train := some 7, dest := some .out, cause := .timeout }
        (withSec 0 .blocked (some 7) misordered))
     s.listens .yard = true ∧ s.rail.stalls[(0 : Sec)] = some { train := some 7, dest := some .out, cause := .timeout }) ∧
    (let s := opened .yard (withStall 6 { train := none, dest := none, cause := .sensor }
        (withSec 6 .blocked none State.reset))
     s.listens .yard = true ∧ (6 : Byte).toNat = (6 : Sec).val ∧
      s.rail.stalls[(6 : Sec)] = some { train := none, dest := none, cause := .sensor }) ∧
    (let s := opened .yard (withStall 5 { train := some 7, dest := none, cause := .sensor }
        (withSec 5 .blocked (some 7) presented))
     s.listens .yard = true ∧ s.rail.stalls[(5 : Sec)] = some { train := some 7, dest := none, cause := .sensor }) ∧
    (6 < (7 : Byte).toNat ∧ 1 < (2 : Byte).toNat) := by decide +kernel

theorem witness_RailAndDriveSettings :
    (opened .yard State.reset).listens .yard = true ∧ (6 : Byte).toNat = (6 : Sec).val ∧ 6 < (7 : Byte).toNat ∧
    (7 : Byte).toNat = (7 : Chan).val ∧ (5 : Byte).toNat = (5 : Gen).val ∧ (1 : Byte).toNat ≤ 1 ∧
    7 < (8 : Byte).toNat ∧ 1 < (2 : Byte).toNat ∧ 5 < (6 : Byte).toNat ∧ (3 : Byte).toNat ≤ 3 ∧ 3 < (4 : Byte).toNat := by
  decide +kernel

/-! ## Witnesses: the Drive Unit -/

def withChan (c : Chan) (f : Channel → Channel) (s : State) : State :=
  { s with drive := { s.drive with chans := s.drive.chans.set c (f s.drive.chans[c]) } }

/-- A generator in the on-phase of a period of 1 ms. -/
def genOn (duty : Nat) : Generator := { enabled := true, period := .ms1, duty := duty, dutyNow := duty, on := true }

/-- D7 turning to REVERSE, and G5 on at a duty of 254 with D0 PULSED on it. -/
def turning : State := withChan 7 (fun x => { x with turn := some .reverse, deadTime := some 10 }) State.reset
def pulsing : State :=
  let s := withChan 0 (fun x => { x with output := .forward, mode := .pulsed, gen := 5 }) State.reset
  { s with drive := { s.drive with gens := s.drive.gens.set 5 (genOn 254) } }

theorem witness_TurnsAndPulses :
    (turning.drive.chans[(7 : Chan)].deadTime = some 10 ∧ turning.drive.chans[(7 : Chan)].turn = some .reverse) ∧
    turning.drive.chans[(0 : Chan)].deadTime = none ∧
    (pulsing.drive.gens[(5 : Gen)].enabled = true ∧ pulsing.drive.gens[(5 : Gen)].on = true ∧
      pulsing.drive.gens[(5 : Gen)].dutyNow < 255 ∧ 0 < pulsing.drive.gens[(5 : Gen)].duty ∧
      pulsing.drive.chans[(0 : Chan)].mode = .pulsed ∧ pulsing.drive.chans[(0 : Chan)].gen = 5 ∧
      pulsing.drive.chans[(0 : Chan)].output = .forward) ∧
    State.reset.drive.gens[(0 : Gen)].enabled = false ∧
    (let s : State := { pulsing with drive := { pulsing.drive with gens := pulsing.drive.gens.set 5 (genOn 255) } }
     s.drive.gens[(5 : Gen)].enabled = true ∧ ¬ (s.drive.gens[(5 : Gen)].on = true ∧ s.drive.gens[(5 : Gen)].dutyNow < 255)) := by
  decide +kernel

/-- A channel of the move in flight, D7 in a gate operation, and D7 in a jog; and a latch that is already there. -/
theorem witness_FaultsLatchAndStop :
    (conveyed.inputs.faultInput 5 .overcurrent = false ∧ conveyed.drive.chans[(5 : Chan)].latch = none ∧
      conveyed.rail.slotOfChan 5 = some 0 ∧
      conveyed.rail.slots[(0 : Fin 3)] = some { train := some 7, source := 4, dest := .sec 5, left := 80000 }) ∧
    (let s := withGate .opening (some 4000) (some 24000) false State.reset
     s.inputs.faultInput 7 .openLoad = false ∧ s.drive.chans[(7 : Chan)].latch = none ∧ s.rail.gateMoving = true) ∧
    (jogging.inputs.faultInput 7 .openLoad = false ∧ jogging.drive.chans[(7 : Chan)].latch = none ∧
      jogging.rail.jog = some { chan := 7, dir := .reverse, left := 50000 }) ∧
    (let s := withChan 0 (fun x => { x with latch := some .openLoad }) State.reset
     s.inputs.faultInput 0 .overcurrent = false ∧ s.drive.chans[(0 : Chan)].latch.isSome) := by decide +kernel

/-- A consistent rail: train 7 on its way from STAGE4 to PRESENT. -/
theorem conveyed_slot {i : Fin 3} {m : Move} (h : conveyed.rail.slots[i] = some m) :
    i = 0 ∧ m = { train := some 7, source := 4, dest := .sec 5, left := 80000 } := by
  revert h; fin_cases i <;> intro h <;> cases h; exact ⟨rfl, rfl⟩

theorem conveyed_train {t : Nat} {r : Train} (h : conveyed.lots.trains.get t = some r) :
    t = 7 ∧ r = trainIn .onRail (some 4) := by
  change (if 7 = t then some (trainIn .onRail (some 4)) else none) = some r at h
  split at h
  · next e => exact ⟨e.symm, by cases h; rfl⟩
  · cases h

theorem conveyed_railOk : conveyed.RailOk where
  apart := conveyed_movesApart
  carries := fun i m h => by
    obtain ⟨rfl, rfl⟩ := conveyed_slot h
    exact ⟨by decide +kernel, 7, by decide +kernel, by decide +kernel⟩
  emptied := by decide +kernel
  reserved := fun k h => by
    have : k = 5 := by revert h k; decide +kernel
    subst this; exact ⟨0, _, rfl, rfl⟩
  stalled := fun k st h => by
    have : ∀ k : Sec, conveyed.rail.stalls[k] = none := by decide +kernel
    rw [this k] at h; cases h
  unnamed := by decide +kernel
  gate := by decide +kernel
  hold := by decide +kernel
  unknown := by decide +kernel
  eject := by decide +kernel
  admission := by decide +kernel
  trains := fun t r h => by
    obtain ⟨rfl, rfl⟩ := conveyed_train h
    exact ⟨by decide +kernel, by show (4 : Sec) ≤ 4; decide⟩
  occupants := fun k t h => by
    have hk : k = 4 := by
      have : ∀ k : Sec, k ≠ 4 → conveyed.rail.secs[k].occupant = none := by decide +kernel
      by_contra hk; rw [this k hk] at h; cases h
    subst hk
    have : conveyed.rail.secs[(4 : Sec)].occupant = some 7 := by decide +kernel
    rw [this] at h; cases h
    exact ⟨trainIn .onRail (some 4), by decide +kernel, rfl⟩

/-- An input that is still active, on a channel of the move in flight of a consistent rail. -/
theorem witness_ClearDriveFaultsExamines :
    let s := opened .yard { conveyed with inputs := { conveyed.inputs with openLoad := conveyed.inputs.openLoad.set 4 true } }
    s.listens .yard = true ∧ s.inputs.openLoad[(4 : Chan)] = true ∧ s.inputs.overcurrent[(4 : Chan)] = false ∧
      s.rail.slots[(0 : Fin 3)] = some { train := some 7, source := 4, dest := .sec 5, left := 80000 } ∧
      (4 : Chan) ∈ ({ train := some 7, source := 4, dest := .sec 5, left := 80000 } : Move).chans ∧ s.rail = conveyed.rail ∧
      s.lots = conveyed.lots := by decide +kernel

theorem witness_ClearDriveFaultsExamines_rail : (opened .yard
    { conveyed with inputs := { conveyed.inputs with openLoad := conveyed.inputs.openLoad.set 4 true } }).RailOk where
  __ := conveyed_railOk

/-! ## Witnesses: the Clock Engine -/

theorem witness_LoadTakesWaitingLot :
    (let s := opened .desk presented
     s.listens .desk = true ∧ s.clock.state = .idle ∧ s.lots.lots.get 10 = some (lotIn .waiting (some 7) (some 1)) ∧
      s.lots.trainState 7 = some .presented) ∧
    (let s := opened .desk (onSale .running 90)
     s.listens .desk = true ∧ s.clock.state ≠ .idle ∧ s.clock.state ≠ .loaded) := by decide +kernel

theorem witness_SegmentStarts :
    (let s := opened .desk (onSale .loaded 100)
     s.listens .desk = true ∧ s.clock.state = .loaded ∧ s.log.records.length < 128) ∧
    (let s := opened .desk (onSale .halted 100)
     s.listens .desk = true ∧ s.clock.state = .halted) ∧
    (let s := opened .desk { onSale .halted 100 with log := { records := List.replicate 128 (purchase 1), nextSeq := 9 } }
     s.listens .desk = true ∧ ¬ s.log.records.length < 128) ∧
    (let s := onSale .loaded 100
     let t : State := { s with clock := { s.clock with autoTimer := some 0 } }
     t.clock.autoTimer = some 0 ∧ t.clock.state = .loaded) := by decide +kernel

theorem witness_HaltWithdrawSetPrice :
    (let s := opened .desk (running 90)
     s.listens .desk = true ∧ s.clock.state = .running ∧ s.clock.lot = some 10 ∧
      s.lots.lots.get 10 = some (lotIn .onClock (some 7) (some 1))) ∧
    (let s := opened .desk (showing .sale)
     s.listens .desk = true ∧ s.clock.state = .showing ∧ s.clock.lot = some 10) ∧
    (let s := opened .desk (onSale .loaded 100)
     s.listens .desk = true ∧ s.clock.lot = some 10 ∧ s.lots.lots.get 10 = some (lotIn .loaded (some 7) (some 1))) ∧
    (let s := opened .desk (onSale .halted 100)
     s.listens .desk = true ∧ s.clock.lot = some 10 ∧ s.lots.lots.get 10 = some (lotIn .onClock (some 7) (some 1))) := by
  decide +kernel

theorem witness_ClockSettings :
    (let s := opened .desk presented
     s.listens .desk = true ∧ s.clock.auto = false ∧ s.clock.state = .idle ∧ s.lots.firstWaiting = some 10 ∧
      s.lots.lots.get 10 = some (lotIn .waiting (some 7) (some 1)) ∧
      (lotIn .waiting (some 7) (some 1)).train = some 7 ∧ s.lots.trainState 7 = some .presented ∧ (255 : Byte) ≠ 0) ∧
    (let s := opened .desk (onSale .loaded 100)
     let t : State := { s with clock := { s.clock with auto := true } }
     t.listens .desk = true ∧ t.clock.auto = true ∧ t.clock.state = .loaded) ∧
    (opened .desk State.reset).lots.firstWaiting = none := by decide +kernel

theorem witness_StepTableIsChecked :
    (opened .desk State.reset).listens .desk = true ∧
    (List.replicate 8 ({ top := 9999, step := 0 } : BandDecl)).length = 8 := by decide +kernel

/-- One cent above the floor, and at it. -/
theorem witness_TickLowersPrice : ∀ p ∈ [61, 60],
    (running p).clock.state = .running ∧ (running p).clock.tickTimer = some 200 ∧ (running p).clock.lot = some 10 ∧
    (running p).lots.lots.get 10 = some (lotIn .onClock (some 7) (some 1)) ∧
    (running p).clock.steps.toList.find? (fun b => (running p).clock.price ≤ b.top) = some { top := 9999, step := 1 } := by
  decide +kernel

/-- After a sale that leaves eight units, and after a floor end. -/
theorem witness_ShowingEnds :
    (let s := showing .floor
     s.clock.state = .showing ∧ s.clock.showing = some .floor ∧ s.clock.showTimer = some 20000 ∧ s.clock.lot = some 10 ∧
      s.lots.lots.get 10 = some (lotIn .onClock (some 7) (some 1)) ∧ (lotIn .onClock (some 7) (some 1)).state = .onClock) ∧
    (let s := after .pollSlot contest
     s.clock.state = .showing ∧ s.clock.showing = some .sale ∧ s.clock.showTimer = some 20000 ∧ s.clock.lot = some 10 ∧
      (s.lots.lots.get 10).map (fun l => (l.state, l.remaining, l.lastSale.map (·.price))) =
        some (.onClock, 8, some 100)) := by decide +kernel

/-! ## Witnesses: the Seat Scanner -/

theorem witness_SeatsAreUnbound :
    (let s := opened .desk (onSale .halted 90)
     s.listens .desk = true ∧ s.clock.state ≠ .running ∧ s.clock.state ≠ .contest) ∧
    (let s := opened .desk (running 90)
     s.listens .desk = true ∧ s.clock.state = .running ∧ (3 : BitVec 16).toNat = (3 : SeatAddr).val ∧
      s.scan.seats[(3 : SeatAddr)].buyer = some 5 ∧ s.scan.seats[(255 : SeatAddr)].buyer = none) ∧
    ((7 : BitVec 16).toNat < 8 ∧ 8 ≤ (8 : BitVec 16).toNat ∧ (256 : BitVec 16).toNat ≤ 256 ∧ 256 < (257 : BitVec 16).toNat ∧
      (255 : BitVec 16).toNat = (255 : SeatAddr).val ∧ 255 < (256 : BitVec 16).toNat) := by decide +kernel

theorem witness_BeaconAndPollCarryRecords :
    State.reset.scan.beaconNext = true ∧ State.reset.scan.pollNext = none ∧
    (contest.scan.beaconNext = false ∧ contest.scan.pollNext = some 3 ∧ contest.clock.state = .contest ∧
      contest.clock.opener = some 3) ∧
    (let s := after .beacon State.reset
     s.scan.pollNext = some 0 ∧ ¬ (s.clock.state = .contest ∧ s.clock.opener = some 0)) := by decide +kernel

/-- No reply, a QUANTITY report of 255, and silence counts of 14 and 15. -/
theorem witness_RepliesAreJudged :
    ((running 90).scan.pos = .seat 3 ∧ (running 90).scan.stage = .sent ∧ judge 3 [] = none ∧
      judge 3 (words [3, 0]) = some .none ∧ judge 3 (words [3, 3, 255]) = some (.quantity 255)) ∧
    (let s := withSeat 3 (fun x => { x with silence := 15 }) (running 90)
     15 ≤ s.scan.seats[(3 : SeatAddr)].silence ∧ s.scan.seats[(3 : SeatAddr)].link = .online) ∧
    (withSeat 3 (fun x => { x with silence := 14 }) (running 90)).scan.seats[(3 : SeatAddr)].silence < 15 := by
  decide +kernel

theorem witness_LoginBindsAndLogoutReleases :
    (let s := withBuyer (buyerAt none) { State.reset with scan := { State.reset.scan with pos := .seat 255, stage := .sent } }
     s.scan.pos = .seat 255 ∧ s.scan.stage = .sent ∧ judge 255 (words [255, 1, 0, 5]) = some (.login 5) ∧
      s.accounts.buyers.get 5 = some (buyerAt none) ∧ (buyerAt none).state = .active) ∧
    ((running 90).scan.pos = .seat 3 ∧ judge 3 (words [3, 2]) = some .logout ∧
      (running 90).scan.seats[(3 : SeatAddr)].buyer = some 5) := by decide +kernel

/-! ## Witnesses: presses and contests -/

theorem witness_PressOpensContest :
    (running 90).scan.pos = .seat 3 ∧ (running 90).scan.stage = .sent ∧
    judge 3 (words [3, 4, 0, 0, 50]) = some (.press 0 50) ∧ (running 90).clock.state ≠ .contest := by decide +kernel

/-- The contest with seat 4 in its slot. -/
def joining : State := { contest with scan := { contest.scan with pos := .seat 4, stage := .sent } }

theorem joining_contestOk : joining.ContestOk :=
  ⟨by decide +kernel, by decide +kernel, by decide +kernel, by decide +kernel, by decide +kernel,
    fun _ => ⟨by decide +kernel, by decide +kernel, 400, by decide +kernel, by decide +kernel⟩⟩

theorem witness_PressJoinsContest :
    (joining.scan.pos = .seat 4 ∧ joining.scan.stage = .sent ∧ judge 4 (words [4, 4, 0, 1, 44]) = some (.press 0 300) ∧
      joining.clock.state = .contest ∧ joining.clock.lot = some 10 ∧
      joining.lots.lots.get 10 = some (lotIn .onClock (some 7) (some 1)) ∧ joining.clock.stopTime = some 400) ∧
    joining.ContestOk := ⟨by decide +kernel, joining_contestOk⟩

theorem contest_contestOk : contest.ContestOk := joining_contestOk

/-- The contender of `contest`, and the amounts of its purchase. -/
def contender : Contender := { seat := 3, buyer := 5, quantity := 2, time := 150 }

theorem witness_ContestSellsAtMostOnce :
    (contest.scan.pollNext = some 3 ∧ contest.clock.state = .contest ∧ contest.clock.opener = some 3 ∧
      contest.clock.lot = some 10 ∧ contest.lots.lots.get 10 = some (lotIn .onClock (some 7) (some 1)) ∧
      contest.clock.contenders = [] ++ contender :: []) ∧ contest.ContestOk ∧
    contest.wouldWin (lotIn .onClock (some 7) (some 1)) contender 2 100
      { goods := 4000, fee := 200, container := 60, total := 4260 } :=
  ⟨by decide +kernel, contest_contestOk, buyerAt (some 3), by decide +kernel⟩

/-- The same contest with a limit one cent below the line total, in which nobody would win. -/
def refusing : State := withBuyer { buyerAt (some 3) with limit := 4259 } contest

theorem witness_ContestSellsAtMostOnce_noWinner :
    (refusing.scan.pollNext = some 3 ∧ refusing.clock.state = .contest ∧ refusing.clock.opener = some 3 ∧
      refusing.clock.lot = some 10 ∧ refusing.lots.lots.get 10 = some (lotIn .onClock (some 7) (some 1))) ∧
    refusing.ContestOk ∧
    ∀ y ∈ refusing.clock.contenders, ∀ v p am, ¬ refusing.wouldWin (lotIn .onClock (some 7) (some 1)) y v p am := by
  refine ⟨by decide +kernel, joining_contestOk, fun y hy v p am ⟨b, hb, _, _, hv, hp, ha, ht⟩ => ?_⟩
  have e : refusing.clock.contenders = [contender] := by decide +kernel
  rw [e, List.mem_singleton] at hy
  subst hy hv hp ha
  have eb : refusing.accounts.buyers.get contender.buyer = some { buyerAt (some 3) with limit := 4259 } := by decide +kernel
  rw [eb] at hb; cases hb
  revert ht; decide +kernel

/-- A contender whose buyer has no record. -/
def stranger : Contender := { seat := 2, buyer := 6, quantity := 1, time := 100 }

theorem stranger_fails (s : State) (h : s.accounts.buyers.get 6 = none) (l : Lot) (v p : Nat) (am : Amounts) :
    ¬ s.wouldWin l stranger v p am := fun ⟨b, hb, _⟩ => by
  have e : s.accounts.buyers.get stranger.buyer = none := h
  rw [e] at hb; cases hb

/-- The opener's own contender examined after one that has failed; it would win in `contest` and is within no limit in
`refusing`, with nothing after it. -/
theorem witness_ContendersThatFail : ∀ b ∈ [contest, refusing],
    let s : State := { b with clock := { b.clock with contenders := [stranger, contender] } }
    (s.scan.pollNext = some 3 ∧ s.clock.state = .contest ∧ s.clock.opener = some 3 ∧ s.clock.lot = some 10 ∧
      s.lots.lots.get 10 = some (lotIn .onClock (some 7) (some 1)) ∧
      s.clock.contenders = [stranger] ++ contender :: [] ∧ contender.seat = 3) ∧
    s.ContestOk ∧ ∀ y ∈ [stranger], ∀ v p am, ¬ s.wouldWin (lotIn .onClock (some 7) (some 1)) y v p am := by
  intro b hb
  simp only [List.mem_cons, List.not_mem_nil, or_false] at hb
  rcases hb with rfl | rfl <;>
    exact ⟨by decide +kernel, ⟨by decide +kernel, by decide +kernel, by decide +kernel, by decide +kernel, by decide +kernel,
      fun _ => ⟨by decide +kernel, by decide +kernel, 400, by decide +kernel, by decide +kernel⟩⟩,
      fun y hy v p am => by rw [List.mem_singleton.mp hy]; exact stranger_fails _ (by decide +kernel) _ v p am⟩

/-- The contender of `refusing` fails the credit comparison alone, by one cent. -/
theorem witness_ContendersThatFail_limit :
    refusing.creditRefused (lotIn .onClock (some 7) (some 1)) contender 4260 4259 :=
  ⟨{ buyerAt (some 3) with limit := 4259 }, by decide +kernel⟩

/-! ## Witnesses: arithmetic, face, accounts and log -/

theorem witness_PricesDescendWithinTheLot :
    stepsOk steps119 ∧ (60 < 61 ∧ 9999 ≤ 9999) ∧
    (let h : List TickRec := [⟨0, 100⟩, ⟨200, 98⟩, ⟨400, 96⟩]
     h.Pairwise (fun a b => a.runTime ≤ b.runTime ∧ b.price ≤ a.price) ∧ 199 ≤ 200 ∧
      (∀ x ∈ ([⟨400, 96⟩] : List TickRec), 399 < x.runTime)) ∧
    ∀ x ∈ ([⟨200, 98⟩, ⟨400, 96⟩] : List TickRec), 199 < x.runTime :=
  ⟨⟨by decide +kernel, by decide +kernel, by decide +kernel⟩, by decide +kernel⟩

theorem witness_AmountsStayInRange :
    (1 ≤ 255 ∧ 255 ≤ 255 ∧ 1 ≤ 500 ∧ 500 ≤ 500 ∧ 1 ≤ 9999 ∧ 9999 ≤ 9999 ∧ 100 ≤ 100) ∧
    ({ buyerAt none with pendingSum := 2000000000 } : Buyer).pendingSum + (buyerAt none).owed ≤ 2000000000 := by decide

theorem witness_FaceCommandsAndLatch :
    ((opened .desk State.reset).listens .desk = true ∧ (4 : Byte).toNat = (4 : Fin 5).val ∧
      (2 : Byte).toNat = (2 : Fin 3).val ∧ (5 : Byte).toNat = (5 : Gen).val ∧ 4 < (5 : Byte).toNat) ∧
    (after (.faceTest .desk) (opened .desk State.reset)).face.testTimer = some 20000 ∧
    (let s := running 90
     let t : State :=
       { s with drive := { s.drive with gens := s.drive.gens.set 5 (genOn 255) }, face := { s.face with image := s.imageNow } }
     t.face.testTimer = none ∧ t.drive.gens[t.face.map[mapCell 1 (phaseOf t.clock.state)]].on = true ∧
      t.face.image.price = .price 90 ∧ t.face.image.preview.length ≤ 3) := by decide +kernel

/-- The face after reset, and that face with a pass in progress within RING, are in the form that the chain keeps (R189). -/
theorem witness_FaceCommandsAndLatch_pass : Face.reset.Ok ∧ ({ Face.reset with shifted := 50 } : Face).Ok ∧
    (50 : Nat) < Config.chainLength :=
  have h : ∀ n ≤ 100, n ≤ Config.chainLength := fun _ hn => Nat.le_trans hn (Nat.le_add_right _ _)
  have w : Lamps.off.wf := ⟨.nil, fun _ hp => nomatch hp⟩
  ⟨⟨w, w, Nat.zero_le _⟩, ⟨w, w, h 50 (by decide)⟩, h 51 (by decide)⟩

/-- After a sale with every generator on, LOT and BUYER are lit and have numbers to show; and PREVIEW has the lot of a train
presented. -/
theorem witness_FaceCommandsAndLatch_panels :
    let s := after .pollSlot contest
    let t : State := { s with drive := { s.drive with gens := Vector.replicate 6 (genOn 255) } }
    (t.face.testTimer = none ∧ ∀ g : Fin 5, t.drive.gens[t.face.map[mapCell g (phaseOf t.clock.state)]].on = true) ∧
    (∃ x, t.face.image.buyer = some x ∧ x.buyer < 100000 ∧ x.units < 1000) ∧
    (∃ x, t.face.image.lot = some x ∧ x.lot < 100000 ∧ x.product < 10000000000 ∧ x.grower < 100000 ∧ x.grade < 100 ∧
      x.remaining < 1000) ∧
    presented.imageNow.preview = [10] :=
  ⟨by decide +kernel, ⟨_, rfl, by decide +kernel⟩, ⟨_, rfl, by decide +kernel⟩, by decide +kernel⟩

theorem witness_AccountsOpenAndClose :
    let s := opened .accounts (withBuyer (buyerAt none) State.reset)
    s.listens .accounts = true ∧ s.accounts.buyers.get 5 = some (buyerAt none) := by decide +kernel

theorem witness_AccountSettings :
    let s := opened .accounts (withBuyer (buyerAt (some 3)) State.reset)
    s.listens .accounts = true ∧ s.accounts.buyers.get (5 : BitVec 16).toNat = some (buyerAt (some 3)) := by decide +kernel

theorem witness_PostTakesTheHead :
    let s := opened .accounts sold
    s.listens .accounts = true ∧ s.log.records = [purchase 1] ∧ (1 : BitVec 32) = (purchase 1).seq := by decide +kernel

theorem witness_VoidReturnsUnits :
    let s := opened .desk sold
    s.listens .desk = true ∧ s.log.records.find? (fun r => r.seq = 1) = some (purchase 1) ∧
      (purchase 1).state = .pending ∧ (s.lots.lots.get 10).map (·.state) = some .onClock := by decide +kernel

/-! ## Witnesses: what every step keeps -/

theorem conveyed_lot {n : Nat} {l : Lot} (h : conveyed.lots.lots.get n = some l) :
    n = 10 ∧ l = lotIn .announced (some 7) (some 1) := by
  change (if 10 = n then some (lotIn .announced (some 7) (some 1)) else none) = some l at h
  split at h
  · next e => exact ⟨e.symm, by cases h; rfl⟩
  · cases h

theorem conveyed_lotsOk : conveyed.LotsOk where
  each := fun n l h => by
    obtain ⟨rfl, rfl⟩ := conveyed_lot h
    exact ⟨by decide, by decide, by decide, by decide, by decide, fun x hx => (by cases hx), by decide, by decide⟩
  placed := fun n l t h ht => by
    obtain ⟨rfl, rfl⟩ := conveyed_lot h
    cases ht
    exact ⟨trainIn .onRail (some 4), 0, by decide +kernel, rfl, rfl, by decide, by decide⟩
  listed := fun t r h => by
    obtain ⟨rfl, rfl⟩ := conveyed_train h
    refine ⟨by decide, by decide, by decide, fun n hn => ?_⟩
    have : n = 10 := by simpa [trainIn] using hn
    subst this; exact ⟨lotIn .announced (some 7) (some 1), by decide +kernel, rfl⟩
  onSale := fun n l h hs => by obtain ⟨rfl, rfl⟩ := conveyed_lot h; cases hs
  current := fun n h => by cases h

/-- The fall at STAGE4 after the rise at PRESENT, with auto mode on in IDLE, and a notice taken at once or to wait. -/
theorem witness_PresenceEdgeCompletesMove_autoLoad : ∀ late ∈ [[], [false], [true]],
    let b := withPresence 5 true (autoOn conveyed)
    let s : State := { b with choices := { b.choices with late := late } }
    (s.rail.slotAt 4 = some 0 ∧ s.inputs.presence[(4 : Sec)] ≠ false ∧ s.clock.state = .idle ∧ s.clock.auto = true ∧
      (s.choices.late.head? ≠ some true ↔ late ≠ [true]) ∧ s.lots.trains.get 7 = some (trainIn .onRail (some 4)) ∧
      (trainIn .onRail (some 4)).lots.find? (fun y => (s.lots.lots.get y).any fun e => e.state = .announced) = some 10) ∧
    s.TablesOk ∧ s.RailOk ∧ s.LotsOk := fun late h => by
  refine ⟨?_, ?_, { conveyed_railOk with }, { conveyed_lotsOk with }⟩
  · revert late; decide +kernel
  · exact ⟨by revert late; decide +kernel, by revert late; decide +kernel, by revert late; decide +kernel⟩

theorem witness_EveryStepKeepsTables :
    conveyed.TablesOk ∧ conveyed.CapacityOk ∧ step conveyed = .next (conveyed.elapse 1) :=
  ⟨⟨by decide +kernel, by decide +kernel, by decide +kernel⟩,
    ⟨by decide +kernel, by decide +kernel, by decide +kernel, by decide +kernel, by decide +kernel⟩, by rfl⟩

theorem sold_buyer {n : Nat} {b : Buyer} (h : sold.accounts.buyers.get n = some b) :
    n = 5 ∧ b = { buyerAt none with pendingSum := 3840 } := by
  change (if 5 = n then some { buyerAt none with pendingSum := 3840 } else none) = some b at h
  split at h
  · next e => exact ⟨e.symm, by cases h; rfl⟩
  · cases h

/-- A log with one record that waits, its buyer's pending with it. -/
theorem witness_EveryStepKeepsLogMoneyAndBindings :
    step sold = .next (sold.elapse 1) ∧ sold.LogOk ∧ sold.MoneyOk ∧ sold.SeatsOk := by
  refine ⟨by rfl, ⟨by decide +kernel, by decide +kernel, by decide +kernel⟩, ⟨fun n => ?_, fun n b h => ?_⟩, fun a b => ?_⟩
  · by_cases h : n = 5
    · subst h; decide +kernel
    · have e : sold.accounts.buyers.get n = none := by
        cases hb : sold.accounts.buyers.get n with
        | none => rfl
        | some b => exact absurd (sold_buyer hb).1 h
      rw [e]
      have : sold.log.records = [purchase 1] := rfl
      simp [Log.pendingTotal, this, purchase, Ne.symm h]
  · obtain ⟨rfl, rfl⟩ := sold_buyer h; decide
  · have e : sold.scan.seats[a].buyer = none := by revert a; decide +kernel
    rw [e]
    refine ⟨fun h => (by cases h), fun ⟨r, hr, hs⟩ => ?_⟩
    obtain ⟨rfl, rfl⟩ := sold_buyer hr; cases hs

/-- A descent with two entries in its history, and a contest with one contender. -/
theorem witness_EveryStepKeepsClockInOrder :
    (step (running 90) = .next ((running 90).elapse 1) ∧ (running 90).clock.Ok ∧ (running 90).clock.HistoryOk ∧
      (running 90).RangesOk) ∧ contest.ContestOk := by
  refine ⟨⟨by rfl, ?_, fun _ => ?_, ?_⟩, contest_contestOk⟩
  · unfold Clock.Ok; decide +kernel
  · decide +kernel
  · refine ⟨by decide +kernel, by decide +kernel, by decide +kernel, by decide +kernel, by decide +kernel, by decide +kernel,
      ⟨by decide +kernel, by decide +kernel, by decide +kernel⟩, by decide +kernel, by decide +kernel, by decide +kernel,
      by decide +kernel, by decide +kernel, fun n h => (by cases h), by decide +kernel⟩

theorem witness_EveryStepKeepsRail : conveyed.TablesOk ∧ conveyed.RailOk ∧ conveyed.drive.Ok ∧ conveyed.GateOk ∧
    step conveyed = .next (conveyed.elapse 1) := by
  refine ⟨witness_EveryStepKeepsTables.1, conveyed_railOk, ?_, ⟨by decide +kernel, fun h => ?_, fun j h => (by cases h)⟩, by rfl⟩
  · intro k; revert k; unfold Channel.Ok; decide +kernel
  · exact absurd h (by decide +kernel)

/-- Train 7 presented with lot 10 LOADED: the gate is apart from it, and the clock sells it. -/
def loaded : State := onSale .loaded 100

theorem loaded_train {t : Nat} {r : Train} (h : loaded.lots.trains.get t = some r) :
    t = 7 ∧ r = trainIn .presented (some 5) := by
  change (if 7 = t then some (trainIn .presented (some 5)) else none) = some r at h
  split at h
  · next e => exact ⟨e.symm, by cases h; rfl⟩
  · cases h

theorem loaded_lot {n : Nat} {l : Lot} (h : loaded.lots.lots.get n = some l) :
    n = 10 ∧ l = lotIn .loaded (some 7) (some 1) := by
  change (if 10 = n then some (lotIn .loaded (some 7) (some 1)) else none) = some l at h
  split at h
  · next e => exact ⟨e.symm, by cases h; rfl⟩
  · cases h

theorem loaded_railOk : loaded.RailOk where
  apart := ⟨fun i m h => (by revert h; fin_cases i <;> intro h <;> cases h),
    fun i _ _ _ h => (by revert h; fin_cases i <;> intro h <;> cases h)⟩
  carries := fun i m h => by revert h; fin_cases i <;> intro h <;> cases h
  emptied := by decide +kernel
  reserved := fun k h => absurd h (by revert k; decide +kernel)
  stalled := fun k st h => by
    have : ∀ k : Sec, loaded.rail.stalls[k] = none := by decide +kernel
    rw [this k] at h; cases h
  unnamed := by decide +kernel
  gate := by decide +kernel
  hold := by decide +kernel
  unknown := by decide +kernel
  eject := by decide +kernel
  admission := by decide +kernel
  trains := fun t r h => by
    obtain ⟨rfl, rfl⟩ := loaded_train h
    exact ⟨by decide +kernel, rfl⟩
  occupants := fun k t h => by
    have hk : k = 5 := by
      have : ∀ k : Sec, k ≠ 5 → loaded.rail.secs[k].occupant = none := by decide +kernel
      by_contra hk; rw [this k hk] at h; cases h
    subst hk
    have : loaded.rail.secs[(5 : Sec)].occupant = some 7 := by decide +kernel
    rw [this] at h; cases h
    exact ⟨trainIn .presented (some 5), by decide +kernel, rfl⟩

theorem loaded_lotsOk : loaded.LotsOk where
  each := fun n l h => by
    obtain ⟨rfl, rfl⟩ := loaded_lot h
    exact ⟨by decide, by decide, by decide, by decide, by decide, fun x hx => (by cases hx), by decide, by decide⟩
  placed := fun n l t h ht => by
    obtain ⟨rfl, rfl⟩ := loaded_lot h
    cases ht
    exact ⟨trainIn .presented (some 5), 0, by decide +kernel, rfl, rfl, by decide, by decide⟩
  listed := fun t r h => by
    obtain ⟨rfl, rfl⟩ := loaded_train h
    refine ⟨by decide, by decide, by decide, fun n hn => ?_⟩
    have : n = 10 := by simpa [trainIn] using hn
    subst this; exact ⟨lotIn .loaded (some 7) (some 1), by decide +kernel, rfl⟩
  onSale := fun n l h _ => by obtain ⟨rfl, rfl⟩ := loaded_lot h; rfl
  current := fun n h => by
    have e : loaded.clock.lot = some 10 := rfl
    rw [e] at h; cases h
    exact ⟨lotIn .loaded (some 7) (some 1), by decide +kernel, fun _ => rfl, fun h => absurd rfl h, by decide, by decide,
      fun h => absurd h (by decide +kernel)⟩

/-- A lot LOADED before the step and after it. -/
theorem witness_EveryStepKeepsRail_loaded : loaded.TablesOk ∧ loaded.RailOk ∧ loaded.drive.Ok ∧ loaded.GateOk ∧
    step loaded = .next (loaded.elapse 1) ∧ (loaded.elapse 1).LotsOk ∧
    ∃ l, (loaded.elapse 1).lots.lots.get 10 = some l ∧ l.state = .loaded := by
  refine ⟨⟨by decide +kernel, by decide +kernel, by decide +kernel⟩, loaded_railOk, ?_,
    ⟨by decide +kernel, fun h => ?_, fun j h => (by cases h)⟩, by rfl, { loaded_lotsOk with }, _, rfl, rfl⟩
  · intro k; revert k; unfold Channel.Ok; decide +kernel
  · exact absurd h (by decide +kernel)

theorem witness_EveryStepKeepsLotsAndRecords :
    conveyed.TablesOk ∧ conveyed.RailOk ∧ conveyed.clock.Ok ∧ conveyed.LotsOk ∧ conveyed.QueueOk ∧ conveyed.LogOk ∧
    conveyed.RecordsOk ∧ step conveyed = .next (conveyed.elapse 1) := by
  refine ⟨witness_EveryStepKeepsTables.1, conveyed_railOk, ?_, conveyed_lotsOk, ⟨by decide +kernel, fun t => ?_⟩,
    ⟨by decide +kernel, by decide +kernel, by decide +kernel⟩, ⟨fun n l h => ?_, fun n h => ?_⟩, by rfl⟩
  · unfold Clock.Ok; decide +kernel
  · have hq : conveyed.lots.queue = [] := by decide +kernel
    rw [hq]
    refine ⟨fun h => (by cases h), fun h => ?_⟩
    cases ht : conveyed.lots.trains.get t with
    | none => simp [LotStore.trainState, ht] at h
    | some r =>
      obtain ⟨rfl, rfl⟩ := conveyed_train ht
      revert h; decide +kernel
  · obtain ⟨rfl, rfl⟩ := conveyed_lot h; decide +kernel
  · exact absurd rfl h

theorem witness_EveryStepKeepsFaceDrivePortsRanges :
    step State.reset = .next (State.reset.elapse 1) ∧ State.reset.ImageOk ∧ turning.drive.Ok ∧ pulsing.drive.Ok ∧
    (opened .desk State.reset).PortsOk := by
  refine ⟨by rfl, by rfl, ?_, ?_, ?_⟩
  · intro k; revert k; unfold Channel.Ok; decide +kernel
  · intro k; revert k; unfold Channel.Ok; decide +kernel
  · intro p; cases p <;> refine ⟨by decide +kernel, by decide +kernel, by decide +kernel, by decide +kernel, by decide +kernel,
      by decide +kernel, by decide +kernel, fun e h => by cases h⟩

end Sys2Proof.Tests
end

/-!
The Lot Store's commands DECLARE LOT, DROP LOT and CANCEL TRAIN (R2, R3, R10): what each does to the tables, and the
obligations about them.
-/

namespace Sys2Proof.Machine

/-! ## DECLARE LOT (R2) -/

/-- The RANGE tests of DECLARE LOT as R2 lists them, over the bit vectors of the payload. -/
theorem LotDecl.not_inRange_iff (d : LotDecl) : ¬ LotDecl.inRange d = true ↔
    d.lot = 0 ∨ 15 < d.grade.toNat ∨ d.unitsTotal = 0 ∨ d.stems = 0 ∨ 500 < d.stems.toNat ∨ d.minimum = 0 ∨
      d.unitsTotal.toNat < d.minimum.toNat ∨ d.startPrice = 0 ∨ 9999 < d.startPrice.toNat ∨ d.floorPrice = 0 ∨
      d.startPrice.toNat < d.floorPrice.toNat ∨ 999 < d.restartRaise.toNat ∨ 15 < d.restartLimit.toNat ∨
      9999 < d.container.toNat := by
  simp only [LotDecl.inRange, Bool.and_eq_true, decide_eq_true_eq, ← BitVec.toNat_inj, BitVec.ofNat_eq_ofNat,
    BitVec.toNat_zero]
  omega

/-- The reply to DECLARE LOT counts the entry just created among those taken. -/
theorem free_after_put (t : Tbl Lot) (n : Nat) (l : Lot) (h : t.get n = none) :
    Config.lotCapacity - (t.put n l).length = 127 - t.length := by
  rw [Tbl.length_put t n l h, Config.lotCapacity]; omega

/-- A lot declared: its entry is put, and the reply gives the free entries left. -/
theorem takeDeclareLot_declares (d : LotDecl) (s : State) (hr : LotDecl.inRange d = true)
    (hn : s.lots.lots.get d.lot.toNat = none) (hc : s.lots.lots.length < 128) :
    takeDeclareLot d s =
      ((s.onLots fun ls => { ls with lots := ls.lots.put d.lot.toNat (Lot.ofDecl d) }).reface,
        Reply.done (num1 (127 - s.lots.lots.length))) := by
  have hc' : ¬ Config.lotCapacity ≤ s.lots.lots.length := Nat.not_le.mpr hc
  simp [takeDeclareLot, hr, hn, hc', free_after_put _ _ _ hn]

/-! ## CANCEL TRAIN (R10) -/

/-- A lot entry returned to DECLARED, with train and place absent (R10 step 2). -/
def Lot.returned (l : Lot) : Lot := { l with state := .declared, train := none, place := none }

/-- Returning the lots of a list touches the lot table alone. -/
theorem LotStore.takeLots_eq (ls : LotStore) (ns : List Nat) :
    ls.takeLots ns = { ls with lots := (ls.takeLots ns).lots } := by
  induction ns generalizing ls with
  | nil => rfl
  | cons m ms ih => exact ih _

/-- Each listed lot is returned, once however often the list names it, and no other is changed. -/
theorem LotStore.get_takeLots (ls : LotStore) (ns : List Nat) (n : Nat) :
    (ls.takeLots ns).lots.get n = if n ∈ ns then (ls.lots.get n).map Lot.returned else ls.lots.get n := by
  induction ns generalizing ls with
  | nil => rfl
  | cons m ms ih =>
    have hm : (ls.takeLots (m :: ms)).lots.get n =
        if n ∈ ms then ((ls.lots.modify m Lot.returned).get n).map Lot.returned
        else (ls.lots.modify m Lot.returned).get n := ih _
    rw [hm, Tbl.get_modify]
    by_cases h : n = m
    · subst h
      have hid : Lot.returned ∘ Lot.returned = Lot.returned := rfl
      simp [hid]
    · simp [h]

theorem LotStore.cancel_queue (ls : LotStore) (t : Nat) (tr : Train) :
    (ls.cancel t tr).queue = ls.queue.filter (· ≠ t) := by
  rw [LotStore.cancel, LotStore.takeLots_eq]

theorem LotStore.cancel_trains (ls : LotStore) (t : Nat) (tr : Train) :
    (ls.cancel t tr).trains = ls.trains.erase t := by
  rw [LotStore.cancel, LotStore.takeLots_eq]

theorem LotStore.get_cancel_lots (ls : LotStore) (t : Nat) (tr : Train) (n : Nat) :
    (ls.cancel t tr).lots.get n =
      if n ∈ tr.lots then (ls.lots.get n).map Lot.returned else ls.lots.get n :=
  LotStore.get_takeLots _ tr.lots n

/-! ## The commands on a yard port that listens -/

/-- A lot command of the yard on a port that listens is taken by the Lot Store (R197). -/
theorem exec_declareLot (d : LotDecl) (s : State) (hl : s.listens .yard = true) :
    exec (.declareLot .yard d) s = .next ((s.frameTaken .yard).takeOn .yard (takeDeclareLot d)) :=
  exec_taken (.declareLot .yard d) s .yard 0x20 (declBytes d) [.yard] rfl rfl rfl rfl hl

theorem exec_dropLot (n : BitVec 16) (s : State) (hl : s.listens .yard = true) :
    exec (.dropLot .yard n) s = .next ((s.frameTaken .yard).takeOn .yard (takeDropLot n.toNat)) :=
  exec_taken (.dropLot .yard n) s .yard 0x21 (split2 n) [.yard] rfl rfl rfl rfl hl

theorem exec_cancelTrain (t : BitVec 16) (s : State) (hl : s.listens .yard = true) :
    exec (.cancelTrain .yard t) s = .next ((s.frameTaken .yard).takeOn .yard (takeCancelTrain t.toNat)) :=
  exec_taken (.cancelTrain .yard t) s .yard 0x23 (split2 t) [.yard] rfl rfl rfl rfl hl

/-- An owner that refuses leaves the records as they were. -/
theorem State.takeOn_refuse (s : State) (p : Role) (take : State → Taken) (st : Status)
    (h : take (s.frameTaken p) = refuse (s.frameTaken p) st) : (s.frameTaken p).takeOn p take = s.rejected p st := by
  rw [State.takeOn, h, State.refused_eq]

/-! ## The obligations -/

/-- Settles O13: the tests of the two commands branch by branch, in the order of R2 and R3. -/
theorem declareAndDropLot : Obligations.DeclareAndDropLot := by
  intro s hl
  refine ⟨fun d => ?_, fun n => ?_⟩
  · rw [exec_declareLot d s hl]
    congr 1
    split_ifs with hrange hused hfull
    · exact s.takeOn_refuse _ _ _ (if_pos ((LotDecl.not_inRange_iff d).mpr hrange))
    all_goals have hr : LotDecl.inRange d = true := by_contra fun h => hrange ((LotDecl.not_inRange_iff d).mp h)
    · exact s.takeOn_refuse _ _ _ (by simp [takeDeclareLot, hr, hused])
    · exact s.takeOn_refuse _ _ _ (by simp [takeDeclareLot, hr, hused, Config.lotCapacity, hfull])
    · have hn : s.lots.lots.get d.lot.toNat = none := Option.not_isSome_iff_eq_none.mp hused
      rw [State.takeOn, takeDeclareLot_declares d (s.frameTaken .yard) hr hn (Nat.not_le.mp hfull)]
      rfl
  · rw [exec_dropLot n s hl]
    congr 1
    cases hn : s.lots.lots.get n.toNat with
    | none => exact s.takeOn_refuse _ _ _ (by simp [takeDropLot, hn])
    | some l =>
      by_cases hd : l.state = .declared
      · simp [State.takeOn, takeDropLot, hn, hd]
      · simp only [hd, if_false]
        exact s.takeOn_refuse _ _ _ (by simp [takeDropLot, hn, hd])

/-- Settles O15: the taken form is `LotStore.cancel`, whose tables the lemmas above read off. -/
theorem cancelTrainReturnsLots : Obligations.CancelTrainReturnsLots := by
  intro s t hl
  rw [exec_cancelTrain t s hl]
  cases ht : s.lots.trains.get t.toNat with
  | none => exact congrArg _ (s.takeOn_refuse _ _ _ (by simp [takeCancelTrain, ht]))
  | some tr =>
    by_cases ha : tr.state = .announced
    · simp only [ha, if_true]
      have htaken : takeCancelTrain t.toNat (s.frameTaken .yard) =
          (((s.frameTaken .yard).onLots fun ls => ls.cancel t.toNat tr).reface, Reply.done []) := by
        simp [takeCancelTrain, ht, ha]
      refine ⟨_, rfl, ?_⟩
      rw [State.takeOn, htaken]
      refine ⟨LotStore.cancel_queue .., ?_, fun n hn => ?_, fun n hn => ?_, fun n hn => ?_, rfl, rfl⟩
      · simp [LotStore.cancel_trains]
      · simp [LotStore.cancel_trains, Tbl.get_erase_ne _ hn]
      · exact (LotStore.get_cancel_lots ..).trans (if_pos hn)
      · exact (LotStore.get_cancel_lots ..).trans (if_neg hn)
    · simp only [ha, if_false]
      exact congrArg _ (s.takeOn_refuse _ _ _ (by simp [takeCancelTrain, ht, ha]))

end Sys2Proof.Machine

/-!
The Clock Engine's HALT, WITHDRAW and SET PRICE (R102, R104, R109): the closing of the current lot in the Lot Store (R7) and
on the clock (R110), what the events around it leave of the desk port, and the obligation about the three commands.
-/

namespace Sys2Proof.Machine

/-! ## The closing of a lot in the Lot Store (R7) -/

@[simp] theorem Lot.close_state (l : Lot) : l.close.state = .closed := rfl
@[simp] theorem Lot.close_train (l : Lot) : l.close.train = l.train := rfl
@[simp] theorem Lot.close_pendingCount (l : Lot) : l.close.pendingCount = l.pendingCount := rfl

/-- A closed entry meets the conditions of R19 where no train and no record that waits holds it. -/
theorem Lot.close_freeable_iff (l : Lot) : l.close.freeable = true ↔ l.train = none ∧ l.pendingCount = 0 := by
  rw [Lot.freeable, Bool.and_eq_true, Bool.and_eq_true, decide_eq_true_eq, decide_eq_true_eq, Option.isNone_iff_eq_none]
  simp

theorem Lot.onSale_iff (l : Lot) : l.onSale = true ↔ l.state = .loaded ∨ l.state = .onClock := by simp [Lot.onSale]

@[simp] theorem LotStore.onLot_lots (ls : LotStore) (n : Nat) (f : Lot → Lot) :
    (ls.onLot n f).lots = ls.lots.modify n f := rfl
@[simp] theorem LotStore.onLot_trains (ls : LotStore) (n : Nat) (f : Lot → Lot) : (ls.onLot n f).trains = ls.trains := rfl

@[simp] theorem LotStore.onTrain_trains (ls : LotStore) (t : Nat) (f : Train → Train) :
    (ls.onTrain t f).trains = ls.trains.modify t f := rfl

@[simp] theorem LotStore.freeTest_trains (ls : LotStore) (n : Nat) : (ls.freeTest n).trains = ls.trains := by
  unfold LotStore.freeTest; split
  · split <;> rfl
  · rfl

theorem LotStore.get_freeTest_ne (ls : LotStore) {n m : Nat} (h : m ≠ n) :
    (ls.freeTest n).lots.get m = ls.lots.get m := by
  unfold LotStore.freeTest; split
  · split
    · exact Tbl.get_erase_ne _ h
    · rfl
  · rfl

theorem LotStore.get_freeTest_self (ls : LotStore) {n : Nat} {l : Lot} (h : ls.lots.get n = some l) :
    (ls.freeTest n).lots.get n = if l.freeable then none else some l := by
  simp only [LotStore.freeTest, h]; split
  · exact Tbl.get_erase_self _ _
  · exact h

@[simp] theorem LotStore.trainTest_lots (ls : LotStore) (t : Nat) : (ls.trainTest t).lots = ls.lots := by
  unfold LotStore.trainTest; split
  · split <;> rfl
  · rfl

/-- The record of a train after its examination (R7 step 4, R12). -/
def LotStore.trainTested (ls : LotStore) (r : Train) : Train :=
  if r.state = .presented ∧ ls.allClosed r.lots then { r with state := .done } else r

@[simp] theorem LotStore.trainTested_lots (ls : LotStore) (r : Train) : (ls.trainTested r).lots = r.lots := by
  unfold LotStore.trainTested; split <;> rfl

theorem LotStore.get_trainTest (ls : LotStore) (t x : Nat) :
    (ls.trainTest t).trains.get x =
      if x = t then (ls.trains.get x).map ls.trainTested else ls.trains.get x := by
  by_cases hx : x = t
  · subst hx
    cases hr : ls.trains.get x with
    | none => simp [LotStore.trainTest, hr]
    | some r =>
      by_cases hd : r.state = .presented ∧ ls.allClosed r.lots = true
      · simp [LotStore.trainTest, LotStore.trainTested, hr, hd]
      · simp [LotStore.trainTest, LotStore.trainTested, hr, hd]
  · rw [if_neg hx]
    unfold LotStore.trainTest; split
    · split
      · rw [LotStore.onTrain_trains, Tbl.get_modify_ne _ _ hx]
      · rfl
    · rfl

theorem LotStore.trainTest_wf (ls : LotStore) (t : Nat) : (ls.trainTest t).trains.wf = ls.trains.wf := by
  unfold LotStore.trainTest; split
  · split
    · rw [LotStore.onTrain_trains, Tbl.wf_modify]
    · rfl
  · rfl

/-- The closing of a lot on sale: the entry closed, its train examined, and the entry freed where nothing holds it. -/
theorem LotStore.close_eq (ls : LotStore) {n : Nat} {l : Lot} (hn : ls.lots.get n = some l) (hs : l.onSale = true) :
    ls.close n = (l.train.elim (ls.onLot n Lot.close) (ls.onLot n Lot.close).trainTest).freeTest n := by
  simp only [LotStore.close, hn, hs, if_true]
  cases l.train <;> rfl

/-- Before the freeing test the lot table differs in the closed entry alone. -/
theorem LotStore.closing_lots (ls : LotStore) (n : Nat) (l : Lot) :
    (l.train.elim (ls.onLot n Lot.close) (ls.onLot n Lot.close).trainTest).lots = ls.lots.modify n Lot.close := by
  cases l.train <;> simp

section
variable {ls : LotStore} {n : Nat} {l : Lot} (hn : ls.lots.get n = some l) (hs : l.onSale = true)
include hn hs

theorem LotStore.get_close_self :
    (ls.close n).lots.get n = if l.train = none ∧ l.pendingCount = 0 then none else some l.close := by
  have hg : (l.train.elim (ls.onLot n Lot.close) (ls.onLot n Lot.close).trainTest).lots.get n = some l.close := by
    rw [LotStore.closing_lots, Tbl.get_modify_self, hn, Option.map_some]
  rw [LotStore.close_eq ls hn hs, LotStore.get_freeTest_self _ hg]
  simp only [Lot.close_freeable_iff]

theorem LotStore.get_close_ne {m : Nat} (hm : m ≠ n) : (ls.close n).lots.get m = ls.lots.get m := by
  rw [LotStore.close_eq ls hn hs, LotStore.get_freeTest_ne _ hm, LotStore.closing_lots, Tbl.get_modify_ne _ _ hm]

/-- A WAITING entry after a closing is another lot's, and as it was. -/
theorem LotStore.waiting_of_close {m : Nat} {e : Lot} (he : (ls.close n).lots.get m = some e) (hw : e.state = .waiting) :
    m ≠ n ∧ ls.lots.get m = some e := by
  have hm : m ≠ n := by
    rintro rfl
    rw [LotStore.get_close_self hn hs] at he
    split at he
    · cases he
    · cases he; cases hw
  exact ⟨hm, LotStore.get_close_ne hn hs hm ▸ he⟩

theorem LotStore.get_close_trains (x : Nat) : (ls.close n).trains.get x =
    if l.train = some x then (ls.trains.get x).map (ls.onLot n Lot.close).trainTested else ls.trains.get x := by
  rw [LotStore.close_eq ls hn hs, LotStore.freeTest_trains]
  cases ht : l.train with
  | none => simp
  | some t => simp [LotStore.get_trainTest, eq_comm]

theorem LotStore.close_trains_wf : (ls.close n).trains.wf = ls.trains.wf := by
  rw [LotStore.close_eq ls hn hs, LotStore.freeTest_trains]
  cases l.train with
  | none => rfl
  | some t => exact LotStore.trainTest_wf ..

omit hs in
/-- With one lot closed, the lots of a list are all CLOSED where the others are. -/
theorem LotStore.allClosed_onLot_close (ns : List Nat) : (ls.onLot n Lot.close).allClosed ns = true ↔
    ∀ m ∈ ns, m = n ∨ ∃ e, ls.lots.get m = some e ∧ e.state = .closed := by
  rw [LotStore.allClosed, List.all_eq_true]
  refine forall₂_congr fun m _ => ?_
  by_cases hm : m = n
  · subst hm; simp [hn, Lot.close]
  · rw [LotStore.onLot_lots, Tbl.get_modify_ne _ _ hm]
    cases ls.lots.get m <;> simp [hm]

/-- The PRESENTED train of a lot that closes becomes DONE exactly where all its lots are CLOSED (R12). -/
theorem LotStore.close_train {x : Nat} {r : Train} (hx : l.train = some x) (hr : ls.trains.get x = some r)
    (hp : r.state = .presented) : ∃ r', (ls.close n).trains.get x = some r' ∧ r'.lots = r.lots ∧
      (r'.state = .done ∨ r'.state = .presented) ∧
      (r'.state = .done ↔ ∀ m ∈ r.lots, m = n ∨ ∃ e, ls.lots.get m = some e ∧ e.state = .closed) := by
  refine ⟨(ls.onLot n Lot.close).trainTested r, by rw [LotStore.get_close_trains hn hs, if_pos hx, hr, Option.map_some],
    LotStore.trainTested_lots _ r, ?_⟩
  rw [← LotStore.allClosed_onLot_close hn]
  by_cases hc : (ls.onLot n Lot.close).allClosed r.lots = true <;> simp [LotStore.trainTested, hp, hc]

end

/-! ## The next lot (R94) -/

/-- A WAITING lot that a train lists is that train's own. -/
def LotStore.ListsOwn (ls : LotStore) : Prop :=
  ∀ t r m e, ls.trains.get t = some r → m ∈ r.lots → ls.lots.get m = some e → e.state = .waiting → e.train = some t

/-- In consistent tables each train lists its own lots. -/
theorem State.LotsOk.listsOwn {s : State} (h : s.LotsOk) : s.lots.ListsOwn := by
  intro t r m e hr hm he _
  obtain ⟨-, -, -, hall⟩ := h.listed t r hr
  obtain ⟨e', he', ht⟩ := hall m hm
  rw [he] at he'; cases he'; exact ht

/-- A closing leaves every train with the lots it lists. -/
theorem LotStore.ListsOwn.close {ls : LotStore} (h : ls.ListsOwn) {n : Nat} {l : Lot} (hn : ls.lots.get n = some l)
    (hs : l.onSale = true) : (ls.close n).ListsOwn := by
  intro t r m e hr hm he hw
  obtain ⟨-, he'⟩ := LotStore.waiting_of_close hn hs he hw
  rw [LotStore.get_close_trains hn hs] at hr
  split at hr
  · obtain ⟨r', hr', rfl⟩ := Option.map_eq_some_iff.mp hr
    exact h t r' m e hr' (LotStore.trainTested_lots _ r' ▸ hm) he' hw
  · exact h t r m e hr hm he' hw

/-- The first WAITING lot of the presented train is in the list of a PRESENTED train of the table, and WAITING. -/
theorem LotStore.firstWaiting_some {ls : LotStore} {m : Nat} (h : ls.firstWaiting = some m) :
    ∃ t r e, (t, r) ∈ ls.trains ∧ r.state = .presented ∧ m ∈ r.lots ∧ ls.lots.get m = some e ∧ e.state = .waiting := by
  unfold LotStore.firstWaiting LotStore.presented at h
  cases hp : ls.trains.find? fun e => decide (e.2.state = .presented) with
  | none => simp [hp] at h
  | some x =>
    simp only [hp, Option.map_some] at h
    have hw := List.find?_some h
    unfold LotStore.isWaiting at hw
    cases he : ls.lots.get m with
    | none => simp [he] at hw
    | some e =>
      exact ⟨x.1, x.2, e, List.mem_of_find?_eq_some hp, by simpa using List.find?_some hp, List.mem_of_find?_eq_some h, rfl,
        by simpa [he] using hw⟩

theorem LotStore.loadStatus_ok_iff (ls : LotStore) (m : Nat) : ls.loadStatus m = .ok ↔
    ∃ e, ls.lots.get m = some e ∧ e.state = .waiting ∧ ls.lotPresented e = true := by
  unfold LotStore.loadStatus
  cases ls.lots.get m <;> simp

/-- The Lot Store takes a load request for the first WAITING lot of the presented train (R5, R94). -/
theorem LotStore.loadStatus_firstWaiting {ls : LotStore} (hwf : ls.trains.wf = true) (ho : ls.ListsOwn) {m : Nat}
    (h : ls.firstWaiting = some m) : ls.loadStatus m = .ok := by
  obtain ⟨t, r, e, htr, hp, hm, he, hw⟩ := LotStore.firstWaiting_some h
  have hr : ls.trains.get t = some r := Tbl.get_eq_of_mem _ hwf htr
  exact (ls.loadStatus_ok_iff m).mpr ⟨e, he, hw, by simp [LotStore.lotPresented, ho t r m e hr hm he hw, hr, hp]⟩

@[simp] theorem LotStore.load_trains (ls : LotStore) (m : Nat) : (ls.load m).trains = ls.trains := rfl

theorem LotStore.get_load_self {ls : LotStore} {m : Nat} {e : Lot} (h : ls.lots.get m = some e) :
    (ls.load m).lots.get m = some { e with state := .loaded } := by
  simp only [LotStore.load, Tbl.get_modify_self, Tbl.get_mapAll, h, Option.map_some]
  split <;> rfl

/-- A load leaves an entry that is not LOADED as it is, and an absent one absent (R5). -/
theorem LotStore.get_load_ne {ls : LotStore} {m k : Nat} (hk : k ≠ m)
    (h : ∀ e, ls.lots.get k = some e → e.state ≠ .loaded) : (ls.load m).lots.get k = ls.lots.get k := by
  simp only [LotStore.load, Tbl.get_modify_ne _ _ hk, Tbl.get_mapAll]
  cases he : ls.lots.get k with
  | none => rfl
  | some e => simp [h e he]

/-! ## The desk port and its events -/

theorem State.raise_checkNow (s : State) (e : Event) (p : Role) :
    ((s.raise e).port p).checkNow = (s.port p).checkNow := by
  by_cases h : e.role = p
  · subst h; simp [State.raise_eq, Port.raiseBits]
  · rw [State.raise_eq, State.port_onPort_ne _ _ h]

theorem State.raise_port_ne (s : State) {e : Event} {p : Role} (h : e.role ≠ p) : (s.raise e).port p = s.port p := by
  rw [State.raise_eq, State.port_onPort_ne _ _ h]

/-- A raised event is held. -/
theorem State.holds_raise_self (s : State) (e : Event) : (s.raise e).holds e = true := by
  have hm (b : Byte) : (b ||| e.mask) &&& e.mask = e.mask := by
    ext i hi
    cases h : e.mask[i] <;> simp [h]
  rw [State.holds, State.raise_eq, State.port_onPort_self, Port.raiseBits, hm]
  cases e <;> rfl

/-- An event held stays held when another is raised. -/
theorem State.holds_raise (s : State) (e f : Event) (h : s.holds e = true) : (s.raise f).holds e = true := by
  by_cases hr : f.role = e.role
  · have hp : ((s.raise f).port e.role).events = (s.port e.role).events ||| f.mask := by
      rw [← hr, State.raise_eq, State.port_onPort_self]; rfl
    simp only [State.holds, bne_iff_ne, ne_eq, hp] at h ⊢
    intro hz
    rw [BitVec.and_or_distrib_right] at hz
    exact h (by simpa using (BitVec.or_eq_zero_iff.mp hz).1)
  · simpa only [State.holds, State.raise_port_ne s hr] using h

/-- A rail operation leaves the desk port as it is. -/
@[simp] theorem State.onRail_desk (s : State) (f : RailWork → RailWork) : (s.onRail f).port .desk = s.port .desk := rfl

@[simp] theorem State.railDone_desk (s b : State) : (s.railDone b).port .desk = s.port .desk := by
  have hw : (s.settle.wantSince b).port .desk = s.port .desk := by
    rcases s.settle.wantSince_cases b with h | h
    · rw [h]; rfl
    · rw [h, State.raise_port_ne _ (by decide)]; rfl
  exact hw

/-- A change of the clock state touches the ports by CLOCK alone, which a change of state or halt reason raises (R92). -/
theorem State.setClock_port (s : State) (st : ClockState) (h : Option HaltReason) (p : Role) :
    (s.setClock st h).port p =
      if s.clock.state = st ∧ s.clock.halt = h then s.port p else (s.raise .clock).port p := by
  unfold State.setClock; dsimp only; split <;> rfl

theorem State.setClock_checkNow (s : State) (st : ClockState) (h : Option HaltReason) (p : Role) :
    ((s.setClock st h).port p).checkNow = (s.port p).checkNow := by
  rw [State.setClock_port]; split
  · rfl
  · exact s.raise_checkNow .clock p

theorem State.holds_setClock (s : State) (st : ClockState) (h : Option HaltReason) (e : Event) (he : s.holds e = true) :
    (s.setClock st h).holds e = true := by
  have hr := s.holds_raise e .clock he
  rw [State.holds, State.setClock_port]; split
  · exact he
  · exact hr

theorem State.setClock_holds_clock (s : State) {st : ClockState} (h : Option HaltReason) (hs : s.clock.state ≠ st) :
    (s.setClock st h).holds .clock = true := by
  rw [State.holds, State.setClock_port, if_neg fun hc => hs hc.1]
  exact s.holds_raise_self .clock

@[simp] theorem State.giveReply_holds (s : State) (p : Role) (x : Reply) (e : Event) :
    (s.giveReply p x).holds e = s.holds e := by
  by_cases h : p = e.role
  · subst h; simp [State.holds]
  · simp only [State.holds, State.giveReply, State.port_onPort_ne _ _ h]

/-! ## Loading (R93) -/

@[simp] theorem State.loadLot_lots (s : State) (m : Nat) : (s.loadLot m).lots = s.lots.load m := by simp [State.loadLot]
@[simp] theorem State.loadLot_scan (s : State) (m : Nat) : (s.loadLot m).scan = s.scan := by simp [State.loadLot]
@[simp] theorem State.loadLot_accounts (s : State) (m : Nat) : (s.loadLot m).accounts = s.accounts := by
  simp [State.loadLot]
@[simp] theorem State.loadLot_log (s : State) (m : Nat) : (s.loadLot m).log = s.log := by simp [State.loadLot]
@[simp] theorem State.loadLot_inputs (s : State) (m : Nat) : (s.loadLot m).inputs = s.inputs := by simp [State.loadLot]

/-- The clock record once lot `m` is loaded at price `p` (R93). -/
def Clock.loadedAt (c : Clock) (m p : Nat) : Clock :=
  { c with state := .loaded, halt := none, lot := some m, price := p, notedHalt := false, notedWithdraw := false,
           stopTime := none, stopPrice := none, showing := none, autoTimer := if c.auto then c.autoStart else c.autoTimer }

theorem State.loadLot_clock (s : State) {m : Nat} {e : Lot} (h : s.lots.lots.get m = some e) :
    (s.loadLot m).clock = s.clock.loadedAt m e.startPrice := by
  simp only [State.loadLot, State.setClock_clock, State.onClock_clock, State.onRail_lots, State.onRail_clock,
    State.onLots_lots, State.onLots_clock, LotStore.get_load_self h]; rfl

theorem State.loadLot_checkNow (s : State) (m : Nat) : ((s.loadLot m).port .desk).checkNow = (s.port .desk).checkNow :=
  State.setClock_checkNow ..

theorem State.loadLot_holds (s : State) (m : Nat) {e : Event} (hr : e.role = .desk) (h : s.holds e = true) :
    (s.loadLot m).holds e = true := by
  refine State.holds_setClock _ _ _ _ ?_
  rw [State.holds, hr] at h ⊢; exact h

/-- The first WAITING lot loaded where the Lot Store takes the request, and otherwise nothing changed (R94). -/
theorem State.autoLoad_cases (s : State) :
    (∃ m e, s.lots.firstWaiting = some m ∧ s.lots.loadStatus m = .ok ∧ s.lots.lots.get m = some e ∧ e.state = .waiting ∧
      s.autoLoad = s.loadLot m) ∨
    (s.autoLoad = s ∧ ∀ m, s.lots.firstWaiting = some m → s.lots.loadStatus m ≠ .ok) := by
  unfold State.autoLoad
  cases hf : s.lots.firstWaiting with
  | none => exact .inr ⟨rfl, fun m h => nomatch h⟩
  | some m =>
    by_cases hok : s.lots.loadStatus m = .ok
    · obtain ⟨e, he, hw, -⟩ := (s.lots.loadStatus_ok_iff m).mp hok
      exact .inl ⟨m, e, rfl, hok, he, hw, if_pos hok⟩
    · exact .inr ⟨if_neg hok, fun k hk => by cases hk; exact hok⟩

/-! ## The closing of the current lot (R110) -/

/-- The clock record with no lot: IDLE at price 0, its timers stopped (R110). -/
def Clock.emptied (c : Clock) : Clock :=
  { c with state := .idle, halt := none, tickTimer := none, showTimer := none, autoTimer := none, lot := none,
           stopTime := none, stopPrice := none, showing := none, notedHalt := false, notedWithdraw := false, price := 0 }

/-- R110 but for its last step: the lot closed in the Lot Store, the clock IDLE, and CLOSED raised. -/
def State.lotTaken (s : State) (n : Nat) : State :=
  (((s.onLots fun ls => ls.close n).onClock fun c =>
    { c with tickTimer := none, showTimer := none, autoTimer := none, lot := none, stopTime := none, stopPrice := none,
             showing := none, notedHalt := false, notedWithdraw := false, price := 0 }).setClock .idle none).raise .closed

theorem State.closeLot_eq (s : State) {n : Nat} (h : s.clock.lot = some n) :
    s.closeLot = if s.clock.auto then (s.lotTaken n).autoLoad else s.lotTaken n := by
  simp only [State.closeLot, State.onClock_clock, h, State.raise_clock, State.setClock_clock, State.onLots_clock]
  rfl

@[simp] theorem State.lotTaken_lots (s : State) (n : Nat) : (s.lotTaken n).lots = s.lots.close n := by simp [State.lotTaken]
@[simp] theorem State.lotTaken_scan (s : State) (n : Nat) : (s.lotTaken n).scan = s.scan := by simp [State.lotTaken]
@[simp] theorem State.lotTaken_accounts (s : State) (n : Nat) : (s.lotTaken n).accounts = s.accounts := by
  simp [State.lotTaken]
@[simp] theorem State.lotTaken_log (s : State) (n : Nat) : (s.lotTaken n).log = s.log := by simp [State.lotTaken]
@[simp] theorem State.lotTaken_inputs (s : State) (n : Nat) : (s.lotTaken n).inputs = s.inputs := by simp [State.lotTaken]
@[simp] theorem State.lotTaken_clock (s : State) (n : Nat) : (s.lotTaken n).clock = s.clock.emptied := by
  simp [State.lotTaken]; rfl
theorem State.lotTaken_holds_closed (s : State) (n : Nat) : (s.lotTaken n).holds .closed = true :=
  State.holds_raise_self ..
theorem State.lotTaken_checkNow (s : State) (n : Nat) (p : Role) :
    ((s.lotTaken n).port p).checkNow = (s.port p).checkNow := by
  rw [State.lotTaken, State.raise_checkNow, State.setClock_checkNow]; rfl

/-- In consistent tables the Lot Store takes the load request that follows a closing (R110 step 5). -/
theorem State.loadStatus_after_close (s : State) {n : Nat} {l : Lot} (hn : s.lots.lots.get n = some l) (hs : l.onSale = true)
    (ht : s.TablesOk) (hl : s.LotsOk) {m : Nat} (h : (s.lots.close n).firstWaiting = some m) :
    (s.lots.close n).loadStatus m = .ok := by
  obtain ⟨-, htrains, -⟩ := ht
  exact LotStore.loadStatus_firstWaiting (LotStore.close_trains_wf hn hs ▸ htrains) (hl.listsOwn.close hn hs) h

/-- A lot closed: the clock left IDLE, or in auto mode with the next lot loaded (R110). -/
theorem State.closeLot_cases (s : State) {n : Nat} {l : Lot} (hc : s.clock.lot = some n)
    (hn : s.lots.lots.get n = some l) (hs : l.onSale = true) :
    (s.closeLot = s.lotTaken n ∧
      (s.clock.auto = true → ∀ m, (s.lots.close n).firstWaiting = some m → (s.lots.close n).loadStatus m ≠ .ok)) ∨
    (s.clock.auto = true ∧ ∃ m e, (s.lots.close n).firstWaiting = some m ∧ m ≠ n ∧
      (s.lots.close n).lots.get m = some e ∧ s.lots.lots.get m = some e ∧ s.closeLot = (s.lotTaken n).loadLot m) := by
  rw [s.closeLot_eq hc]
  cases ha : s.clock.auto with
  | false => exact .inl ⟨if_neg Bool.false_ne_true, fun h => nomatch h⟩
  | true =>
    rw [if_pos rfl]
    rcases (s.lotTaken n).autoLoad_cases with ⟨m, e, hf, -, he, hw, ho⟩ | ⟨ho, hno⟩ <;> rw [State.lotTaken_lots] at *
    · obtain ⟨hm, he'⟩ := LotStore.waiting_of_close hn hs he hw
      exact .inr ⟨rfl, m, e, hf, hm, he, he', ho⟩
    · exact .inl ⟨ho, fun _ => hno⟩

section
variable {s : State} {n : Nat} {l : Lot} (hc : s.clock.lot = some n) (hn : s.lots.lots.get n = some l)
  (hs : l.onSale = true)
include hc hn hs

/-- After a closing, a load of the next lot included, the lot table has the closed entry as the Lot Store left it. -/
theorem State.closeLot_get_self : s.closeLot.lots.lots.get n = (s.lots.close n).lots.get n := by
  rcases s.closeLot_cases hc hn hs with ⟨h, -⟩ | ⟨-, m, e, -, hm, -, -, h⟩
  · rw [h, State.lotTaken_lots]
  · rw [h, State.loadLot_lots, State.lotTaken_lots]
    refine LotStore.get_load_ne hm.symm fun x hx => ?_
    rw [LotStore.get_close_self hn hs] at hx
    split at hx
    · cases hx
    · cases hx; exact LotState.noConfusion

theorem State.closeLot_trains : s.closeLot.lots.trains = (s.lots.close n).trains := by
  rcases s.closeLot_cases hc hn hs with ⟨h, -⟩ | ⟨-, m, e, -, -, -, -, h⟩ <;> rw [h] <;> simp

theorem State.closeLot_checkNow : (s.closeLot.port .desk).checkNow = (s.port .desk).checkNow := by
  rcases s.closeLot_cases hc hn hs with ⟨h, -⟩ | ⟨-, m, e, -, -, -, -, h⟩ <;> rw [h]
  · exact s.lotTaken_checkNow n .desk
  · rw [State.loadLot_checkNow, State.lotTaken_checkNow]

theorem State.closeLot_holds_closed : s.closeLot.holds .closed = true := by
  rcases s.closeLot_cases hc hn hs with ⟨h, -⟩ | ⟨-, m, e, -, -, -, -, h⟩ <;> rw [h]
  · exact s.lotTaken_holds_closed n
  · exact State.loadLot_holds _ m rfl (s.lotTaken_holds_closed n)

/-- Outside auto mode the clock is IDLE with no lot and every other entry is as it was. -/
theorem State.closeLot_manual (ha : s.clock.auto = false) :
    s.closeLot.clock.state = .idle ∧ s.closeLot.clock.lot = none ∧ s.closeLot.clock.price = 0 ∧
      ∀ m, m ≠ n → s.closeLot.lots.lots.get m = s.lots.lots.get m := by
  rcases s.closeLot_cases hc hn hs with ⟨h, -⟩ | ⟨ha', -⟩
  · rw [h]
    rw [State.lotTaken_clock, State.lotTaken_lots]
    exact ⟨rfl, rfl, rfl, fun m hm => LotStore.get_close_ne hn hs hm⟩
  · rw [ha] at ha'; cases ha'

/-- In auto mode, in consistent tables, the first WAITING lot is loaded where there is one (R110 step 5). -/
theorem State.closeLot_auto (ha : s.clock.auto = true) (ht : s.TablesOk) (hl : s.LotsOk) :
    s.closeLot.clock.lot = (s.lots.close n).firstWaiting ∧
    (s.closeLot.clock.lot = none → s.closeLot.clock.state = .idle ∧ s.closeLot.clock.price = 0) ∧
    ∀ m, s.closeLot.clock.lot = some m → s.closeLot.clock.state = .loaded ∧ ∃ e, s.lots.lots.get m = some e ∧
      s.closeLot.lots.lots.get m = some { e with state := .loaded } ∧ s.closeLot.clock.price = e.startPrice ∧
      s.closeLot.clock.autoTimer = some (s.clock.autoDelay * 1000) := by
  rcases s.closeLot_cases hc hn hs with ⟨h, hno⟩ | ⟨-, m, e, hf, -, he, he', h⟩
  · have hnone : (s.lots.close n).firstWaiting = none :=
      Option.eq_none_iff_forall_ne_some.mpr fun m hm => hno ha m hm (s.loadStatus_after_close hn hs ht hl hm)
    rw [h, hnone, State.lotTaken_clock]
    exact ⟨rfl, fun _ => ⟨rfl, rfl⟩, fun _ hm => nomatch hm⟩
  · have he₂ : (s.lotTaken n).lots.lots.get m = some e := by rw [State.lotTaken_lots, he]
    rw [h, State.loadLot_clock _ he₂, State.lotTaken_clock, hf]
    refine ⟨rfl, fun hm => absurd hm (Option.some_ne_none m), fun k hk => ?_⟩
    obtain rfl : m = k := Option.some.inj hk
    exact ⟨rfl, e, he', by rw [State.loadLot_lots, LotStore.get_load_self he₂], rfl, if_pos ha⟩

/-- A closing clears what the clock record holds of the sale (R110). -/
theorem State.closeLot_clears : s.closeLot.clock.halt = none ∧ s.closeLot.clock.tickTimer = none ∧
    s.closeLot.clock.showTimer = none ∧ s.closeLot.clock.showing = none ∧ s.closeLot.clock.stopTime = none ∧
    s.closeLot.clock.stopPrice = none ∧ s.closeLot.clock.notedHalt = false ∧ s.closeLot.clock.notedWithdraw = false := by
  rcases s.closeLot_cases hc hn hs with ⟨h, -⟩ | ⟨-, m, e, -, -, he, -, h⟩
  · rw [h, State.lotTaken_clock]
    exact ⟨rfl, rfl, rfl, rfl, rfl, rfl, rfl, rfl⟩
  · have he₂ : (s.lotTaken n).lots.lots.get m = some e := by rw [State.lotTaken_lots, he]
    rw [h, State.loadLot_clock _ he₂, State.lotTaken_clock]
    exact ⟨rfl, rfl, rfl, rfl, rfl, rfl, rfl, rfl⟩

/-- A closing leaves the other blocks as they are. -/
theorem State.closeLot_frame : s.closeLot.accounts = s.accounts ∧ s.closeLot.log = s.log ∧ s.closeLot.scan = s.scan ∧
    s.closeLot.inputs = s.inputs := by
  rcases s.closeLot_cases hc hn hs with ⟨h, -⟩ | ⟨-, m, e, -, -, -, -, h⟩ <;> rw [h] <;> simp

/-- The closing of the current lot, LOADED or ON_CLOCK (R7, R110). -/
theorem State.closeLot_lotClosed : s.lotClosed s.closeLot n l := by
  obtain ⟨hhalt, htick, hshow, hshowing, htime, hprice, hnh, hnw⟩ := State.closeLot_clears hc hn hs
  obtain ⟨hacc, hlog, hscan, hin⟩ := State.closeLot_frame hc hn hs
  refine ⟨?_, fun x r hx hr hp => ?_, State.closeLot_manual hc hn hs, State.closeLot_auto hc hn hs, hhalt, htick, hshow,
    hshowing, htime, hprice, hnh, hnw, State.closeLot_holds_closed hc hn hs, hacc, hlog, hscan, hin⟩
  · exact (State.closeLot_get_self hc hn hs).trans (LotStore.get_close_self hn hs)
  · rw [State.closeLot_trains hc hn hs]
    exact LotStore.close_train hn hs hx hr hp

end

/-! ## The commands on a desk port that listens -/

/-- A state with the records of another but for the rail, the Drive Unit, the face and the ports. -/
structure State.SameSale (s t : State) : Prop where
  lots     : t.lots = s.lots
  clock    : t.clock = s.clock
  scan     : t.scan = s.scan
  accounts : t.accounts = s.accounts
  log      : t.log = s.log
  inputs   : t.inputs = s.inputs

theorem State.sameSale_frameTaken (s : State) (p : Role) : s.SameSale (s.frameTaken p) := ⟨rfl, rfl, rfl, rfl, rfl, rfl⟩

theorem State.sameSale_railDone_giveReply (s b : State) (p : Role) (x : Reply) :
    s.SameSale ((s.railDone b).giveReply p x) := by constructor <;> simp

theorem State.SameSale.lotsOk {s t : State} (h : s.SameSale t) (hs : s.LotsOk) : t.LotsOk := by
  obtain ⟨hl, hc, -, -, -, -⟩ := h
  constructor <;> simp only [hl, hc]
  · exact hs.each
  · exact hs.placed
  · exact hs.listed
  · exact hs.onSale
  · exact hs.current

/-- A closing is told from the lots, the clock, the log and CLOSED alone, before and after it. -/
theorem State.lotClosed.of_sameSale {s s' t t' : State} {n : Nat} {l : Lot} (h : s.lotClosed t n l) (hs : s'.SameSale s)
    (ht : t.SameSale t') (he : t'.holds .closed = t.holds .closed) : s'.lotClosed t' n l := by
  have hok : s'.LotsOk → s.LotsOk := hs.lotsOk
  have htab : s'.TablesOk → s.TablesOk := by simp only [State.TablesOk, hs.lots, hs.accounts]; exact id
  simp only [State.lotClosed, ht.lots, ht.clock, ht.scan, ht.accounts, ht.log, ht.inputs, he, ← hs.lots, ← hs.clock,
    ← hs.scan, ← hs.accounts, ← hs.log, ← hs.inputs] at h ⊢
  obtain ⟨hget, htrain, hman, hauto, hrest⟩ := h
  exact ⟨hget, htrain, hman, fun ha h1 h2 => hauto ha (htab h1) (hok h2), hrest⟩

/-- A clock command of the desk on a port that listens is taken by the Clock Engine (R197). -/
theorem exec_halt (s : State) (hl : s.listens .desk = true) :
    exec (.halt .desk) s = .next ((s.frameTaken .desk).takeOn .desk takeHalt) :=
  exec_taken (.halt .desk) s .desk 0x42 [] [.desk] rfl rfl rfl rfl hl

theorem exec_withdraw (s : State) (hl : s.listens .desk = true) :
    exec (.withdraw .desk) s = .next ((s.frameTaken .desk).takeOn .desk takeWithdraw) :=
  exec_taken (.withdraw .desk) s .desk 0x44 [] [.desk] rfl rfl rfl rfl hl

theorem exec_setPrice (v : BitVec 16) (s : State) (hl : s.listens .desk = true) :
    exec (.setPrice .desk v) s = .next ((s.frameTaken .desk).takeOn .desk (takeSetPrice v.toNat)) :=
  exec_taken (.setPrice .desk v) s .desk 0x45 (split2 v) [.desk] rfl rfl rfl rfl hl

/-! ## HALT, WITHDRAW and SET PRICE in each clock state -/

/-- HALT of a RUNNING clock changes the clock record, the face and the ports alone (R102). -/
theorem takeHalt_running (s : State) (h : s.clock.state = .running) :
    ∃ v, takeHalt s = (v, Reply.done []) ∧
      v.clock = { s.clock with state := .halted, halt := some .desk, tickTimer := none } ∧ v.holds .clock = true ∧
      (v.port .desk).checkNow = (s.port .desk).checkNow ∧
      v = { s with clock := v.clock, face := v.face, ports := v.ports } := by
  have hne : (s.onClock fun c => { c with tickTimer := none }).clock.state ≠ .halted := by
    rw [State.onClock_clock, h]; exact ClockState.noConfusion
  refine ⟨((s.onClock fun c => { c with tickTimer := none }).setClock .halted (some .desk)).reface, by simp [takeHalt, h],
    ?_, State.setClock_holds_clock _ _ hne, State.setClock_checkNow .., ?_⟩
  · rw [State.reface_clock, State.setClock_clock]; rfl
  · obtain ⟨f, ps, e, -⟩ := (s.onClock fun c => { c with tickTimer := none }).setClock_cases .halted (some .desk)
    rw [e]; rfl

/-- WITHDRAW closes the current lot at once in LOADED, RUNNING and HALTED (R109). -/
theorem takeWithdraw_closes (s : State) (h : s.clock.state = .loaded ∨ s.clock.state = .running ∨ s.clock.state = .halted)
    {n : Nat} {l : Lot} (hc : s.clock.lot = some n) (hn : s.lots.lots.get n = some l) :
    takeWithdraw s = (s.closeLot.railDone s, Reply.done (num2 n ++
      [if l.sold = l.unitsTotal then 0 else if l.sold = 0 then 2 else 1])) := by
  have hout : s.closingOutcome = [if l.sold = l.unitsTotal then 0 else if l.sold = 0 then 2 else 1] := by
    simp only [State.closingOutcome, State.curLot, hc, hn, Lot.outcomeOf]
    split_ifs <;> rfl
  have hnum : s.lotNumber = num2 n := by rw [State.lotNumber, hc]; rfl
  rcases h with h | h | h <;> simp only [takeWithdraw, h, hout, hnum]

/-- A WITHDRAW in LOADED, RUNNING or HALTED closes the lot and answers its number and outcome (R109, R110). -/
theorem State.withdraw_lotClosed (s : State) (hl : s.listens .desk = true)
    (h : s.clock.state = .loaded ∨ s.clock.state = .running ∨ s.clock.state = .halted)
    {n : Nat} {l : Lot} (hc : s.clock.lot = some n) (hn : s.lots.lots.get n = some l)
    (hs : l.state = .loaded ∨ l.state = .onClock) :
    ∃ u, exec (.withdraw .desk) s = .next u ∧ s.lotClosed u n l ∧
      (u.port .desk).replyLeft = replyWords (s.port .desk).checkNow (Reply.done (num2 n ++
        [if l.sold = l.unitsTotal then 0 else if l.sold = 0 then 2 else 1])) := by
  have hsale : l.onSale = true := l.onSale_iff.mpr hs
  have hclosed := State.closeLot_lotClosed (s := s.frameTaken .desk) hc hn hsale
  refine ⟨_, exec_withdraw s hl, ?_⟩
  rw [State.takeOn, takeWithdraw_closes (s.frameTaken .desk) h hc hn]
  refine ⟨hclosed.of_sameSale (s.sameSale_frameTaken .desk) (State.sameSale_railDone_giveReply ..) ?_, ?_⟩
  · rw [State.giveReply_holds, State.holds, State.holds, Event.role, State.railDone_desk]
  · rw [State.giveReply_replyLeft, State.railDone_desk, State.closeLot_checkNow (s := s.frameTaken .desk) hc hn hsale,
      State.frameTaken_checkNow]

/-- SET PRICE clamps the price into the current lot's range in LOADED and HALTED (R104). -/
theorem takeSetPrice_clamps (s : State) (v : Nat) (h : s.clock.state = .loaded ∨ s.clock.state = .halted)
    {n : Nat} {l : Lot} (hc : s.clock.lot = some n) (hn : s.lots.lots.get n = some l) :
    takeSetPrice v s = ((s.onClock fun c => { c with price := clamp l.floorPrice l.startPrice v }).reface,
      Reply.done (num2 (clamp l.floorPrice l.startPrice v))) := by
  have hp : s.priceSet v = clamp l.floorPrice l.startPrice v := by simp only [State.priceSet, State.curLot, hc, hn]
  rcases h with h | h <;> simp only [takeSetPrice, h, hp]

/-- A frame whose owner refuses the command ends in the refusal (R197). -/
theorem State.takeOn_rejected (s : State) (p : Role) {take : State → Taken} {st : Status}
    (h : take (s.frameTaken p) = refuse (s.frameTaken p) st) :
    (Host.Outcome.next ((s.frameTaken p).takeOn p take) : Result) = .next (s.rejected p st) :=
  congrArg _ (s.takeOn_refuse p take st h)

/-! ## The obligation -/

/-- Settles O34: each command by the clock states of its rule, the taken forms by the lemmas above. -/
theorem haltWithdrawSetPrice : Obligations.HaltWithdrawSetPrice := by
  intro s hl t no
  refine ⟨?_, ?_, fun v => ?_⟩
  · rw [exec_halt s hl]
    cases h : s.clock.state with
    | running =>
      obtain ⟨v, hv, hclock, hholds, hcheck, hrest⟩ := takeHalt_running (s.frameTaken .desk) h
      refine ⟨_, rfl, ?_⟩
      rw [State.takeOn, hv]
      refine ⟨hclock, (State.giveReply_holds ..).trans hholds, ?_, ?_⟩
      · rw [State.giveReply_replyLeft, hcheck, State.frameTaken_checkNow]
      · rw [hrest]; rfl
    | showing => simp [State.takeOn, takeHalt, h, t]
    | contest => exact s.takeOn_rejected _ (by simp [takeHalt, h])
    | idle => exact s.takeOn_rejected _ (by simp [takeHalt, h])
    | loaded => exact s.takeOn_rejected _ (by simp [takeHalt, h])
    | halted => exact s.takeOn_rejected _ (by simp [takeHalt, h])
  · cases h : s.clock.state with
    | loaded => exact fun n l hc hn hs => s.withdraw_lotClosed hl (by simp [h]) hc hn hs
    | running => exact fun n l hc hn hs => s.withdraw_lotClosed hl (by simp [h]) hc hn hs
    | halted => exact fun n l hc hn hs => s.withdraw_lotClosed hl (by simp [h]) hc hn hs
    | showing =>
      intro n hc
      rw [exec_withdraw s hl]
      simp [State.takeOn, takeWithdraw, State.lotNumber, h, hc, t]
    | contest => exact (exec_withdraw s hl).trans (s.takeOn_rejected _ (by simp [takeWithdraw, h]))
    | idle => exact (exec_withdraw s hl).trans (s.takeOn_rejected _ (by simp [takeWithdraw, h]))
  · rw [exec_setPrice v s hl]
    have hset (h : s.clock.state = .loaded ∨ s.clock.state = .halted) (n : Nat) (l : Lot) (hc : s.clock.lot = some n)
        (hn : s.lots.lots.get n = some l) := takeSetPrice_clamps (s.frameTaken .desk) v.toNat h hc hn
    cases h : s.clock.state with
    | loaded => exact fun n l hc hn => by rw [State.takeOn, hset (.inl h) n l hc hn]; rfl
    | halted => exact fun n l hc hn => by rw [State.takeOn, hset (.inr h) n l hc hn]; rfl
    | idle => exact s.takeOn_rejected _ (by simp [takeSetPrice, h])
    | running => exact s.takeOn_rejected _ (by simp [takeSetPrice, h])
    | contest => exact s.takeOn_rejected _ (by simp [takeSetPrice, h])
    | showing => exact s.takeOn_rejected _ (by simp [takeSetPrice, h])

end Sys2Proof.Machine

/-!
The price and amount arithmetic (chapter 6): what the step of a price, price-at and the amounts of a purchase are, and the
obligations about the descent (R119 to R123) and about the amounts and the credit comparison (R124 to R128).
-/

namespace Sys2Proof.Machine

/-! ## The descent (R119, R120) -/

/-- Under a valid step table no tick leaves the price as it is, for a price without a band as well. -/
theorem one_le_stepOf {v : Vector Band 8} (hv : stepsOk v) (price : Nat) : 1 ≤ stepOf v price := by
  obtain ⟨hband, -, -⟩ := hv
  rw [stepOf]
  cases hb : bandOf v price with
  | none => exact Nat.le_refl 1
  | some b =>
    obtain ⟨-, -, hstep, -⟩ := hband b (List.mem_of_find?_eq_some hb)
    exact hstep

/-- The descent in natural numbers: the signed difference of R120 is never written out. -/
theorem descend_eq_max (v : Vector Band 8) (price floor : Nat) :
    descend v price floor = max floor (price - stepOf v price) := by
  rw [descend]
  split_ifs <;> omega

/-! ## Price-at (R122) -/

@[simp] theorem priceAt_nil (t : Nat) : priceAt [] t = 0 := rfl

/-- The oldest entry gives the price only where no later entry is at or before the time: it is then either the newest such
entry itself or the oldest one that stands in for it. -/
theorem priceAt_cons (e : TickRec) (h : List TickRec) (t : Nat) :
    priceAt (e :: h) t = if ∃ x ∈ h, x.runTime ≤ t then priceAt h t else e.price := by
  cases hlast : (h.filter fun x => x.runTime ≤ t).getLast? with
  | none =>
    have hnil := List.getLast?_eq_none_iff.mp hlast
    have hno : ¬ ∃ x ∈ h, x.runTime ≤ t := by simpa using hnil
    rw [if_neg hno, priceAt, List.filter_cons, hnil]
    split_ifs <;> rfl
  | some y =>
    obtain ⟨hy, hyt⟩ := List.mem_filter.mp (List.mem_of_getLast? hlast)
    rw [if_pos ⟨y, hy, of_decide_eq_true hyt⟩, priceAt, priceAt, hlast, List.filter_cons]
    split_ifs
    · rw [List.getLast?_cons, hlast]; rfl
    · rw [hlast]

theorem priceAt_cons_of_later {e : TickRec} {h : List TickRec} {t : Nat} (hl : ∀ x ∈ h, t < x.runTime) :
    priceAt (e :: h) t = e.price :=
  (priceAt_cons e h t).trans (if_neg fun ⟨x, hx, hxt⟩ => Nat.not_lt.mpr hxt (hl x hx))

theorem priceAt_cons_of_mem {e x : TickRec} {h : List TickRec} {t : Nat} (hx : x ∈ h) (hxt : x.runTime ≤ t) :
    priceAt (e :: h) t = priceAt h t :=
  (priceAt_cons e h t).trans (if_pos ⟨x, hx, hxt⟩)

theorem priceAt_le {h : List TickRec} {p : Nat} (hp : ∀ x ∈ h, x.price ≤ p) (t : Nat) : priceAt h t ≤ p := by
  induction h with
  | nil => exact Nat.zero_le p
  | cons e h ih =>
    obtain ⟨he, hh⟩ := List.forall_mem_cons.mp hp
    rw [priceAt_cons]
    split_ifs
    · exact ih hh
    · exact he

theorem priceAt_antitone {h : List TickRec} (hp : h.Pairwise fun a b => b.price ≤ a.price) {t t' : Nat} (ht : t ≤ t') :
    priceAt h t' ≤ priceAt h t := by
  induction h with
  | nil => exact Nat.le_refl 0
  | cons e h ih =>
    obtain ⟨hfirst, hrest⟩ := List.pairwise_cons.mp hp
    by_cases hx : ∃ x ∈ h, x.runTime ≤ t
    · obtain ⟨x, hx, hxt⟩ := hx
      rw [priceAt_cons_of_mem hx hxt, priceAt_cons_of_mem hx (hxt.trans ht)]
      exact ih hrest
    · rw [priceAt_cons e h t, if_neg hx]
      exact priceAt_le (List.forall_mem_cons.mpr ⟨Nat.le_refl _, hfirst⟩) t'

theorem priceAt_newest (pre post : List TickRec) {e : TickRec} {t : Nat} (he : e.runTime ≤ t)
    (hpost : ∀ x ∈ post, t < x.runTime) : priceAt (pre ++ e :: post) t = e.price := by
  induction pre with
  | nil => exact priceAt_cons_of_later hpost
  | cons a pre ih => exact (priceAt_cons_of_mem (List.mem_append_right pre List.mem_cons_self) he).trans ih

/-! ## The amounts of a purchase (R124 to R126) -/

theorem amounts_goods_pos {u s p : Nat} (hu : 1 ≤ u) (hs : 1 ≤ s) (hp : 1 ≤ p) (f c : Nat) :
    1 ≤ (amounts u s p f c).goods := Nat.mul_pos (Nat.mul_pos hu hs) hp

theorem amounts_goods_le {u s p : Nat} (hu : u ≤ 255) (hs : s ≤ 500) (hp : p ≤ 9999) (f c : Nat) :
    (amounts u s p f c).goods ≤ 1274872500 := Nat.mul_le_mul (Nat.mul_le_mul hu hs) hp

theorem amounts_container_le {u c : Nat} (hu : u ≤ 255) (hc : c ≤ 9999) (s p f : Nat) :
    (amounts u s p f c).container ≤ 2549745 := Nat.mul_le_mul hu hc

theorem amounts_fee_eq (u s p f c : Nat) :
    (amounts u s p f c).fee = ((amounts u s p f c).goods * f + 500) / 1000 := rfl

/-- The fee is the exact fee to the nearest cent, a half rounded up (R125). -/
theorem amounts_fee_nearest (u s p f c : Nat) : let a := amounts u s p f c
    a.goods * f ≤ 1000 * a.fee + 499 ∧ 1000 * a.fee ≤ a.goods * f + 500 := by
  intro a
  have hfee : a.fee = (a.goods * f + 500) / 1000 := amounts_fee_eq u s p f c
  omega

theorem amounts_fee_le {u s p f c : Nat} (hg : (amounts u s p f c).goods ≤ 1274872500) (hf : f ≤ 100) :
    (amounts u s p f c).fee ≤ 127487250 := by
  have hprod : (amounts u s p f c).goods * f ≤ 1274872500 * 100 := Nat.mul_le_mul hg hf
  rw [amounts_fee_eq]
  omega

theorem amounts_total_eq (u s p f c : Nat) : let a := amounts u s p f c
    a.total = a.goods + a.fee + a.container := rfl

/-- The credit comparison is that of the line total with the available amount, signed (R128). -/
theorem Buyer.creditOk_iff (b : Buyer) (total : Nat) : b.creditOk total = true ↔ (total : Int) ≤ b.available := by
  rw [Buyer.creditOk, decide_eq_true_eq, Buyer.available]
  omega

/-! ## The obligations -/

/-- Settles O47: the descent is the greater of the floor and the price less a step of at least 1, and price-at is read off
the history entry by entry. -/
theorem pricesDescendWithinTheLot : Obligations.PricesDescendWithinTheLot := by
  refine ⟨fun v price floor hv hf _ => ?_, fun h t t' ht hp => priceAt_antitone (hp.imp And.right) ht,
    fun pre post e t he hpost => priceAt_newest pre post he hpost,
    fun rest e t hl => priceAt_cons_of_later (List.forall_mem_cons.mp hl).2⟩
  have hstep := one_le_stepOf hv price
  rw [descend_eq_max]
  omega

/-- Settles O48: the products are bounded factor by factor, and the sums follow. -/
theorem amountsStayInRange : Obligations.AmountsStayInRange := by
  intro units stems price rate charge hu hu' hs hs' hp hp' hr hc a
  have hgoods : a.goods ≤ 1274872500 := amounts_goods_le hu' hs' hp' rate charge
  have hfee : a.fee ≤ 127487250 := amounts_fee_le hgoods hr
  have hcont : a.container ≤ 2549745 := amounts_container_le hu' hc stems price rate
  have htotal : a.total = a.goods + a.fee + a.container := amounts_total_eq ..
  obtain ⟨hdown, hup⟩ : a.goods * rate ≤ 1000 * a.fee + 499 ∧ 1000 * a.fee ≤ a.goods * rate + 500 :=
    amounts_fee_nearest ..
  have hsum : a.total ≤ 1404909495 := by omega
  refine ⟨rfl, amounts_goods_pos hu hs hp rate charge, hgoods, hdown, hup, hfee, rfl, hcont, htotal, hsum, fun b hb => ?_⟩
  exact ⟨by omega, b.creditOk_iff a.total⟩

end Sys2Proof.Machine

/-!
The Clock Engine's STEP TABLE (R117, R118): its tests as searches of the payload's bands, the table and the reply bytes of
the payload, and the obligation about the command.
-/

namespace Sys2Proof.Machine

/-! ## The tests of the bands (R118) -/

theorem firstBand_eq_findIdx? (bad : Band → Bool) (bs : List Band) (k : Nat) :
    firstBand bad bs k = (bs.findIdx? bad).map (· + k) := by
  induction bs generalizing k with
  | nil => rfl
  | cons b bs ih =>
    rw [firstBand, List.findIdx?_cons]
    split_ifs with hb
    · simp
    · rw [ih, Option.map_map]
      congr 1
      funext i
      simp only [Function.comp_apply]
      omega

theorem firstDrop_eq_findIdx? (bs : List Band) (k : Nat) :
    firstDrop bs k = ((bs.zip bs.tail).findIdx? fun x => x.2.top < x.1.top).map (· + (k + 1)) := by
  induction bs, k using firstDrop.induct with
  | case1 a b bs k hdrop => simp [firstDrop, List.findIdx?_cons, hdrop]
  | case2 a b bs k hdrop ih =>
    rw [firstDrop, if_neg hdrop, ih]
    simp only [List.tail_cons, List.zip_cons_cons, List.findIdx?_cons, hdrop, decide_false, Bool.false_eq_true, if_false,
      Option.map_map]
    congr 1
    funext i
    simp only [Function.comp_apply]
    omega
  | case3 bs k hshort =>
    rcases bs with _ | ⟨a, _ | ⟨b, bs⟩⟩
    · rfl
    · rfl
    · exact absurd rfl (hshort a b bs)

/-! ## The bands of a payload (R118) -/

@[simp] theorem BandDecl.band_top (b : BandDecl) : (BandDecl.band b).top = b.top.toNat := rfl
@[simp] theorem BandDecl.band_step (b : BandDecl) : (BandDecl.band b).step = max 1 b.step.toNat := rfl

/-- The bytes of a band as stored: its top as sent, and its step with 0 shown as 1. -/
theorem BandDecl.band_bytes (b : BandDecl) : (BandDecl.band b).bytes = split2 b.top ++ [if b.step = 0 then 1 else b.step] := by
  have hstep : BitVec.ofNat 8 (max 1 b.step.toNat) = if b.step = 0 then 1 else b.step := by
    split_ifs with h
    · simp [h]
    · have hpos : 1 ≤ b.step.toNat := Nat.pos_of_ne_zero fun h0 => h (BitVec.eq_of_toNat_eq h0)
      rw [max_eq_right hpos, BitVec.ofNat_toNat, BitVec.setWidth_eq]
  rw [Band.bytes, num1, num2, BandDecl.band_top, BandDecl.band_step, hstep, BitVec.ofNat_toNat, BitVec.setWidth_eq]

/-- The step table of a payload's bands. -/
def declaredSteps (bs : List BandDecl) : Vector Band 8 :=
  Vector.ofFn fun i : Fin 8 => (bs.map BandDecl.band).getD i.val { top := 0, step := 0 }

section
variable {bs : List BandDecl} (hl : bs.length = 8)
include hl

theorem toList_declaredSteps : (declaredSteps bs).toList = bs.map BandDecl.band := by
  refine List.ext_getElem (by simp [hl]) fun i hi hi' => ?_
  simp only [declaredSteps, Vector.getElem_toList, Vector.getElem_ofFn]
  rw [List.getD_eq_getElem _ _ hi']

theorem eightBands_eq : eightBands bs = some (declaredSteps bs) := by
  have hsize : (bs.map BandDecl.band).toArray.size = 8 := by simp [hl]
  rw [eightBands, dif_pos hsize, Option.some_inj, ← Vector.toList_inj, toList_declaredSteps hl]
  rfl

theorem declaredSteps_last : (declaredSteps bs)[7].top = 9999 ↔ bs.getLast?.map (·.top) = some 9999 := by
  have hlast : (declaredSteps bs)[7].top = bs[7].top.toNat := by
    simp [declaredSteps, hl]
  have hget : bs.getLast? = some bs[7] := by
    simp [List.getLast?_eq_getElem?, hl]
  rw [hlast, hget, Option.map_some, Option.some_inj, ← BitVec.toNat_inj]
  rfl

/-- The number of the band that fails: the first with a top out of range, or else the first below the one before it, or else
band 8 (R118). -/
theorem bandFailure_declaredSteps : bandFailure (declaredSteps bs) =
    ((bs.findIdx? fun b => b.top = 0 ∨ 9999 < b.top.toNat).map (· + 1)).or
      ((((bs.zip bs.tail).findIdx? fun x => x.2.top.toNat < x.1.top.toNat).map (· + 2)).or
        (if bs.getLast?.map (·.top) ≠ some 9999 then some 8 else none)) := by
  have htop : firstBand (fun b => decide (b.top = 0 ∨ 9999 < b.top)) (declaredSteps bs).toList 1 =
      (bs.findIdx? fun b => b.top = 0 ∨ 9999 < b.top.toNat).map (· + 1) := by
    rw [firstBand_eq_findIdx?, toList_declaredSteps hl, List.findIdx?_map]
    congr 2
    funext b
    exact decide_eq_decide.mpr (or_congr (BitVec.toNat_inj (x := b.top) (y := 0)) Iff.rfl)
  have hdrop : firstDrop (declaredSteps bs).toList 1 =
      ((bs.zip bs.tail).findIdx? fun x => x.2.top.toNat < x.1.top.toNat).map (· + 2) := by
    rw [firstDrop_eq_findIdx?, toList_declaredSteps hl, ← List.map_tail, List.zip_map, List.findIdx?_map]
    rfl
  rw [bandFailure, htop, hdrop]
  cases bs.findIdx? fun b => b.top = 0 ∨ 9999 < b.top.toNat with
  | some i => rfl
  | none =>
    cases (bs.zip bs.tail).findIdx? fun x => x.2.top.toNat < x.1.top.toNat with
    | some i => rfl
    | none => simp only [declaredSteps_last hl, ne_eq, ite_not, Option.map_none, Option.none_or]

end

/-! ## The command on a desk port that listens -/

theorem Clock.busy_iff (c : Clock) : c.busy = true ↔ c.state = .running ∨ c.state = .contest := by simp [Clock.busy]

theorem exec_stepTable (bs : List BandDecl) (s : State) (hb : bs.length = 8) (hl : s.listens .desk = true) :
    exec (.stepTable .desk bs) s = .next ((s.frameTaken .desk).takeOn .desk (takeStepTable bs)) :=
  exec_taken (.stepTable .desk bs) s .desk 0x4A (bandsBytes bs) [.desk] rfl rfl rfl (by simp [Instr.wellFormed, hb]) hl

section
variable {bs : List BandDecl} (hb : bs.length = 8) (s : State)
include hb

theorem takeStepTable_busy (h : s.clock.state = .running ∨ s.clock.state = .contest) :
    takeStepTable bs s = refuse s .busy := by
  rw [takeStepTable, eightBands_eq hb]
  exact if_pos (s.clock.busy_iff.mpr h)

theorem takeStepTable_range (h : ¬ (s.clock.state = .running ∨ s.clock.state = .contest)) {k : Nat}
    (hk : bandFailure (declaredSteps bs) = some k) :
    takeStepTable bs s = (s, { status := .range, payload := [BitVec.ofNat 8 k] }) := by
  simp only [takeStepTable, eightBands_eq hb, s.clock.busy_iff, h, hk, num1, if_false]

theorem takeStepTable_stored (h : ¬ (s.clock.state = .running ∨ s.clock.state = .contest))
    (hk : bandFailure (declaredSteps bs) = none) :
    takeStepTable bs s = (s.onClock fun c => { c with steps := declaredSteps bs },
      Reply.done (bs.flatMap fun b => split2 b.top ++ [if b.step = 0 then 1 else b.step])) := by
  have hbytes : fixed Band.bytes (declaredSteps bs).toList =
      bs.flatMap fun b => split2 b.top ++ [if b.step = 0 then 1 else b.step] := by
    rw [fixed, toList_declaredSteps hb, List.flatMap_map]
    exact congrArg (bs.flatMap ·) (funext BandDecl.band_bytes)
  simp only [takeStepTable, eightBands_eq hb, s.clock.busy_iff, h, hk, hbytes, if_false]

end

/-! ## The obligation -/

/-- Settles O36: BUSY first, then the bands' tests in their order, and the table stored where none fails. -/
theorem stepTableIsChecked : Obligations.StepTableIsChecked := by
  intro s bs hl hb
  rw [exec_stepTable bs s hb hl]
  congr 1
  extract_lets range bands
  have hfail := bandFailure_declaredSteps hb
  have hrange {k : Nat} (h : ¬ (s.clock.state = .running ∨ s.clock.state = .contest))
      (hk : bandFailure (declaredSteps bs) = some k) : (s.frameTaken .desk).takeOn .desk (takeStepTable bs) = range k := by
    rw [State.takeOn, takeStepTable_range hb (s.frameTaken .desk) h hk]
    rfl
  by_cases hbusy : s.clock.state = .running ∨ s.clock.state = .contest
  · rw [if_pos hbusy]
    exact s.takeOn_refuse _ _ _ (takeStepTable_busy hb (s.frameTaken .desk) hbusy)
  rw [if_neg hbusy]
  split
  next i _ htop => exact hrange hbusy (by rw [hfail, htop]; rfl)
  next i htop hdrop => exact hrange hbusy (by rw [hfail, htop, hdrop]; rfl)
  next htop hdrop =>
    rw [htop, hdrop] at hfail
    split_ifs with hlast
    · exact hrange hbusy (hfail.trans (if_pos hlast))
    · rw [State.takeOn, takeStepTable_stored hb (s.frameTaken .desk) hbusy (hfail.trans (if_neg hlast))]
      rfl

end Sys2Proof.Machine

/-!
The Account Store's settings SET LIMIT, SET FEE, SUSPEND, REINSTATE, PAYMENT and DAY CLOSE (R154 to R156, R159, R160): the one
form they share, what a command of that form leaves, and the obligation about them.
-/

namespace Sys2Proof.Machine

/-! ## A setting of one buyer -/

/-- An owner's answer that turns buyer `n`'s record `b` into `change b` and replies `reply b`, and refuses an absent buyer with
NOT_FOUND. -/
structure SetsBuyer (take : State → Taken) (n : Nat) (change : Buyer → Buyer) (reply : Buyer → Bytes) : Prop where
  absent  : ∀ s : State, s.accounts.buyers.get n = none → take s = refuse s .notFound
  present : ∀ (s : State) (b : Buyer), s.accounts.buyers.get n = some b →
    ∃ f, take s = (s.onBuyer n f, Reply.done (reply b)) ∧ f b = change b

theorem takeSetLimit_setsBuyer (n limit : Nat) :
    SetsBuyer (takeSetLimit n limit) n (fun b => { b with limit := min limit 2000000000 })
      fun b => num4 (min limit 2000000000) ++
        signed4 ((min limit 2000000000 : Nat) - (b.pendingSum : Int) - (b.owed : Int)) where
  absent s h := by rw [takeSetLimit, h]
  present s b h := ⟨_, by rw [takeSetLimit, h]; rfl, rfl⟩

theorem takeSetFee_setsBuyer (n fee : Nat) :
    SetsBuyer (takeSetFee n fee) n (fun b => { b with fee := min fee 100 }) fun _ => num1 (min fee 100) where
  absent s h := by rw [takeSetFee, h]
  present s b h := ⟨_, by rw [takeSetFee, h]; rfl, rfl⟩

theorem takeBuyerState_setsBuyer (n : Nat) (st : BuyerState) :
    SetsBuyer (takeBuyerState n st) n (fun b => { b with state := st }) fun _ => num1 st.code where
  absent s h := by rw [takeBuyerState, h]
  present s b h := ⟨_, by rw [takeBuyerState, h], rfl⟩

theorem takePayment_setsBuyer (n amount : Nat) :
    SetsBuyer (takePayment n amount) n (fun b => { b with owed := b.owed - min amount b.owed })
      fun b => num4 (min amount b.owed) ++ num4 (amount - min amount b.owed) ++ num4 (b.owed - min amount b.owed) where
  absent s h := by rw [takePayment, h]
  present s b h := ⟨_, by rw [takePayment, h], rfl⟩

theorem takeDayClose_setsBuyer (n : Nat) :
    SetsBuyer (takeDayClose n) n (fun b => { b with dayTotal := 0, dayCount := 0 })
      fun b => num4 b.dayTotal ++ num2 b.dayCount where
  absent s h := by rw [takeDayClose, h]
  present s b h := ⟨_, by rw [takeDayClose, h], rfl⟩

/-! ## The command on an accounts port that listens -/

/-- A command of the accounts role alone, on a port that listens, is taken by its owner (R197). -/
theorem exec_accounts (i : Instr) {s : State} {code : Byte} {payload : Bytes} (hf : frameOf i = some (.accounts, code, payload))
    (hr : rolesOf code = some [.accounts]) (hw : i.wellFormed = true) (hl : s.listens .accounts = true) :
    exec i s = .next ((s.frameTaken .accounts).takeOn .accounts (takeCommand i)) :=
  exec_taken i s .accounts code payload [.accounts] hf hr rfl hw hl

/-- `u` is `s` with buyer `n`'s record `b'` and the reply `reply` given on the accounts port, and nothing else changed. -/
def State.BuyerSet (s u : State) (n : Nat) (b' : Buyer) (reply : Bytes) : Prop :=
  u.accounts.buyers.get n = some b' ∧
  (∀ m, m ≠ n → u.accounts.buyers.get m = s.accounts.buyers.get m) ∧
  u.accounts.buyers.length = s.accounts.buyers.length ∧
  u.ports = (s.replied .accounts (Reply.done reply)).ports ∧
  u = { s with accounts := { s.accounts with buyers := u.accounts.buyers }, ports := u.ports }

theorem State.buyerSet_onBuyer {s : State} {n : Nat} {b : Buyer} (hb : s.accounts.buyers.get n = some b) (f : Buyer → Buyer)
    (reply : Bytes) :
    s.BuyerSet (((s.frameTaken .accounts).onBuyer n f).giveReply .accounts (Reply.done reply)) n (f b) reply := by
  refine ⟨?_, fun m hm => ?_, ?_, rfl, rfl⟩
  · simp [hb]
  · simp [Tbl.get_modify_ne _ _ hm]
  · simp

section
variable {take : State → Taken} {n : Nat} {change : Buyer → Buyer} {reply : Buyer → Bytes}
  (h : SetsBuyer take n change reply) {i : Instr} {s : State}
  (he : exec i s = .next ((s.frameTaken .accounts).takeOn .accounts take))
include h he

theorem SetsBuyer.exec_absent (hb : s.accounts.buyers.get n = none) :
    exec i s = .next (s.rejected .accounts .notFound) :=
  he.trans (s.takeOn_rejected .accounts (h.absent _ hb))

theorem SetsBuyer.exec_present {b : Buyer} (hb : s.accounts.buyers.get n = some b) :
    ∃ u, exec i s = .next u ∧ s.BuyerSet u n (change b) (reply b) := by
  obtain ⟨f, htake, hf⟩ := h.present (s.frameTaken .accounts) b hb
  refine ⟨_, he, ?_⟩
  rw [State.takeOn, htake, ← hf]
  exact State.buyerSet_onBuyer hb f _

end

/-! ## The obligation -/

/-- Settles O51: every command is a setting of one buyer, and such a command changes that buyer's record alone or is refused. -/
theorem accountSettings : Obligations.AccountSettings := by
  intro s n hl
  have limit l := exec_accounts (.setLimit .accounts n l) rfl rfl rfl hl
  have fee f := exec_accounts (.setFee .accounts n f) rfl rfl rfl hl
  have suspend := exec_accounts (.suspend .accounts n) rfl rfl rfl hl
  have reinstate := exec_accounts (.reinstate .accounts n) rfl rfl rfl hl
  have payment a := exec_accounts (.payment .accounts n a) rfl rfl rfl hl
  have dayClose := exec_accounts (.dayClose .accounts n) rfl rfl rfl hl
  cases hb : s.accounts.buyers.get n.toNat with
  | none =>
    exact ⟨fun l => (takeSetLimit_setsBuyer ..).exec_absent (limit l) hb,
      fun f => (takeSetFee_setsBuyer ..).exec_absent (fee f) hb,
      (takeBuyerState_setsBuyer ..).exec_absent suspend hb,
      (takeBuyerState_setsBuyer ..).exec_absent reinstate hb,
      fun a => (takePayment_setsBuyer ..).exec_absent (payment a) hb,
      (takeDayClose_setsBuyer ..).exec_absent dayClose hb⟩
  | some b =>
    exact ⟨fun l => (takeSetLimit_setsBuyer ..).exec_present (limit l) hb,
      fun f => (takeSetFee_setsBuyer ..).exec_present (fee f) hb,
      (takeBuyerState_setsBuyer ..).exec_present suspend hb,
      (takeBuyerState_setsBuyer ..).exec_present reinstate hb,
      fun a => (takePayment_setsBuyer ..).exec_present (payment a) hb,
      (takeDayClose_setsBuyer ..).exec_present dayClose hb⟩

end Sys2Proof.Machine

/-!
The Purchase Log's POST (R172 to R174): what a raised event adds to the events held, what a posted record leaves in its lot and
its buyer (R18, R19, R157), the removal of the head with LOGFULL (R171), and the obligation about the command.
-/

namespace Sys2Proof.Machine

/-! ## The events held after one is raised (R199) -/

/-- Two kinds of one port have different bits: a fact about each pair of the eighteen kinds of R199. -/
theorem Event.mask_and_mask {e f : Event} (hr : f.role = e.role) (hne : e ≠ f) : f.mask &&& e.mask = 0#8 := by
  revert hr hne
  cases e <;> cases f <;> decide

theorem State.holds_raise_ne (s : State) {e f : Event} (hne : e ≠ f) : (s.raise f).holds e = s.holds e := by
  by_cases hr : f.role = e.role
  · have hp : ((s.raise f).port e.role).events = (s.port e.role).events ||| f.mask := by
      rw [← hr, State.raise_eq, State.port_onPort_self, Port.raiseBits]
    rw [State.holds, State.holds, hp, BitVec.and_or_distrib_right, Event.mask_and_mask hr hne, BitVec.or_zero]
  · rw [State.holds, State.holds, State.raise_port_ne s hr]

/-- A raise adds its own kind to the kinds held, and no other. -/
theorem State.holds_raise_eq (s : State) (e f : Event) : (s.raise f).holds e = (s.holds e || decide (e = f)) := by
  by_cases h : e = f
  · subst h; simp [State.holds_raise_self]
  · simp [State.holds_raise_ne s h, h]

@[simp] theorem State.frameTaken_holds (s : State) (p : Role) (e : Event) : (s.frameTaken p).holds e = s.holds e := by
  by_cases h : p = e.role
  · subst h; simp [State.holds]
  · simp only [State.holds, State.frameTaken, State.port_onPort_ne _ _ h]

@[simp] theorem State.reface_port (s : State) (p : Role) : s.reface.port p = s.port p := rfl
@[simp] theorem State.reface_holds (s : State) (e : Event) : s.reface.holds e = s.holds e := rfl

/-! ## A posted record's lot (R18, R19) -/

theorem Lot.freeable_iff (l : Lot) : l.freeable = true ↔ l.state = .closed ∧ l.train = none ∧ l.pendingCount = 0 := by
  simp [Lot.freeable, and_assoc]

/-- The freeing test of an absent lot does nothing. -/
theorem LotStore.freeTest_absent {ls : LotStore} {n : Nat} (h : ls.lots.get n = none) : ls.freeTest n = ls := by
  simp only [LotStore.freeTest, h]

@[simp] theorem LotStore.freeTest_queue (ls : LotStore) (n : Nat) : (ls.freeTest n).queue = ls.queue := by
  unfold LotStore.freeTest; split
  · split <;> rfl
  · rfl

@[simp] theorem LotStore.posted_trains (ls : LotStore) (n : Nat) : (ls.posted n).trains = ls.trains := by
  simp [LotStore.posted]

@[simp] theorem LotStore.posted_queue (ls : LotStore) (n : Nat) : (ls.posted n).queue = ls.queue :=
  LotStore.freeTest_queue ..

/-- A posted record takes 1 from its lot's count, and frees a CLOSED lot off the rail that no other record holds. -/
theorem LotStore.get_posted_self (ls : LotStore) (n : Nat) : (ls.posted n).lots.get n =
    (ls.lots.get n).bind fun l =>
      if l.state = .closed ∧ l.train = none ∧ l.pendingCount - 1 = 0 then none
      else some { l with pendingCount := l.pendingCount - 1 } := by
  rw [LotStore.posted]
  cases h : ls.lots.get n with
  | none => rw [LotStore.freeTest_absent] <;> simp [h]
  | some l =>
    rw [LotStore.get_freeTest_self _ (by rw [LotStore.onLot_lots, Tbl.get_modify_self, h, Option.map_some])]
    simp only [Lot.freeable_iff, Option.bind_some]

theorem LotStore.get_posted_ne (ls : LotStore) {n m : Nat} (h : m ≠ n) : (ls.posted n).lots.get m = ls.lots.get m := by
  rw [LotStore.posted, LotStore.get_freeTest_ne _ h, LotStore.onLot_lots, Tbl.get_modify_ne _ _ h]

/-! ## A posted record's sums (R173, R174) -/

/-- Settling a record reaches the lot table and the buyer table alone. -/
theorem State.settleRecord_eq (s : State) (r : Purchase) : s.settleRecord r =
    { s with
      lots := if r.state = .pending ∧ r.carried = false then s.lots.posted r.lot else s.lots
      accounts := if r.state = .pending then s.accounts.onBuyer r.buyer fun b => b.posted r.total else s.accounts } := by
  unfold State.settleRecord
  cases hs : r.state with
  | void => simp
  | pending => cases hc : r.carried <;> simp [State.onLots, State.onBuyer]

@[simp] theorem State.settleRecord_lastRefusal (s : State) (r : Purchase) :
    (s.settleRecord r).accounts.lastRefusal = s.accounts.lastRefusal := by
  rw [State.settleRecord_eq]; dsimp only; split_ifs <;> rfl
@[simp] theorem State.settleRecord_trains (s : State) (r : Purchase) :
    (s.settleRecord r).lots.trains = s.lots.trains := by
  rw [State.settleRecord_eq]; dsimp only; split_ifs <;> simp
@[simp] theorem State.settleRecord_queue (s : State) (r : Purchase) : (s.settleRecord r).lots.queue = s.lots.queue := by
  rw [State.settleRecord_eq]; dsimp only; split_ifs <;> simp
@[simp] theorem State.settleRecord_log (s : State) (r : Purchase) : (s.settleRecord r).log = s.log := by
  rw [State.settleRecord_eq]
@[simp] theorem State.settleRecord_clock (s : State) (r : Purchase) : (s.settleRecord r).clock = s.clock := by
  rw [State.settleRecord_eq]
@[simp] theorem State.settleRecord_scan (s : State) (r : Purchase) : (s.settleRecord r).scan = s.scan := by
  rw [State.settleRecord_eq]
@[simp] theorem State.settleRecord_rail (s : State) (r : Purchase) : (s.settleRecord r).rail = s.rail := by
  rw [State.settleRecord_eq]
@[simp] theorem State.settleRecord_drive (s : State) (r : Purchase) : (s.settleRecord r).drive = s.drive := by
  rw [State.settleRecord_eq]
@[simp] theorem State.settleRecord_inputs (s : State) (r : Purchase) : (s.settleRecord r).inputs = s.inputs := by
  rw [State.settleRecord_eq]
@[simp] theorem State.settleRecord_port (s : State) (r : Purchase) (p : Role) :
    (s.settleRecord r).port p = s.port p := by
  rw [State.settleRecord_eq]; rfl
@[simp] theorem State.settleRecord_holds (s : State) (r : Purchase) (e : Event) :
    (s.settleRecord r).holds e = s.holds e := by
  simp [State.holds]

/-- The total of a PENDING record moves from pending to owed and into the day figures of the record's buyer alone. -/
theorem State.get_settleRecord_buyers (s : State) (r : Purchase) (n : Nat) :
    (s.settleRecord r).accounts.buyers.get n = (s.accounts.buyers.get n).map fun b =>
      if r.state = .pending ∧ r.buyer = n then b.posted r.total else b := by
  rw [State.settleRecord_eq]
  by_cases hp : r.state = .pending
  · by_cases hn : r.buyer = n
    · simp [hp, hn, Accounts.onBuyer]
    · simp [hp, hn, Accounts.onBuyer, Tbl.get_modify_ne _ _ (Ne.symm hn)]
  · simp [hp]

/-- A PENDING record that is not carried takes its count from its own lot alone. -/
theorem State.get_settleRecord_lots (s : State) (r : Purchase) (n : Nat) :
    (s.settleRecord r).lots.lots.get n =
      if r.state = .pending ∧ r.carried = false ∧ r.lot = n then (s.lots.posted n).lots.get n
      else s.lots.lots.get n := by
  rw [State.settleRecord_eq]
  by_cases hp : r.state = .pending ∧ r.carried = false
  · by_cases hn : r.lot = n
    · simp [hp, hn]
    · simp [hp, hn, LotStore.get_posted_ne _ (Ne.symm hn)]
  · have hp' : ¬ (r.state = .pending ∧ r.carried = false ∧ r.lot = n) := fun ⟨hs, hc, _⟩ => hp ⟨hs, hc⟩
    simp only [if_neg hp, if_neg hp']

/-! ## The removal of the head (R171, R173) -/

/-- Removing the head reaches the log and the ports alone. -/
theorem State.dropHead_eq (s : State) :
    s.dropHead = { s with log := { s.log with records := s.log.records.tail }, ports := s.dropHead.ports } := by
  unfold State.dropHead; dsimp only; split <;> rfl

@[simp] theorem State.dropHead_lots (s : State) : s.dropHead.lots = s.lots := by rw [State.dropHead_eq]
@[simp] theorem State.dropHead_accounts (s : State) : s.dropHead.accounts = s.accounts := by rw [State.dropHead_eq]
@[simp] theorem State.dropHead_clock (s : State) : s.dropHead.clock = s.clock := by rw [State.dropHead_eq]
@[simp] theorem State.dropHead_scan (s : State) : s.dropHead.scan = s.scan := by rw [State.dropHead_eq]
@[simp] theorem State.dropHead_rail (s : State) : s.dropHead.rail = s.rail := by rw [State.dropHead_eq]
@[simp] theorem State.dropHead_drive (s : State) : s.dropHead.drive = s.drive := by rw [State.dropHead_eq]
@[simp] theorem State.dropHead_inputs (s : State) : s.dropHead.inputs = s.inputs := by rw [State.dropHead_eq]
@[simp] theorem State.dropHead_log (s : State) : s.dropHead.log = { s.log with records := s.log.records.tail } := by
  rw [State.dropHead_eq]

@[simp] theorem State.dropHead_checkNow (s : State) (p : Role) : (s.dropHead.port p).checkNow = (s.port p).checkNow := by
  unfold State.dropHead; dsimp only; split
  · rw [State.raiseLogFull, State.raise_checkNow, State.raise_checkNow]; rfl
  · rfl

/-- LOGFULL on both ports is raised where the log was full, and no other event. -/
theorem State.dropHead_holds (s : State) (e : Event) : s.dropHead.holds e =
    (s.holds e || decide (s.log.records.length = 128 ∧ (e = .logFullDesk ∨ e = .logFullAccounts))) := by
  have hlog (l : Log) : ({ s with log := l } : State).holds e = s.holds e := rfl
  unfold State.dropHead
  by_cases hfull : s.log.records.length = 128
  · simp [Config.logCapacity, hfull, State.raiseLogFull, State.holds_raise_eq, Bool.or_assoc, hlog]
  · simp [Config.logCapacity, hfull, hlog]

/-! ## The command on an accounts port that listens -/

theorem exec_post (q : BitVec 32) {s : State} (hl : s.listens .accounts = true) :
    exec (.post .accounts q) s = .next ((s.frameTaken .accounts).takeOn .accounts (takePost q)) :=
  exec_accounts (.post .accounts q) rfl rfl rfl hl

theorem takePost_empty {s : State} (q : BitVec 32) (h : s.log.records = []) : takePost q s = refuse s .notFound := by
  simp only [takePost, h]

section
variable {s : State} {r : Purchase} {rest : List Purchase} (h : s.log.records = r :: rest)
include h

theorem takePost_order {q : BitVec 32} (hq : q ≠ r.seq) :
    takePost q s = (s, { status := .order, payload := split4 r.seq }) := by
  simp only [takePost, h, hq, ne_eq, not_false_eq_true, if_true]

theorem takePost_head : takePost r.seq s = ((s.settleRecord r).dropHead.reface, Reply.done (r.bytes .accounts)) := by
  simp only [takePost, h, ne_eq, not_true_eq_false, if_false]

end

/-! ## The obligation -/

/-- Settles O52: an empty log and another number are refused in this order (R172); otherwise the head is settled in its buyer
and its lot and then removed, and each record is read off the two operations. -/
theorem postTakesTheHead : Obligations.PostTakesTheHead := by
  intro s q hl
  rw [exec_post q hl]
  cases h : s.log.records with
  | nil => exact s.takeOn_rejected .accounts (takePost_empty q h)
  | cons r rest =>
    have h' : (s.frameTaken .accounts).log.records = r :: rest := h
    dsimp only
    split_ifs with hq
    · rw [State.takeOn, takePost_order h' hq]; rfl
    obtain rfl : q = r.seq := not_not.mp hq
    rw [State.takeOn, takePost_head h']
    refine ⟨_, rfl, ?_, ?_, fun k => ?_, ?_, fun n => ?_, fun n => ?_, ?_⟩
    · simp [h]
    · simp
    · simp [State.dropHead_holds, h]
    · simp
    · simp only [State.giveReply_accounts, State.reface_accounts, State.dropHead_accounts]
      exact State.get_settleRecord_buyers ..
    · simp only [State.giveReply_lots, State.reface_lots, State.dropHead_lots, ← LotStore.get_posted_self]
      exact State.get_settleRecord_lots ..
    · simp

end Sys2Proof.Machine

/-!
The commands a port owns (R200 to R203): what a poisoned window does with a command (R196), what the port does when it takes each
of its own, and the obligation about them.
-/

namespace Sys2Proof.Machine

/-! ## A command on a ready port -/

/-- In a poisoned window a whole frame is answered LINK_ERROR, whatever its command (R196). -/
theorem exec_poisoned (i : Instr) {s : State} {p : Role} {code : Byte} {payload : Bytes}
    (hf : frameOf i = some (p, code, payload)) (hw : i.wellFormed = true) (hr : (s.port p).ready = true)
    (hp : (s.port p).poisoned = true) : exec i s = .next (s.rejected p .linkError) := by
  rw [exec_command i s _ hf]
  simp only [State.commanded, hf, hr, hw, hp, and_self, if_true, State.rejected, State.replied]

theorem allRoles_contains (p : Role) : allRoles.contains p = true := by cases p <;> rfl

/-- A command of all roles, on a port that listens, is taken by its owner (R197). -/
theorem exec_allRoles (i : Instr) {s : State} {p : Role} {code : Byte} {payload : Bytes}
    (hf : frameOf i = some (p, code, payload)) (hr : rolesOf code = some allRoles) (hw : i.wellFormed = true)
    (hl : s.listens p = true) : exec i s = .next ((s.frameTaken p).takeOn p (takeCommand i)) :=
  exec_taken i s p code payload allRoles hf hr (allRoles_contains p) hw hl

/-! ## SET EVENT MASK (R200) -/

theorem takeSetEventMask_own {p : Role} {m : Byte} (s : State) (h : m &&& ~~~ kindBits p = 0) :
    takeSetEventMask p m s = (s.onPort p fun r => { r with mask := m }, Reply.done [m]) := if_neg (not_not.mpr h)

theorem takeSetEventMask_foreign {p : Role} {m : Byte} (s : State) (h : m &&& ~~~ kindBits p ≠ 0) :
    takeSetEventMask p m s = refuse s .range := if_pos h

theorem exec_setEventMask {p : Role} {s : State} (m : Byte) (hl : s.listens p = true) :
    exec (.setEventMask p m) s = .next (
      if m &&& ~~~ kindBits p = 0
      then ((s.frameTaken p).onPort p fun r => { r with mask := m }).giveReply p (Reply.done [m])
      else s.rejected p .range) := by
  rw [exec_allRoles (.setEventMask p m) rfl rfl rfl hl, takeCommand]
  split_ifs with h
  · rw [State.takeOn, takeSetEventMask_own _ h]
  · exact s.takeOn_rejected p (takeSetEventMask_foreign _ h)

/-! ## CHECK (R201) -/

theorem takeCheck_onOff (p : Role) {v : Byte} (s : State) (h : v = 0 ∨ v = 1) :
    takeCheck p v s = (s.onPort p fun r => { r with checkNext := v = 1 }, Reply.done [v]) := by
  obtain rfl | rfl := h <;> rfl

theorem takeCheck_range (p : Role) {v : Byte} (s : State) (h : ¬ (v = 0 ∨ v = 1)) :
    takeCheck p v s = refuse s .range := by
  obtain ⟨h0, h1⟩ := not_or.mp h
  simp only [takeCheck, onOffOf, h0, h1, if_false]

theorem exec_check {p : Role} {s : State} (v : Byte) (hl : s.listens p = true) :
    exec (.check p v) s = .next (
      if v = 0 ∨ v = 1 then
        ((s.frameTaken p).onPort p fun r => { r with checkNext := v = 1 }).giveReply p (Reply.done [v])
      else s.rejected p .range) := by
  rw [exec_allRoles (.check p v) rfl rfl rfl hl, takeCommand]
  split_ifs with h
  · rw [State.takeOn, takeCheck_onOff p _ h]
  · exact s.takeOn_rejected p (takeCheck_range p _ h)

/-! ## READ EVENTS and READ IDENTITY (R200, R202) -/

/-- An empty event set releases the attention line, whatever the mask (R199). -/
theorem State.attention_of_events_zero {s : State} {p : Role} (h : (s.port p).events = 0) : s.attention p = false := by
  simp [State.attention, h]

/-- The six bytes of the identity: vendor code, part code, revision and reset cause (R202). -/
theorem takeReadIdentity_eq (s : State) : takeReadIdentity s =
    (s, Reply.done [0x0D, 0x31, 0x0C, 0xA8, 0x01, if s.resetCause = .power then 0 else 1]) := by
  cases h : s.resetCause <;> simp only [takeReadIdentity, h] <;> rfl

/-! ## The obligation -/

/-- Settles O9: a poisoned window answers each command alike, and on a port that listens each is what the port does when it
takes it; the bits that name no kind of the role are written out role by role (R199). -/
theorem portOwnCommands : Obligations.PortOwnCommands := by
  intro p s
  refine ⟨fun hr hp i hi => ?_, fun hl => ⟨?_, fun m => ?_, fun v => exec_check v hl, ?_, ?_⟩⟩
  · simp only [List.mem_cons, List.not_mem_nil, or_false] at hi
    obtain (rfl | rfl | rfl) | ⟨m, rfl | rfl⟩ := hi <;> exact exec_poisoned _ rfl rfl hr hp
  · refine ⟨_, exec_allRoles (.readEvents p) rfl rfl rfl hl, State.attention_of_events_zero ?_, ?_⟩
    · simp [State.takeOn, takeCommand, takeReadEvents]
    · simp only [State.takeOn, takeCommand, takeReadEvents, State.frameTaken_events]
  · refine (exec_setEventMask m hl).trans (congrArg _ (if_congr ?_ rfl rfl))
    cases p with
    | desk => exact Iff.rfl
    | yard => simp [kindBits]
    | accounts => exact Iff.rfl
  · exact exec_allRoles (.portReset p) rfl rfl rfl hl
  · rw [exec_allRoles (.readIdentity p) rfl rfl rfl hl, State.takeOn, takeCommand, takeReadIdentity_eq]; rfl

end Sys2Proof.Machine

/-!
What a step can do, said once: every command and event is a chain of deeds, each one of the part's named operations under the
tests that let it happen. An invariant that every deed keeps is kept by every step.
-/

namespace Sys2Proof.Machine

/-! ## The deeds -/

/-- The clock emptied at the closing of its lot (R110 steps 1 to 4), whether or not it has one. -/
def State.lotOff (s : State) : State :=
  let s1 := s.onClock fun c => { c with tickTimer := none, showTimer := none, autoTimer := none }
  let s2 := match s1.clock.lot with
    | some n => s1.onLots fun ls => ls.close n
    | none => s1
  let s3 := s2.onClock fun c =>
    { c with lot := none, stopTime := none, stopPrice := none, showing := none, notedHalt := false, notedWithdraw := false,
             price := 0 }
  (s3.setClock .idle none).raise .closed

/-- A train conveyed from `a` to `b` in the rail's record and in the Lot Store's, before anyone is told (R33, R35). -/
def State.carried (s : State) (t : Option Nat) (a b : Sec) : State :=
  let s1 := s.mapRail fun r => (r.clearSec a).occupy b t
  match t with
  | some n =>
    let s2 := s1.onLots fun ls => ls.placed n b
    if b = 5 then s2.onLots fun ls => ls.present n else s2
  | none => s1

/-- One deed of the part: a named operation, with the tests that let it happen. -/
inductive Deed (s : State) : State → Prop
  /-- A port record changed within its window, or an event raised. -/
  | port (p : Role) (r : Port) (hw : r.window = (s.port p).window) (hok : (s.port p).Ok p → r.Ok p) : Deed s (s.setPort p r)
  | inputs (i : Inputs) : Deed s { s with inputs := i }
  | time (n : Nat) : Deed s (s.elapse n)
  /-- A presentation notice left to wait, or taken up. -/
  | notice (c : Choices) (w : Bool) : Deed s { s with choices := c, clock := { s.clock with noticeWaiting := w } }
  | face (f : Face) (hi : f.image = s.face.image) : Deed s { s with face := f }
  -- The Lot Store
  | declareLot (d : LotDecl) (hr : LotDecl.inRange d = true) (hn : s.lots.lots.get d.lot.toNat = none)
      (hc : s.lots.lots.length < Config.lotCapacity) :
      Deed s (s.onLots fun ls => { ls with lots := ls.lots.put d.lot.toNat (Lot.ofDecl d) })
  | dropLot (n : Nat) (l : Lot) (hn : s.lots.lots.get n = some l) (hd : l.state = .declared) :
      Deed s (s.onLots fun ls => { ls with lots := ls.lots.erase n })
  | announce (t k : Nat) (ns : List Nat) (h0 : ns ≠ []) (hl : ns.length ≤ Config.trainLots) (hns : ns.Nodup)
      (ht : s.lots.trains.get t = none) (hc : s.lots.trains.length < Config.trainCapacity)
      (hd : ∀ n ∈ ns, s.lots.isDeclared n = true) : Deed s (s.onLots fun ls => ls.announce t k ns)
  | cancel (t : Nat) (tr : Train) (ht : s.lots.trains.get t = some tr) (ha : tr.state = .announced) :
      Deed s (s.onLots fun ls => ls.cancel t tr)
  | toHead (t : Nat) (ht : s.lots.trainState t = some .announced ∨ s.lots.trainState t = some .misorder) :
      Deed s (s.onLots fun ls => ls.toHead t)
  -- Settlement
  | post (r : Purchase) (rest : List Purchase) (hr : s.log.records = r :: rest) : Deed s (s.settleRecord r).dropHead
  | void (r : Purchase) (n : BitVec 32) (hr : s.log.find n = some r) (hp : r.state = .pending) : Deed s (s.voidRecord r)
  -- Accounts
  | openAccount (n limit fee : Nat) (hn : s.accounts.buyers.get n = none)
      (hc : s.accounts.buyers.length < Config.buyerCapacity) :
      Deed s (s.onBuyers fun t => t.put n (Buyer.opened limit fee))
  | closeAccount (n : Nat) (b : Buyer) (hb : s.accounts.buyers.get n = some b) (hp : b.pendingSum = 0) (ho : b.owed = 0)
      (hs : b.seat = none) : Deed s (s.onBuyers fun t => t.erase n)
  | buyer (n : Nat) (f : Buyer → Buyer) (hs : ∀ b, (f b).seat = b.seat) (hp : ∀ b, (f b).pendingSum = b.pendingSum)
      (ho : ∀ b, (f b).owed ≤ b.owed) (hl : ∀ b, (f b).limit = b.limit ∨ (f b).limit ≤ Config.maxLimit) :
      Deed s (s.onBuyer n f)
  | refusal (x : Option Refused) : Deed s { s with accounts := { s.accounts with lastRefusal := x } }
  -- Seats and the scan
  | seat (a : SeatAddr) (x : Seat) (hb : x.buyer = s.scan.seats[a].buyer)
      (hq : x.quantity = s.scan.seats[a].quantity ∨ 1 ≤ x.quantity ∧ x.quantity ≤ 255)
      (hl : s.scan.seats[a].silence ≤ Config.maxSilence ∧
          (s.scan.seats[a].link = .offline ↔ s.scan.seats[a].silence = Config.maxSilence) →
        x.silence ≤ Config.maxSilence ∧ (x.link = .offline ↔ x.silence = Config.maxSilence)) :
      Deed s (s.onSeat a fun _ => x)
  | scan (sc : Scanner) (hs : sc.seats = s.scan.seats) (hc : sc.scanCount = s.scan.scanCount)
      (hn : sc.nextCount = s.scan.nextCount)
      (hb : s.scan.beacons.length ≤ Config.beaconCapacity → sc.beacons.length ≤ Config.beaconCapacity) :
      Deed s { s with scan := sc }
  | adopt (n : Nat) (hn : s.scan.nextCount = some n) : Deed s { s with scan := s.scan.adopt n }
  | nextCount (n : Nat) (h8 : 8 ≤ n) (hn : n ≤ 256) : Deed s { s with scan := { s.scan with nextCount := some n } }
  | unbind (a : SeatAddr) (b : Nat) (hb : s.scan.seats[a].buyer = some b) : Deed s (s.unbindSeat a b)
  | bind (a : SeatAddr) (b : Nat) (acc : Accounts) (hr : s.accounts.seatRequest a b s.scan.seats[a].buyer = some acc) :
      Deed s (({ s with accounts := acc } : State).onSeat a fun x => { x with buyer := some b, quantity := 1 })
  -- The clock
  | load (n : Nat) (hs : s.clock.state = .idle ∨ s.clock.state = .loaded) (hn : s.lots.loadStatus n = .ok) :
      Deed s (s.loadLot n)
  | segment (k : SegmentKind) (hs : s.clock.state = .loaded ∨ s.clock.state = .halted) (hf : s.logFree = true)
      (ht : s.clock.state = .loaded → s.clock.autoTimer = none) : Deed s (s.beginSegment k)
  | setting (c : Clock) (hc : c = { s.clock with tickPeriod := c.tickPeriod, showTime := c.showTime,
                                                 autoDelay := c.autoDelay, steps := c.steps })
      (ht : c.tickPeriod = s.clock.tickPeriod ∨ 2 ≤ c.tickPeriod ∧ c.tickPeriod ≤ 250)
      (hw : c.showTime = s.clock.showTime ∨ 5 ≤ c.showTime ∧ c.showTime ≤ 100)
      (hd : c.autoDelay = s.clock.autoDelay ∨ c.autoDelay ≤ 255) (hb : c.steps = s.clock.steps ∨ stepsOk c.steps) :
      Deed s { s with clock := c }
  | auto (b : Bool) (t : Timer) (ht : t.isSome → s.clock.autoTimer.isSome ∨ s.clock.state = .loaded) :
      Deed s (s.onClock fun c => { c with auto := b, autoTimer := t })
  | note (h w : Bool) (hs : s.clock.state = .showing) :
      Deed s (s.onClock fun c => { c with notedHalt := h, notedWithdraw := w })
  | price (v : Nat) (hs : s.clock.state = .loaded ∨ s.clock.state = .halted) :
      Deed s (s.onClock fun c => { c with price := s.priceSet v })
  | timers (x y z : Timer) (hx : x = s.clock.tickTimer ∨ x = none) (hy : y = s.clock.showTimer ∨ y = none)
      (hz : z = s.clock.autoTimer ∨ z = none) :
      Deed s (s.onClock fun c => { c with tickTimer := x, showTimer := y, autoTimer := z })
  | haltDesk (hs : s.clock.state = .running) (ht : s.clock.tickTimer = none) : Deed s (s.setClock .halted (some .desk))
  | haltFull (hs : s.clock.state = .loaded) (ht : s.clock.autoTimer = none) : Deed s (s.setClock .halted (some .logFull))
  | haltAfter (l : Lot) (r : HaltReason) (hl : s.curLot = some l) (hs : s.clock.state = .showing)
      (ht : s.clock.showTimer = none) (hw : s.clock.notedWithdraw = false) : Deed s (s.haltAfterShowing l r)
  | restart (l : Lot) (hl : s.curLot = some l) (hs : s.clock.state = .showing) (ht : s.clock.showTimer = none)
      (hr : l.restartsUsed ≠ l.restartLimit) (hf : s.logFree = true) : Deed s (s.restart l)
  | tick (l : Lot) (hl : s.curLot = some l) (hs : s.clock.state = .running) : Deed s (s.tickTaken l)
  | closeLot (hs : s.clock.state ≠ .idle) (hc : s.clock.state ≠ .contest) : Deed s s.lotOff
  -- The contest
  | openContest (x : Contender) (hs : s.clock.state = .running) (ht : x.time ≤ s.clock.runTime) : Deed s (s.openContest x)
  | insertPress (x : Contender) (hs : s.clock.state = .contest) (ha : ∀ y ∈ s.clock.contenders, y.seat ≠ x.seat)
      (hb : ∀ y ∈ s.clock.contenders, y.buyer ≠ x.buyer) (ht : ∀ ts, s.clock.stopTime = some ts → x.time ≤ ts) :
      Deed s (s.insertPress x)
  | closeNone (hs : s.clock.state = .contest) : Deed s s.closeNone
  | closeWon (n : Nat) (l : Lot) (x : Contender) (after : List Contender) (u p : Nat) (a : Amounts)
      (hs : s.clock.state = .contest) (hn : s.clock.lot = some n) (hl : s.lots.lots.get n = some l)
      (hw : s.examine l x = .won u p a) : Deed s (s.closeWon n x after u p a)
  -- The rail: settings, hold, jog
  | moveLimit (k : Sec) (v : Nat) (h5 : 5 ≤ v) (hv : v ≤ 255) :
      Deed s (s.mapRail fun r => r.onSec k fun x => { x with moveLimit := v })
  | gateTime (v : Nat) (h : 100 ≤ v) (hv : v ≤ 2550) : Deed s (s.mapRail fun r => { r with gateTime := v })
  | holdRail (hh : s.rail.hold = .none) : Deed s (s.mapRail fun r => { r with hold := .pending })
  | release (hj : s.rail.jog = none) : Deed s (s.mapRail fun r => { r with hold := .none })
  | jog (c : Chan) (d : Dir) (n : Nat) (hl : s.jogLocked c = false) (hh : s.rail.hold = .held)
      (hd : s.drive.latched c = false) (hj : s.rail.jog = none) :
      Deed s ((s.onRail fun w => (w.energiseAll d [c]).1).mapRail fun r =>
        { r with jog := some { chan := c, dir := d, left := n }, gate := if c = 7 then .unknown else r.gate })
  | endJog : Deed s (s.onRail RailWork.endJog)
  -- The rail: stalls and their settlement
  | stallMove (i : Fin 3) (cause : Cause) : Deed s (s.onRail fun w => w.stallMove i cause)
  | stallGate (cause : Cause) (hg : s.rail.gateMoving = true ∨ s.rail.confirmTimer.isSome) :
      Deed s (s.onRail fun w => w.stallGate cause)
  | stallEdge (k : Sec) (hk : s.rail.slotAt k = none) (hb : s.rail.secs[k].cond ≠ .blocked)
      (hg : ¬ (k = 5 ∧ s.rail.gateMoving = true)) : Deed s (s.onRail fun w => w.stallEdge k)
  | settleMove (k b : Sec) (st : Stall) (hk : s.rail.stalls[k] = some st) (hd : st.dest = some (.sec b)) :
      Deed s (s.mapRail fun r => ((r.dropStall k).occupy k st.train).clearSec b)
  | arriveMove (k b : Sec) (st : Stall) (hk : s.rail.stalls[k] = some st) (hd : st.dest = some (.sec b))
      (hl : ¬ (st.namesPresent k = true ∧ s.lots.locked = true)) (hj : s.rail.jog = none) :
      Deed s ((s.mapRail fun r => r.dropStall k).carried st.train k b)
  | settleEject (k : Sec) (st : Stall) (pend : Bool) (hk : s.rail.stalls[k] = some st) (hd : st.dest = some .out)
      (hp : pend = true → s.intakeEjectable = true) :
      Deed s (s.mapRail fun r => { (r.dropStall k).reoccupy k with ejectPending := pend })
  | resolveEject (k : Sec) (st : Stall) (hk : s.rail.stalls[k] = some st) (hd : st.dest = some .out) :
      Deed s (s.mapRail fun r => { (r.dropStall 0).reoccupy 0 with ejectPending := false })
  | emptyEject (k : Sec) (st : Stall) (hk : s.rail.stalls[k] = some st) (hd : st.dest = some .out)
      (he : s.intakeEjectable = true) : Deed s (s.mapRail fun r => r.dropStall 0).intakeEmptied
  | settleGate (k : Sec) (st : Stall) (hk : s.rail.stalls[k] = some st) (hd : st.dest = none) (hc : st.cause ≠ .sensor) :
      Deed s (s.mapRail fun r => (r.dropStall k).presentKept)
  | settleEdge (k : Sec) (st : Stall) (hk : s.rail.stalls[k] = some st) (hd : st.dest = none) (t : Nat)
      (ht : st.train = some t) : Deed s (s.mapRail fun r => (r.dropStall k).occupy k (some t))
  | unknownEdge (st : Stall) (hk : s.rail.stalls[(0 : Sec)] = some st) (hd : st.dest = none) (ht : st.train = none) :
      Deed s (s.mapRail fun r => { (r.dropStall 0).reoccupy 0 with unknownTag := some (r.unknownTag.getD 0) })
  | clearEdge (k : Sec) (st : Stall) (hk : s.rail.stalls[k] = some st) (hd : st.dest = none) (ht : st.train = none) :
      Deed s (s.mapRail fun r => (r.dropStall k).clearSec k)
  | clearSection (k : Sec) (hk : s.rail.slotAt k = none) (hb : s.rail.secs[k].cond = .blocked)
      (hn : s.rail.stallNames k = false) : Deed s (s.mapRail fun r => r.clearSec k)
  -- The rail: admission, moves, gate, departure
  | ejectPends (hc : s.rail.secs[(0 : Sec)].cond = .occupied) (he : s.intakeEjectable = true) :
      Deed s (s.mapRail fun r => { r with ejectPending := true })
  | decide (tag : Nat) (h : s.rail.adm = .waitTag ∨
      (s.rail.heldTag = some tag ∧ s.rail.secs[(0 : Sec)].cond = .clear ∧ s.rail.slotAt 0 = none) ∨
      (s.rail.unknownTag = some tag ∧ s.lots.trainState tag = some .announced)) : Deed s (s.decideAdmission tag)
  | admitHeld (t : Nat) (ht : s.lots.trainState t = some .misorder) : Deed s (s.admitAt t)
  | waitTag (hc : s.rail.secs[(0 : Sec)].cond = .clear) (hk : s.rail.slotAt 0 = none) :
      Deed s (s.mapRail fun r => { r.occupy 0 none with adm := .waitTag, heldTag := none, admTimer := some Config.tagWait })
  | holdTag (tag : Nat) (ha : s.rail.adm ≠ .waitTag) :
      Deed s (s.mapRail fun r => { r with adm := .waitPresence, heldTag := some tag, admTimer := some Config.tagWait })
  | endWait (ha : s.rail.adm ≠ .waitTag) : Deed s (s.mapRail Rail.endWait)
  | moved (i : Fin 3) (m : Move) (b : Sec) (hm : s.rail.slots[i] = some m) (hd : m.dest = .sec b) :
      Deed s (((s.onRail fun w => w.haltAll m.chans).carried m.train m.source b).mapRail fun r => r.freeMove i)
  | ejected (i : Fin 3) (m : Move) (hm : s.rail.slots[i] = some m) (hd : m.dest = .out) : Deed s (s.completeEject i m)
  | departed (t : Nat) (ht : s.leavingTrain = some t) (hk : s.rail.slotAt 6 = none) : Deed s (s.departure t)
  | gateTimer : Deed s (s.mapRail fun r => { r with gateTimer := none })
  | gateDone (hg : s.rail.gateTimer = none) : Deed s (s.mapRail Rail.completeGate)
  -- The Drive Unit
  | driveSetting (d : Drive) (hd : ∀ k : Chan, d.chans[k] =
      { s.drive.chans[k] with mode := d.chans[k].mode, gen := d.chans[k].gen, stop := d.chans[k].stop }) :
      Deed s { s with drive := d }
  | turnOver (c : Chan) : Deed s { s with drive := { s.drive with chans := s.drive.chans.set c s.drive.chans[c].turnOver } }
  | fault (c : Chan) (k : FaultKind) (hc : s.drive.latched c = false) : Deed s (s.latchFault c k)
  | relatch : Deed s (({ s with drive := s.drive.relatchAll s.inputs } : State).onRail fun w => w.reportLatched allChans)

/-- Deeds done one after another. -/
abbrev Deeds : State → State → Prop := Relation.ReflTransGen Deed

/-- One change as an event leaves it: deeds that keep the image, deeds after which the image is formed anew, or deeds after which
eligibility is examined and the image formed anew. -/
inductive Change (s : State) : State → Prop
  | quiet {x : State} (h : Deeds s x) (hi : s.ImageOk → x.ImageOk) : Change s x
  | refaced {x : State} (h : Deeds s x) : Change s x.reface
  | railDone {x : State} (h : Deeds s x) (b : State) : Change s (x.railDone b)

abbrev Changes : State → State → Prop := Relation.ReflTransGen Change

end Sys2Proof.Machine

/-!
The deeds of the port records, the clock and the presence edges, chained into the changes that events leave.
-/

namespace Sys2Proof.Machine

/-! ## Deeds on the ports -/

/-- Kinds of the port's own role raised keep its record consistent (R199). -/
theorem Port.Ok.raiseBits {p : Role} {r : Port} (h : r.Ok p) {bits : Byte} (hb : bits &&& ~~~ kindBits p = 0) :
    (r.raiseBits bits).Ok p := by
  obtain ⟨h1, h2, h3, he, h5, h6, h7, h8⟩ := h
  refine ⟨h1, h2, h3, ?_, h5, h6, h7, h8⟩
  change (r.events ||| bits) &&& ~~~ kindBits p = 0
  have hor : (r.events ||| bits) &&& ~~~ kindBits p = (r.events &&& ~~~ kindBits p) ||| (bits &&& ~~~ kindBits p) := by
    ext i; simp only [BitVec.getElem_and, BitVec.getElem_or, Bool.and_or_distrib_right]
  rw [hor, he, hb]; rfl

theorem Event.mask_foreign (e : Event) : e.mask &&& ~~~ kindBits e.role = 0 := by cases e <;> rfl

theorem Deed.raise (s : State) (e : Event) : Deed s (s.raise e) :=
  .port _ _ rfl fun h => h.raiseBits e.mask_foreign

/-- A reply given in an open window keeps the port consistent (R192, R195). -/
theorem Port.Ok.replying {p : Role} {r : Port} (h : r.Ok p) (hw : r.window = .opened) (x : Reply) :
    ({ r with phase := .reply, replyLeft := replyWords r.checkNow x } : Port).Ok p := by
  obtain ⟨h1, h2, h3, he, h5, h6, h7, h8⟩ := h
  refine ⟨⟨fun _ => ?_, fun _ => rfl⟩, fun hc => ?_, h3, he, h5, h6, h7, h8⟩
  · simp only [replyWords]; split <;> simp
  · simp [hw] at hc

theorem Deed.giveReply {s : State} {p : Role} (hw : (s.port p).window = .opened) (x : Reply) : Deed s (s.giveReply p x) :=
  .port _ _ rfl fun h => h.replying hw x

/-- A port with nothing of a frame received, data-out at 0xFF, stays consistent (R193). -/
theorem Port.Ok.cleared {p : Role} {r : Port} (h : r.Ok p) : r.cleared.Ok p := by
  obtain ⟨h1, h2, h3, he, h5, -, -, -⟩ := h
  exact ⟨h1, fun hc => ⟨rfl, (h2 hc).2⟩, h3, he, h5, by simp [Port.cleared], fun h => absurd h (by simp [Port.cleared]),
    fun e h => by cases h⟩

theorem Deed.frameTaken (s : State) (p : Role) : Deed s (s.frameTaken p) := .port _ _ rfl fun h => h.cleared

/-! ## Deeds one after another -/

theorem Change.deed {s x : State} (h : Deed s x) (hi : s.ImageOk → x.ImageOk) : Change s x := .quiet (.single h) hi

/-- A deed on which the image does not depend. -/
theorem Deed.changes {s x : State} (h : Deed s x) (hi : s.ImageOk → x.ImageOk) : Changes s x := .single (.deed h hi)
theorem Deed.refaced {s x : State} (h : Deed s x) : Changes s x.reface := .single (.refaced (.single h))
theorem Deed.railDone {s x : State} (h : Deed s x) (b : State) : Changes s (x.railDone b) := .single (.railDone (.single h) b)

theorem Deeds.refaced {s x : State} (h : Deeds s x) : Changes s x.reface := .single (.refaced h)
theorem Deeds.railDone {s x : State} (h : Deeds s x) (b : State) : Changes s (x.railDone b) := .single (.railDone h b)

/-! ## The clock's composed operations -/

theorem State.autoLoad_deeds (s : State) (h : s.clock.state = .idle ∨ s.clock.state = .loaded) : Deeds s s.autoLoad := by
  unfold State.autoLoad
  split
  · split
    · next hn => exact .single (.load _ h hn)
    · exact .refl
  · exact .refl

theorem State.presentedNotice_deeds (s : State) : Deeds s s.presentedNotice := by
  unfold State.presentedNotice
  split
  · next h => exact s.autoLoad_deeds (.inl h.1)
  · exact .refl

theorem State.tellClock_deeds (s : State) : Deeds s s.tellClock := by
  rcases s.tellClock_cases with ⟨-, h⟩ | ⟨-, h⟩ <;> rw [h]
  · exact .single (.notice _ true)
  · exact .head (.notice _ s.clock.noticeWaiting) (State.presentedNotice_deeds _)

theorem State.lotOff_state (s : State) : s.lotOff.clock.state = .idle := by simp [State.lotOff]

theorem State.closeLot_lotOff (s : State) : s.closeLot = if s.lotOff.clock.auto then s.lotOff.autoLoad else s.lotOff := rfl

theorem State.closeLot_deeds (s : State) (hs : s.clock.state ≠ .idle) (hc : s.clock.state ≠ .contest) : Deeds s s.closeLot := by
  rw [State.closeLot_lotOff]
  have h := Deed.closeLot hs hc
  split
  · exact .head h (s.lotOff.autoLoad_deeds (.inl s.lotOff_state))
  · exact .single h

theorem State.showingEnd_deeds (s : State) (hs : s.clock.state = .showing) (ht : s.clock.showTimer = none) :
    Deeds s s.showingEnd := by
  unfold State.showingEnd
  have hclose := s.closeLot_deeds (by simp [hs]) (by simp [hs])
  split
  · exact hclose
  · next l hl =>
    split_ifs with hw hh hr hf
    · exact hclose
    all_goals simp only [not_or, Bool.not_eq_true] at hw
    · exact .single (.haltAfter l .desk hl hs ht hw.1)
    · exact .single (.haltAfter l .restartLimit hl hs ht hw.1)
    · exact .single (.restart l hl hs ht hr hf)
    · exact .single (.haltAfter l .logFull hl hs ht hw.1)

theorem State.showOver_deeds (s : State) : Deeds s s.showOver := by
  unfold State.showOver
  have h : Deed s (s.onClock fun c => { c with showTimer := none }) :=
    .timers s.clock.tickTimer none s.clock.autoTimer (.inl rfl) (.inr rfl) (.inl rfl)
  dsimp only
  split
  · next hs => exact .head h (State.showingEnd_deeds _ hs rfl)
  · exact .single h

theorem State.autoOver_deeds (s : State) : Deeds s s.autoOver := by
  unfold State.autoOver
  have h : Deed s (s.onClock fun c => { c with autoTimer := none }) :=
    .timers s.clock.tickTimer s.clock.showTimer none (.inl rfl) (.inl rfl) (.inr rfl)
  refine .head h ?_
  dsimp only
  split_ifs with hs hf
  · exact .single (.segment .first (.inl hs) hf fun _ => rfl)
  · exact .single (.haltFull hs rfl)
  · exact .refl

theorem State.tickOver_deeds (s : State) : Deeds s s.tickOver := by
  unfold State.tickOver
  split
  · next l hs hl => exact .single (.tick l hl hs)
  · exact .single (.timers none s.clock.showTimer s.clock.autoTimer (.inr rfl) (.inl rfl) (.inl rfl))

/-! ## Moves, ejects and edges -/

theorem RailWork.lotLoaded_freeMove (w : RailWork) (i : Fin 3) :
    (w.lotLoaded.onRail fun r => r.freeMove i) = (w.onRail fun r => r.freeMove i).lotLoaded := by
  unfold RailWork.lotLoaded RailWork.endJog
  cases hj : w.rail.jog with
  | none => simp [RailWork.onRail, Rail.freeMove, hj]
  | some j =>
    by_cases hc : j.chan = 4 ∨ j.chan = 5 <;> simp [RailWork.onRail, Rail.freeMove, RailWork.haltAll, hj, hc]

theorem State.onRail_mapRail (s : State) {f : RailWork → RailWork} {g : Rail → Rail}
    (h : ∀ w, (f w).onRail g = f (w.onRail g)) : (s.onRail f).mapRail g = (s.mapRail g).onRail f := by
  have h := h { rail := s.rail, drive := s.drive, raised := 0 }
  have hr : g (f { rail := s.rail, drive := s.drive, raised := 0 }).rail =
    (f { rail := g s.rail, drive := s.drive, raised := 0 }).rail := (congrArg RailWork.rail h :)
  have hd : (f { rail := s.rail, drive := s.drive, raised := 0 }).drive =
    (f { rail := g s.rail, drive := s.drive, raised := 0 }).drive := (congrArg RailWork.drive h :)
  have he : (f { rail := s.rail, drive := s.drive, raised := 0 }).raised =
    (f { rail := g s.rail, drive := s.drive, raised := 0 }).raised := (congrArg RailWork.raised h :)
  simp only [State.onRail, State.mapRail, State.setPort, State.port, hr, hd, he]

theorem State.setClock_mapRail (s : State) (st : ClockState) (h : Option HaltReason) (g : Rail → Rail) :
    (s.setClock st h).mapRail g = (s.mapRail g).setClock st h := by
  exact apply_ite (fun t : State => t.mapRail g) _ _ _

/-- A jog that a loaded lot ends does not touch the supply slots. -/
theorem State.loadLot_freeMove (s : State) (n : Nat) (i : Fin 3) :
    (s.loadLot n).mapRail (fun r => r.freeMove i) = (s.mapRail fun r => r.freeMove i).loadLot n := by
  have h := (s.onLots fun ls => ls.load n).onRail_mapRail fun w => RailWork.lotLoaded_freeMove w i
  unfold State.loadLot
  rw [State.setClock_mapRail]
  refine congrArg (fun t : State => t.setClock .loaded none) ?_
  exact congrArg (fun t : State => t.onClock fun c =>
    { c with lot := some n, price := (match (s.lots.load n).lots.get n with
                | some l => l.startPrice
                | none => 0), notedHalt := false, notedWithdraw := false, stopTime := none, stopPrice := none,
             showing := none, autoTimer := if c.auto then c.autoStart else c.autoTimer }) h

theorem State.autoLoad_freeMove (s : State) (i : Fin 3) :
    s.autoLoad.mapRail (fun r => r.freeMove i) = (s.mapRail fun r => r.freeMove i).autoLoad := by
  simp only [State.autoLoad, State.mapRail_lots]
  cases s.lots.firstWaiting with
  | none => rfl
  | some n =>
    by_cases h : s.lots.loadStatus n = .ok
    · simp only [h, if_true]; exact s.loadLot_freeMove n i
    · simp only [h, if_false]

theorem State.presentedNotice_freeMove (s : State) (i : Fin 3) :
    s.presentedNotice.mapRail (fun r => r.freeMove i) = (s.mapRail fun r => r.freeMove i).presentedNotice := by
  by_cases h : s.clock.state = .idle ∧ s.clock.auto = true
  · simp only [State.presentedNotice, State.mapRail_clock, h, and_self, if_true]; exact s.autoLoad_freeMove i
  · simp only [State.presentedNotice, State.mapRail_clock, h, if_false]

theorem State.tellClock_freeMove (s : State) (i : Fin 3) :
    s.tellClock.mapRail (fun r => r.freeMove i) = (s.mapRail fun r => r.freeMove i).tellClock := by
  by_cases hl : s.choices.late.head? = some true
  · simp only [State.tellClock, State.mapRail_choices, hl, if_true]; rfl
  · simp only [State.tellClock, State.mapRail_choices, hl, if_false]; exact State.presentedNotice_freeMove ..

/-- Conveying is carrying, with the notice given at PRESENT (R33, R35). -/
theorem State.conveyed_eq (s : State) (t : Option Nat) (a b : Sec) :
    s.conveyed t a b = if b = 5 ∧ t.isSome then ((s.carried t a b).raise .presented).tellClock else s.carried t a b := by
  unfold State.conveyed State.carried State.presentation
  cases t with
  | none => simp
  | some n =>
    by_cases hb : b = 5
    · simp [hb]
    · simp [hb]

theorem State.completeMove_deeds (s : State) (i : Fin 3) (m : Move) (b : Sec) (hm : s.rail.slots[i] = some m)
    (hd : m.dest = .sec b) : Deeds s (s.completeMove i m b) := by
  simp only [State.completeMove, State.conveyed_eq]
  have h := Deed.moved i m b hm hd
  split
  · rw [State.tellClock_freeMove]
    exact .head h (.head (Deed.raise _ .presented) (State.tellClock_deeds _))
  · exact .single h

theorem State.moveEdge_deeds (s : State) (i : Fin 3) (m : Move) (k : Sec) (level : Bool) (hm : s.rail.slots[i] = some m) :
    Deeds s (s.moveEdge i m k level) := by
  unfold State.moveEdge
  split
  · next b hd =>
    split_ifs
    · exact s.completeMove_deeds i m b hm hd
    · exact .refl
    · exact .single (.stallMove i _)
  · next hd =>
    split_ifs
    · exact .single (.stallMove i _)
    · exact .single (.ejected i m hm hd)

theorem State.arrival_deeds (s : State) (hk : s.rail.slotAt 0 = none) (hc : s.rail.secs[(0 : Sec)].cond = .clear) :
    Deeds s s.arrival := by
  unfold State.arrival
  split
  · next tag _ ht => exact .single (.decide tag (.inr (.inl ⟨ht, hc, hk⟩)))
  · exact .single (.waitTag hc hk)

theorem State.edge_deeds (s : State) (k : Sec) (level : Bool) : Deeds s (s.edge k level) := by
  unfold State.edge
  split
  · split
    · next m hm => exact s.moveEdge_deeds _ m k level hm
    · exact .refl
  · next hk =>
    split
    · next ha =>
      obtain ⟨rfl, -, hc⟩ := ha
      exact s.arrival_deeds hk hc
    · split
      · next t ht =>
        split_ifs at ht with hd
        obtain ⟨rfl, -⟩ := hd
        exact .single (.departed t ht hk)
      · split_ifs with hb hg
        · exact .refl
        · exact .single (.stallGate _ (.inl hg.2))
        · exact .single (.stallEdge k hk hb hg)

end Sys2Proof.Machine

/-!
The commands of the ports, the Lot Store, the accounts, the clock, the seats and the face as chains of deeds.
-/

namespace Sys2Proof.Machine

/-! ## What the owners do: ports, lots, accounts, seats and face -/

/-- A change of a port record within its window. -/
theorem Deed.onPort (s : State) (p : Role) (f : Port → Port) (hw : ∀ r, (f r).window = r.window)
    (hok : ∀ r : Port, r.Ok p → (f r).Ok p) : Deed s (s.onPort p f) := .port p _ (hw _) (hok _)

theorem takeReadEvents_changes (p : Role) (s : State) : Changes s (takeReadEvents p s).1 :=
  (Deed.onPort s p (fun r => { r with events := 0 }) (fun _ => rfl) fun _ ⟨h1, h2, h3, _, h⟩ =>
    ⟨h1, h2, h3, BitVec.zero_and, h⟩).changes fun h => h

theorem takeSetEventMask_changes (p : Role) (m : Byte) (s : State) : Changes s (takeSetEventMask p m s).1 := by
  unfold takeSetEventMask
  split
  · exact .refl
  · next hm =>
    exact (Deed.onPort s p (fun r => { r with mask := m }) (fun _ => rfl) fun _ ⟨h1, h2, h3, he, _, h⟩ =>
      ⟨h1, h2, h3, he, not_not.mp hm, h⟩).changes fun h => h

theorem takeCheck_changes (p : Role) (v : Byte) (s : State) : Changes s (takeCheck p v s).1 := by
  unfold takeCheck
  split
  · next on _ => exact (Deed.onPort s p (fun r => { r with checkNext := on }) (fun _ => rfl) fun _ h => h).changes fun h => h
  · exact .refl

theorem takePortReset_changes (p : Role) (s : State) : Changes s (takePortReset p s).1 :=
  (Deed.onPort s p (fun r => { r with resetPending := true }) (fun _ => rfl) fun _ h => h).changes fun h => h

theorem takeDeclareLot_changes (d : LotDecl) (s : State) : Changes s (takeDeclareLot d s).1 := by
  unfold takeDeclareLot
  dsimp only
  split_ifs with hr hn hc
  · exact .refl
  · exact .refl
  · exact (Deed.declareLot d hr (Option.not_isSome_iff_eq_none.mp hn) (Nat.not_le.mp hc)).refaced
  · exact .refl

theorem takeDropLot_changes (n : Nat) (s : State) : Changes s (takeDropLot n s).1 := by
  unfold takeDropLot
  split
  · exact .refl
  · next l hl =>
    split_ifs with hd
    · exact .refl
    · exact (Deed.dropLot n l hl (not_not.mp hd)).refaced

theorem firstFailing_none {ok : Nat → Bool} {ns : List Nat} (h : firstFailing ok ns = none) : ∀ n ∈ ns, ok n = true := by
  simpa [firstFailing] using h

section
variable (ls : LotStore) (t k : Nat) (ns : List Nat)

/-- Giving lots touches the lot table alone. -/
theorem LotStore.giveLots_eq (place : Nat) : ls.giveLots t ns place = { ls with lots := (ls.giveLots t ns place).lots } := by
  induction ns generalizing ls place with
  | nil => rfl
  | cons n ns ih => exact ih _ _

/-- The record of a train announced (R9). -/
def announcedTrain (k : Nat) (ns : List Nat) : Train := { trolleys := k, lots := ns, state := .announced, sec := none }

theorem LotStore.announce_trains : (ls.announce t k ns).trains = ls.trains.put t (announcedTrain k ns) := by
  rw [LotStore.announce, LotStore.giveLots_eq]
  rfl

theorem LotStore.announce_trainState : (ls.announce t k ns).trainState t = some .announced := by
  rw [LotStore.trainState, LotStore.announce_trains, Tbl.get_put_self]
  rfl

end

theorem State.announcedTag_deeds (s : State) (t : Nat) (ht : s.lots.trainState t = some .announced) :
    Deeds s (s.announcedTag t) := by
  unfold State.announcedTag
  split
  · next h => exact .single (.decide t (.inr (.inr ⟨h, ht⟩)))
  · exact .refl

theorem takeAnnounceTrain_changes (t k : Nat) (ns : List Nat) (s : State) : Changes s (takeAnnounceTrain t k ns s).1 := by
  unfold takeAnnounceTrain
  split_ifs with hl hr hn hc
  · exact .refl
  · exact .refl
  · exact .refl
  · exact .refl
  · cases hf : firstFailing (fun n => (s.lots.lots.get n).isSome) ns with
    | some n => exact .refl
    | none =>
      cases hd : firstFailing s.lots.isDeclared ns with
      | some n => exact .refl
      | none =>
        obtain ⟨h0, hl⟩ := not_or.mp hl
        have hns : ns.Nodup := not_not.mp fun h => hr (.inr (.inr (.inr h)))
        have h := Deed.announce t k ns (fun h => h0 (h ▸ rfl)) (Nat.not_lt.mp hl) hns
          (Option.not_isSome_iff_eq_none.mp hn) (Nat.not_le.mp hc) (firstFailing_none hd)
        exact Deeds.railDone (.head h (State.announcedTag_deeds _ t (LotStore.announce_trainState ..))) s

theorem takeCancelTrain_changes (t : Nat) (s : State) : Changes s (takeCancelTrain t s).1 := by
  unfold takeCancelTrain
  split
  · exact .refl
  · next tr ht =>
    split_ifs with ha
    · exact .refl
    · exact (Deed.cancel t tr ht (not_not.mp ha)).refaced

theorem takeReorder_changes (t : Nat) (s : State) : Changes s (takeReorder t s).1 := by
  unfold takeReorder
  split
  · exact .refl
  · next tr ht =>
    have hst : s.lots.trainState t = some tr.state := by simp [LotStore.trainState, ht]
    split_ifs with ha hm
    · exact (Deed.toHead t (.inl (hst.trans (congrArg _ ha)))).refaced
    · have h := Deed.toHead t (s := s) (.inr (hst.trans (congrArg _ hm)))
      exact Deeds.railDone (.head h (.single (.admitHeld t (hst.trans (congrArg _ hm))))) s
    · exact .refl

theorem takeOpenAccount_changes (n limit fee : Nat) (s : State) : Changes s (takeOpenAccount n limit fee s).1 := by
  unfold takeOpenAccount
  split_ifs with h0 hn hc
  · exact .refl
  · exact .refl
  · exact .refl
  · exact (Deed.openAccount n limit fee (Option.not_isSome_iff_eq_none.mp hn) (Nat.not_le.mp hc)).changes fun h => h

theorem takeCloseAccount_changes (n : Nat) (s : State) : Changes s (takeCloseAccount n s).1 := by
  unfold takeCloseAccount
  split
  · exact .refl
  · next b hb =>
    split_ifs with h
    · exact .refl
    · simp only [not_or, Nat.not_lt, Nat.le_zero, Option.not_isSome_iff_eq_none] at h
      exact (Deed.closeAccount n b hb h.1 h.2.1 h.2.2).changes fun h => h

theorem takeSetLimit_changes (n limit : Nat) (s : State) : Changes s (takeSetLimit n limit s).1 := by
  unfold takeSetLimit
  split
  · exact .refl
  · exact (Deed.buyer n (fun r => { r with limit := min limit Config.maxLimit }) (fun _ => rfl) (fun _ => rfl) (fun _ => le_rfl) fun _ => .inr (Nat.min_le_right ..)).changes
      fun h => h

theorem takeSetFee_changes (n fee : Nat) (s : State) : Changes s (takeSetFee n fee s).1 := by
  unfold takeSetFee
  split
  · exact .refl
  · exact (Deed.buyer n (fun r => { r with fee := min fee Config.maxFee }) (fun _ => rfl) (fun _ => rfl) (fun _ => le_rfl) fun _ => .inl rfl).changes fun h => h

theorem takeBuyerState_changes (n : Nat) (st : BuyerState) (s : State) : Changes s (takeBuyerState n st s).1 := by
  unfold takeBuyerState
  split
  · exact .refl
  · exact (Deed.buyer n (fun r => { r with state := st }) (fun _ => rfl) (fun _ => rfl) (fun _ => le_rfl) fun _ => .inl rfl).changes fun h => h

theorem takePayment_changes (n amount : Nat) (s : State) : Changes s (takePayment n amount s).1 := by
  unfold takePayment
  split
  · exact .refl
  · next b _ =>
    exact (Deed.buyer n (fun r => { r with owed := r.owed - min amount b.owed }) (fun _ => rfl) (fun _ => rfl) (fun _ => Nat.sub_le ..) fun _ => .inl rfl).changes fun h => h

theorem takeDayClose_changes (n : Nat) (s : State) : Changes s (takeDayClose n s).1 := by
  unfold takeDayClose
  split
  · exact .refl
  · exact (Deed.buyer n (fun r => { r with dayTotal := 0, dayCount := 0 }) (fun _ => rfl) (fun _ => rfl) (fun _ => le_rfl) fun _ => .inl rfl).changes fun h => h

theorem takePost_changes (q : BitVec 32) (s : State) : Changes s (takePost q s).1 := by
  unfold takePost
  split
  · exact .refl
  · next r rest hr =>
    split_ifs
    · exact .refl
    · exact (Deed.post r rest hr).refaced

theorem takeVoid_changes (q : BitVec 32) (s : State) : Changes s (takeVoid q s).1 := by
  unfold takeVoid
  split
  · exact .refl
  · next r hr =>
    split
    · exact .refl
    · next hp => exact (Deed.void r q hr hp).refaced

/-- An answer placed, or cleared, in a seat's record. -/
theorem Deed.seatAnswer (s : State) (a : SeatAddr) (y : Option Answer) : Deed s (s.onSeat a fun x => { x with answer := y }) :=
  .seat a { s.scan.seats[a] with answer := y } rfl (.inl rfl) fun h => h

theorem Deed.answer (s : State) (a : SeatAddr) (c : AnswerCode) (v : Nat) : Deed s (s.answer a c v) := .seatAnswer s a _

theorem takeUnbind_changes (n : Nat) (s : State) : Changes s (takeUnbind n s).1 := by
  unfold takeUnbind
  split
  · exact .refl
  · next x _ =>
    split
    · exact .refl
    · next b hb => exact .head (.deed (.unbind x b hb) fun h => h) ((Deed.answer (s.unbindSeat x b) x .released 0).changes fun h => h)

@[simp] theorem State.unbindSeat_seat_ne (s : State) {a x : SeatAddr} (b : Nat) (h : x ≠ a) :
    (s.unbindSeat a b).scan.seats[x] = s.scan.seats[x] := State.onSeat_seat_ne _ _ h

/-- Seats bound in a state, each listed once, can be unbound one after another (R86). -/
theorem State.unbindAll_changes (l : List (SeatAddr × Nat)) (s : State) (hl : (l.map (·.1)).Nodup)
    (hb : ∀ e ∈ l, s.scan.seats[e.1].buyer = some e.2) : Changes s (s.unbindAll l) := by
  induction l generalizing s with
  | nil => exact .refl
  | cons e l ih =>
    obtain ⟨a, b⟩ := e
    obtain ⟨ha, hl⟩ := List.nodup_cons.mp hl
    refine .head (.deed (.unbind a b (hb _ (List.mem_cons_self ..))) fun h => h)
      (.head (.deed (Deed.seatAnswer (s.unbindSeat a b) a none) fun h => h) (ih _ hl fun e he => ?_))
    have hne : e.1 ≠ a := fun h => ha (List.mem_map.mpr ⟨e, he, h⟩)
    rw [State.onSeat_seat_ne _ _ hne, State.unbindSeat_seat_ne _ _ hne]
    exact hb e (List.mem_cons_of_mem _ he)

theorem Scanner.mem_boundFrom (sc : Scanner) (n : Nat) (e : SeatAddr × Nat) :
    e ∈ sc.boundFrom n ↔ n ≤ e.1.val ∧ sc.seats[e.1].buyer = some e.2 := by
  simp only [Scanner.boundFrom, List.mem_filterMap, List.mem_finRange, true_and]
  constructor
  · rintro ⟨a, ha⟩
    split_ifs at ha with h
    obtain ⟨b, hb, rfl⟩ := Option.map_eq_some_iff.mp ha
    exact ⟨h, hb⟩
  · rintro ⟨h, hb⟩
    exact ⟨e.1, by rw [if_pos h, hb]; rfl⟩

theorem filterMap_bound (g : SeatAddr → Option Nat) (n : Nat) (l : List SeatAddr) :
    (l.filterMap fun a => if n ≤ a.val then (g a).map fun b => (a, b) else none).map (·.1) =
      l.filter fun a => n ≤ a.val && (g a).isSome := by
  induction l with
  | nil => rfl
  | cons a l ih =>
    by_cases hn : n ≤ a.val
    · cases hb : g a <;> simp [hn, hb, ih]
    · simp [hn, ih]

theorem Scanner.boundFrom_addrs (sc : Scanner) (n : Nat) : (sc.boundFrom n).map (·.1) =
    (List.finRange 256).filter fun a => n ≤ a.val && sc.seats[a].buyer.isSome :=
  filterMap_bound (fun a => sc.seats[a].buyer) n _

theorem Scanner.boundFrom_nodup (sc : Scanner) (n : Nat) : ((sc.boundFrom n).map (·.1)).Nodup := by
  rw [Scanner.boundFrom_addrs]
  exact (List.nodup_finRange 256).filter _

theorem takeSetScanCount_changes (n : Nat) (s : State) : Changes s (takeSetScanCount n s).1 := by
  unfold takeSetScanCount
  split_ifs with hr hb
  · exact .refl
  · exact .refl
  · simp only [not_or, Nat.not_lt] at hr
    refine .head (.deed (.nextCount n hr.1 hr.2) fun h => h) ?_
    exact State.unbindAll_changes _ _ (Scanner.boundFrom_nodup ..) fun e he => ((s.scan.mem_boundFrom n e).mp he).2

theorem takeSetFaceMap_changes (x y z : Byte) (s : State) : Changes s (takeSetFaceMap x y z s).1 := by
  unfold takeSetFaceMap
  split
  · next c g _ _ => exact (Deed.face { s.face with map := s.face.map.set c g } rfl).changes fun h => h
  · exact .refl

theorem takeFaceTest_changes (s : State) : Changes s (takeFaceTest s).1 := by
  unfold takeFaceTest
  split
  · exact (Deed.face { s.face with testTimer := some Config.faceTest } rfl).changes fun h => h
  · exact .refl

/-! ## What the Clock Engine does -/

theorem takeLoad_changes (n : Nat) (s : State) : Changes s (takeLoad n s).1 := by
  unfold takeLoad
  have h (hs : s.clock.state = .idle ∨ s.clock.state = .loaded) : Changes s
      (if s.lots.loadStatus n = .ok then
        ((s.loadLot n).railDone s, Reply.done (num2 n ++ num2 ((s.loadLot n).railDone s).clock.price))
      else refuse s (s.lots.loadStatus n)).1 := by
    split
    · next hn => exact (Deed.load n hs hn).railDone s
    · exact .refl
  cases hs : s.clock.state
  case idle => exact h (.inl hs)
  case loaded => exact h (.inr hs)
  all_goals exact .refl

theorem takeStart_changes (s : State) : Changes s (takeStart s).1 := by
  unfold takeStart
  cases hs : s.clock.state
  case loaded =>
    dsimp only
    split
    · next hf =>
      have ht : Deed s (s.onClock fun c => { c with autoTimer := none }) :=
        .timers s.clock.tickTimer s.clock.showTimer none (.inl rfl) (.inl rfl) (.inr rfl)
      exact Deeds.refaced (.head ht (.single (.segment .first (.inl hs) hf fun _ => rfl)))
    · exact .refl
  all_goals exact .refl

theorem takeHalt_changes (s : State) : Changes s (takeHalt s).1 := by
  unfold takeHalt
  cases hs : s.clock.state
  case running =>
    have ht : Deed s (s.onClock fun c => { c with tickTimer := none }) :=
      .timers none s.clock.showTimer s.clock.autoTimer (.inr rfl) (.inl rfl) (.inl rfl)
    exact Deeds.refaced (.head ht (.single (.haltDesk hs rfl)))
  case showing => exact (Deed.note true s.clock.notedWithdraw hs).changes fun h => h
  all_goals exact .refl

theorem takeResume_changes (s : State) : Changes s (takeResume s).1 := by
  unfold takeResume
  cases hs : s.clock.state
  case halted =>
    dsimp only
    split
    · next hf => exact (Deed.segment .restarted (.inr hs) hf fun h => by simp [hs] at h).refaced
    · exact .refl
  all_goals exact .refl

theorem takeWithdraw_changes (s : State) : Changes s (takeWithdraw s).1 := by
  unfold takeWithdraw
  cases hs : s.clock.state
  case showing => exact (Deed.note s.clock.notedHalt true hs).changes fun h => h
  case idle => exact .refl
  case contest => exact .refl
  all_goals exact (s.closeLot_deeds (by simp [hs]) (by simp [hs])).railDone s

theorem takeSetPrice_changes (v : Nat) (s : State) : Changes s (takeSetPrice v s).1 := by
  unfold takeSetPrice
  cases hs : s.clock.state
  case loaded => exact (Deed.price v (.inl hs)).refaced
  case halted => exact (Deed.price v (.inr hs)).refaced
  all_goals exact .refl

theorem le_clamp {lo hi : Nat} (h : lo ≤ hi) (n : Nat) : lo ≤ clamp lo hi n ∧ clamp lo hi n ≤ hi := by
  unfold clamp; omega

theorem takeTick_changes (v : Nat) (s : State) : Changes s (takeTick v s).1 :=
  (Deed.setting { s.clock with tickPeriod := clamp 2 250 v } rfl (.inr (le_clamp (by omega) v)) (.inl rfl) (.inl rfl)
    (.inl rfl)).changes fun h => h

theorem takeShow_changes (v : Nat) (s : State) : Changes s (takeShow v s).1 :=
  (Deed.setting { s.clock with showTime := clamp 5 100 v } rfl (.inl rfl) (.inr (le_clamp (by omega) v)) (.inl rfl)
    (.inl rfl)).changes fun h => h

theorem takeAutoDelay_changes (v : Nat) (s : State) : Changes s (takeAutoDelay v s).1 :=
  (Deed.setting { s.clock with autoDelay := clamp 0 255 v } rfl (.inl rfl) (.inl rfl) (.inr (le_clamp (by omega) v).2)
    (.inl rfl)).changes fun h => h

theorem State.autoOn_changes (s : State) : Changes s s.autoOn := by
  unfold State.autoOn
  have h : Deed s (s.onClock fun c => { c with auto := true }) := .auto true s.clock.autoTimer .inl
  cases hs : s.clock.state
  case idle => exact Deeds.railDone (.head h (State.autoLoad_deeds _ (.inl hs))) s
  case loaded =>
    exact (Deed.auto true s.clock.autoStart fun _ => .inr hs).changes fun h => h
  all_goals exact h.changes fun h => h

theorem takeAuto_changes (v : Byte) (s : State) : Changes s (takeAuto v s).1 := by
  unfold takeAuto
  dsimp only
  split_ifs
  · exact .refl
  · exact s.autoOn_changes
  · exact (Deed.auto false none fun h => by simp at h).changes fun h => h

end Sys2Proof.Machine

/-!
The step table, the rail commands and the Drive Unit commands as chains of deeds.
-/

namespace Sys2Proof.Machine

/-! ## What the owners do: the step table, the rail and the Drive Unit -/

theorem firstBand_none {bad : Band → Bool} {bs : List Band} {k : Nat} (h : firstBand bad bs k = none) :
    ∀ b ∈ bs, bad b = false := by
  simpa [firstBand_eq_findIdx?] using h

theorem firstDrop_none {bs : List Band} {k : Nat} (h : firstDrop bs k = none) : (bs.map (·.top)).Pairwise (· ≤ ·) := by
  rw [← List.isChain_iff_pairwise, List.isChain_map]
  induction bs, k using firstDrop.induct with
  | case1 a b bs k hdrop => simp [firstDrop, hdrop] at h
  | case2 a b bs k hdrop ih =>
    rw [firstDrop, if_neg hdrop] at h
    exact .cons_cons (Nat.not_lt.mp hdrop) (ih h)
  | case3 bs k hshort =>
    rcases bs with _ | ⟨a, _ | ⟨b, bs⟩⟩
    · exact .nil
    · exact .singleton _
    · exact absurd rfl (hshort a b bs)

/-- A table that passes the tests of STEP TABLE, with steps of one byte, is a step table (R117, R118). -/
theorem stepsOk_of_bandFailure {bs : Vector Band 8} (h : bandFailure bs = none)
    (hs : ∀ b ∈ bs.toList, 1 ≤ b.step ∧ b.step ≤ 255) : stepsOk bs := by
  unfold bandFailure at h
  split at h
  · cases h
  · next ht =>
    split at h
    · cases h
    · next hd =>
      split at h
      · next hl =>
        refine ⟨fun b hb => ?_, firstDrop_none hd, hl⟩
        have hb' := firstBand_none ht b hb
        simp only [decide_eq_false_iff_not, not_or, Nat.not_lt] at hb'
        exact ⟨Nat.one_le_iff_ne_zero.mpr hb'.1, hb'.2, hs b hb⟩
      · cases h

theorem BandDecl.band_step_range (b : BandDecl) : 1 ≤ (BandDecl.band b).step ∧ (BandDecl.band b).step ≤ 255 := by
  have := b.step.isLt
  rw [BandDecl.band_step]
  omega

theorem takeStepTable_changes (bs : List BandDecl) (s : State) : Changes s (takeStepTable bs s).1 := by
  unfold takeStepTable
  split
  · exact .refl
  · next v hv =>
    split_ifs
    · exact .refl
    · split
      · exact .refl
      · next hf =>
        have hl : v.toList = bs.map BandDecl.band := by
          unfold eightBands at hv
          split_ifs at hv
          cases hv
          rfl
        have hok : stepsOk v := stepsOk_of_bandFailure hf fun b hb => by
          rw [hl] at hb
          obtain ⟨d, -, rfl⟩ := List.mem_map.mp hb
          exact BandDecl.band_step_range d
        exact (Deed.setting { s.clock with steps := v } rfl (.inl rfl) (.inl rfl) (.inl rfl) (.inr hok)).changes fun h => h

theorem takeEject_changes (s : State) : Changes s (takeEject s).1 := by
  unfold takeEject
  split_ifs with h hb
  · obtain ⟨hc, he⟩ := h
    exact .refl
  · exact (Deed.ejectPends h.1 h.2).railDone s
  · exact .refl

theorem takeHoldRail_changes (s : State) : Changes s (takeHoldRail s).1 := by
  unfold takeHoldRail
  dsimp only
  split_ifs with h
  · exact (Deed.holdRail h).railDone s
  · exact .refl

theorem takeRelease_changes (s : State) : Changes s (takeRelease s).1 := by
  unfold takeRelease
  split_ifs with hj hh
  · exact .refl
  · exact .refl
  · exact (Deed.release (Option.not_isSome_iff_eq_none.mp hj)).railDone s

theorem takeRetry_changes (sec : Byte) (s : State) : Changes s (takeRetry sec s).1 := by
  unfold takeRetry
  split
  · exact .refl
  · next k _ =>
    split
    · exact .refl
    · next st hk =>
      split_ifs with hc hl
      · exact .refl
      · exact .refl
      · cases hd : st.dest with
        | none => exact (Deed.settleGate k st hk hd fun h => hc (.inr h)).railDone s
        | some d =>
          cases d with
          | sec b => exact (Deed.settleMove k b st hk hd).railDone s
          | out => exact (Deed.settleEject k st s.intakeEjectable hk hd id).railDone s

/-- A move's record settled by RESOLVE: back at its from-section, or arrived at its to-section (R48). -/
theorem State.resolveMove_deeds (s : State) (k b : Sec) (st : Stall) (pl : Placement) (hk : s.rail.stalls[k] = some st)
    (hd : st.dest = some (.sec b)) (hl : ¬ (st.namesPresent k = true ∧ s.lots.locked = true)) (hj : s.rail.jog = none)
    {t : State} (h : s.resolveMove k b st pl = some t) : Deeds s t := by
  unfold State.resolveMove at h
  cases pl with
  | atFrom =>
    dsimp only at h
    split_ifs at h
    cases h
    exact .single (.settleMove k b st hk hd)
  | atTo =>
    dsimp only at h
    split_ifs at h
    cases h
    rw [State.conveyed_eq]
    have ha := Deed.arriveMove k b st hk hd hl hj
    split
    · exact .head ha (.head (Deed.raise _ .presented) (State.tellClock_deeds _))
    · exact .single ha

theorem State.resolveEject_deeds (s : State) (k : Sec) (st : Stall) (pl : Placement) (hk : s.rail.stalls[k] = some st)
    (hd : st.dest = some .out) {t : State} (h : s.resolveEject pl = .inl t) : Deeds s t := by
  unfold State.resolveEject at h
  cases pl with
  | atFrom =>
    dsimp only at h
    split_ifs at h
    cases h
    exact .single (.resolveEject k st hk hd)
  | atTo =>
    dsimp only at h
    split_ifs at h with hp he
    cases h
    exact .single (.emptyEject k st hk hd he)

theorem State.resolveEdge_deeds (s : State) (k : Sec) (st : Stall) (pl : Placement) (hk : s.rail.stalls[k] = some st)
    (hd : st.dest = none) {t : State} (h : s.resolveEdge k st pl = .inl t) : Deeds s t := by
  unfold State.resolveEdge at h
  cases pl with
  | atFrom =>
    dsimp only at h
    split at h
    · cases h
    · split at h
      · next n ht =>
        cases h
        exact .single (.settleEdge k st hk hd n ht)
      · next ht =>
        split at h
        · next h0 =>
          subst h0
          cases h
          exact .single (.unknownEdge st hk hd ht)
        · cases h
  | atTo =>
    dsimp only at h
    split at h
    · cases h
    · split at h
      · cases h
      · next ht =>
        cases h
        exact .single (.clearEdge k st hk hd ht)

theorem State.resolveRecord_deeds (s : State) (k : Sec) (st : Stall) (pl : Placement) (hk : s.rail.stalls[k] = some st)
    (hl : ¬ (st.namesPresent k = true ∧ s.lots.locked = true)) (hj : s.rail.jog = none)
    {t : State} (h : s.resolveRecord k st pl = .inl t) : Deeds s t := by
  unfold State.resolveRecord at h
  split at h
  · next b hd =>
    split at h
    · next u hu =>
      cases h
      exact s.resolveMove_deeds k b st pl hk hd hl hj hu
    · cases h
  · next hd => exact s.resolveEject_deeds k st pl hk hd h
  · next hd =>
    split at h
    · exact s.resolveEdge_deeds k st pl hk hd h
    · next hc =>
      cases h
      exact .single (.settleGate k st hk hd hc)

theorem takeResolve_changes (sec pl : Byte) (s : State) : Changes s (takeResolve sec pl s).1 := by
  unfold takeResolve
  split
  · next k p _ _ =>
    split
    · exact .refl
    · next st hk =>
      split_ifs with hj hl
      · exact .refl
      · exact .refl
      · split
        · next t ht =>
          exact (s.resolveRecord_deeds k st p hk hl (Option.not_isSome_iff_eq_none.mp hj) ht).railDone s
        · exact .refl
  · exact .refl

theorem takeClearSection_changes (sec : Byte) (s : State) : Changes s (takeClearSection sec s).1 := by
  unfold takeClearSection
  split
  · exact .refl
  · next k _ =>
    split_ifs with hk hl hb hp
    · exact .refl
    · exact .refl
    · exact .refl
    · exact .refl
    · obtain ⟨hb, hn⟩ := not_or.mp hb
      exact (Deed.clearSection k (Option.not_isSome_iff_eq_none.mp hk) (not_not.mp hb) (Bool.not_eq_true _ ▸ hn)).railDone s

theorem takeJog_changes (channel direction duration : Byte) (s : State) :
    Changes s (takeJog channel direction duration s).1 := by
  unfold takeJog
  split
  · next c d _ _ =>
    by_cases ht : duration.toNat = 0 ∨ 50 < duration.toNat
    · rw [if_pos ht]; exact .refl
    by_cases hl : s.jogLocked c = true
    · rw [if_neg ht, if_pos hl]; exact .refl
    by_cases hh : s.rail.hold ≠ .held
    · rw [if_neg ht, if_neg hl, if_pos hh]; exact .refl
    by_cases hd : s.drive.latched c = true
    · rw [if_neg ht, if_neg hl, if_neg hh, if_pos hd]; exact .refl
    by_cases hj : s.rail.jog.isSome = true
    · rw [if_neg ht, if_neg hl, if_neg hh, if_neg hd, if_pos hj]; exact .refl
    rw [if_neg ht, if_neg hl, if_neg hh, if_neg hd, if_neg hj]
    exact (Deed.jog c d _ (Bool.not_eq_true _ ▸ hl) (not_not.mp hh) (Bool.not_eq_true _ ▸ hd)
      (Option.not_isSome_iff_eq_none.mp hj)).railDone s
  · exact .refl

/-- A setting of the rail's record shows on no face (R187). -/
theorem takeSetMoveLimit_changes (sec limit : Byte) (s : State) : Changes s (takeSetMoveLimit sec limit s).1 := by
  unfold takeSetMoveLimit
  split
  · exact .refl
  · next k _ =>
    obtain ⟨hlo, hhi⟩ := le_clamp (show 5 ≤ 255 by omega) limit.toNat
    refine (Deed.moveLimit k _ hlo hhi).changes fun h => h.trans ?_
    have hocc (j : Sec) : (s.rail.onSec k fun x => { x with moveLimit := clamp 5 255 limit.toNat }).secs[j].occupant =
        s.rail.secs[j].occupant := by
      by_cases hj : k.val = j.val <;> simp [Rail.onSec, hj]
    simp only [State.imageNow, State.curLot, previewOf, railLots, queueLots, State.mapRail_rail, State.mapRail_lots,
      State.mapRail_clock, hocc]

theorem takeSetGateTime_changes (time : Byte) (s : State) : Changes s (takeSetGateTime time s).1 := by
  obtain ⟨hlo, hhi⟩ := le_clamp (show 100 ≤ 2550 by omega) (10 * time.toNat)
  exact (Deed.gateTime _ hlo hhi).changes fun h => h

/-- A channel written with its three settings alone is a setting of the Drive Unit (R56). -/
theorem takeSetChannel_changes (c m g st : Byte) (s : State) : Changes s (takeSetChannel c m g st s).1 := by
  unfold takeSetChannel
  split
  · next c m g st _ _ _ _ =>
    let x : Channel := { s.drive.chans[c] with mode := m, gen := g, stop := st }
    refine (Deed.driveSetting { s.drive with chans := s.drive.chans.set c x } fun k => ?_).changes fun h => h
    by_cases hk : c = k
    · subst hk; simp [x]
    · have hv : (c : Nat) ≠ (k : Nat) := fun e => hk (Fin.ext e)
      simp [hv]
  · exact .refl

theorem takeSetFaultReport_changes (a b : Byte) (s : State) : Changes s (takeSetFaultReport a b s).1 := by
  unfold takeSetFaultReport
  split
  · next a b _ _ =>
    exact (Deed.driveSetting { s.drive with reportOvercurrent := a, reportOpenLoad := b } fun _ => rfl).changes fun h => h
  · exact .refl

theorem takeClearDriveFaults_changes (s : State) : Changes s (takeClearDriveFaults s).1 := Deed.relatch.railDone s

theorem takeSetGenerator_changes (g e p d : Byte) (s : State) : Changes s (takeSetGenerator g e p d s).1 := by
  unfold takeSetGenerator
  split
  · next g pd _ _ =>
    exact (Deed.driveSetting { s.drive with gens := s.drive.gens.set g (s.drive.gens[g].write (looseOnOf e) pd d.toNat) }
      fun _ => rfl).changes fun h => h
  · exact .refl

/-! ## The reads -/

theorem takeReadLot_fst (n : Nat) (s : State) : (takeReadLot n s).1 = s := by unfold takeReadLot; split <;> rfl
theorem takeReadTrain_fst (t : Nat) (s : State) : (takeReadTrain t s).1 = s := by
  unfold takeReadTrain; split
  · rfl
  · split <;> rfl
theorem takeReadSeat_fst (a : Nat) (s : State) : (takeReadSeat a s).1 = s := by
  unfold takeReadSeat; split
  · rfl
  · split <;> rfl
theorem takeReadBuyer_fst (p : Role) (n : Nat) (s : State) : (takeReadBuyer p n s).1 = s := by
  unfold takeReadBuyer; split
  · rfl
  · split <;> rfl
theorem takeReadLog_fst (p : Role) (i n : Nat) (s : State) : (takeReadLog p i n s).1 = s := by
  unfold takeReadLog; split <;> rfl

/-! ## Every owner -/

/-- What any command's owner does is a chain of changes. -/
theorem takeCommand_changes (i : Instr) (s : State) : Changes s (takeCommand i s).1 := by
  cases i with
  | readEvents p => exact takeReadEvents_changes p s
  | setEventMask p m => exact takeSetEventMask_changes p m s
  | check p v => exact takeCheck_changes p v s
  | portReset p => exact takePortReset_changes p s
  | readLot _ n => exact (takeReadLot_fst n.toNat s).symm ▸ .refl
  | readTrain _ t => exact (takeReadTrain_fst t.toNat s).symm ▸ .refl
  | readSeat _ a => exact (takeReadSeat_fst a.toNat s).symm ▸ .refl
  | readBuyer p b => exact (takeReadBuyer_fst p b.toNat s).symm ▸ .refl
  | readLog p i n => exact (takeReadLog_fst p i.toNat n.toNat s).symm ▸ .refl
  | declareLot _ d => exact takeDeclareLot_changes d s
  | dropLot _ n => exact takeDropLot_changes _ s
  | announceTrain _ t k ns => exact takeAnnounceTrain_changes _ _ _ s
  | cancelTrain _ t => exact takeCancelTrain_changes _ s
  | reorder _ t => exact takeReorder_changes _ s
  | eject _ => exact takeEject_changes s
  | holdRail _ => exact takeHoldRail_changes s
  | release _ => exact takeRelease_changes s
  | retry _ k => exact takeRetry_changes k s
  | resolve _ k a => exact takeResolve_changes k a s
  | clearSection _ k => exact takeClearSection_changes k s
  | jog _ c d t => exact takeJog_changes c d t s
  | setMoveLimit _ k v => exact takeSetMoveLimit_changes k v s
  | setGateTime _ v => exact takeSetGateTime_changes v s
  | setChannel _ c m g st => exact takeSetChannel_changes c m g st s
  | setFaultReport _ a b => exact takeSetFaultReport_changes a b s
  | clearDriveFaults _ => exact takeClearDriveFaults_changes s
  | setGenerator _ g e c d => exact takeSetGenerator_changes g e c d s
  | load _ n => exact takeLoad_changes _ s
  | start _ => exact takeStart_changes s
  | halt _ => exact takeHalt_changes s
  | resume _ => exact takeResume_changes s
  | withdraw _ => exact takeWithdraw_changes s
  | setPrice _ v => exact takeSetPrice_changes _ s
  | tick _ v => exact takeTick_changes _ s
  | showTime _ v => exact takeShow_changes _ s
  | auto _ v => exact takeAuto_changes v s
  | autoDelay _ v => exact takeAutoDelay_changes _ s
  | stepTable _ bs => exact takeStepTable_changes bs s
  | setScanCount _ n => exact takeSetScanCount_changes _ s
  | unbind _ a => exact takeUnbind_changes _ s
  | void _ q => exact takeVoid_changes q s
  | setFaceMap _ g f n => exact takeSetFaceMap_changes g f n s
  | faceTest _ => exact takeFaceTest_changes s
  | openAccount _ b l f => exact takeOpenAccount_changes _ _ _ s
  | closeAccount _ b => exact takeCloseAccount_changes _ s
  | setLimit _ b l => exact takeSetLimit_changes _ _ s
  | setFee _ b f => exact takeSetFee_changes _ _ s
  | suspend _ b => exact takeBuyerState_changes _ _ s
  | reinstate _ b => exact takeBuyerState_changes _ _ s
  | payment _ b a => exact takePayment_changes _ _ s
  | dayClose _ b => exact takeDayClose_changes _ s
  | post _ q => exact takePost_changes q s
  | _ => exact .refl

end Sys2Proof.Machine

/-!
What the deeds do to the port records: events are raised, and nothing else of a port changes.
-/

namespace Sys2Proof.Machine

/-! ## What a deed does to the ports -/

/-- On every port nothing but kinds of its own role are raised (R199). -/
def State.Raises (s t : State) : Prop :=
  ∀ p, ∃ bits : Byte, bits &&& ~~~ kindBits p = 0 ∧ t.port p = (s.port p).raiseBits bits

theorem Port.raiseBits_zero (r : Port) : r.raiseBits 0 = r := by simp [Port.raiseBits]

theorem Port.raiseBits_raiseBits (r : Port) (b c : Byte) : (r.raiseBits b).raiseBits c = r.raiseBits (b ||| c) := by
  simp [Port.raiseBits, BitVec.or_assoc]

theorem State.Raises.of_ports {s t : State} (h : t.ports = s.ports) : s.Raises t := fun p =>
  ⟨0, BitVec.zero_and, by rw [Port.raiseBits_zero]; exact congrArg (fun ps : Ports => ps.get p) h⟩

theorem State.Raises.refl (s : State) : s.Raises s := .of_ports rfl

theorem State.Raises.trans {s t u : State} (h : s.Raises t) (h' : t.Raises u) : s.Raises u := fun p => by
  obtain ⟨b, hb, e⟩ := h p
  obtain ⟨c, hc, e'⟩ := h' p
  refine ⟨b ||| c, ?_, by rw [e', e, Port.raiseBits_raiseBits]⟩
  have hor : (b ||| c) &&& ~~~ kindBits p = (b &&& ~~~ kindBits p) ||| (c &&& ~~~ kindBits p) := by
    ext i; simp only [BitVec.getElem_and, BitVec.getElem_or, Bool.and_or_distrib_right]
  rw [hor, hb, hc]; rfl

theorem State.Raises.onPort (s : State) (q : Role) {bits : Byte} (hb : bits &&& ~~~ kindBits q = 0) :
    s.Raises (s.onPort q fun r => r.raiseBits bits) := fun p => by
  by_cases h : q = p
  · subst h; exact ⟨bits, hb, State.port_onPort_self ..⟩
  · exact ⟨0, BitVec.zero_and, by rw [State.port_onPort_ne _ _ h, Port.raiseBits_zero]⟩

theorem State.raises_raise (s : State) (e : Event) : s.Raises (s.raise e) := .onPort s e.role e.mask_foreign

theorem State.Raises.raise {s t : State} (h : s.Raises t) (e : Event) : s.Raises (t.raise e) := h.trans (t.raises_raise e)

theorem State.raises_onRail (s : State) (f : RailWork → RailWork) : s.Raises (s.onRail f) :=
  .trans (.onPort s .yard (bits := (f { rail := s.rail, drive := s.drive, raised := 0 }).raised) BitVec.and_zero)
    (.of_ports rfl)

theorem State.Raises.onRail {s t : State} (h : s.Raises t) (f : RailWork → RailWork) : s.Raises (t.onRail f) :=
  h.trans (t.raises_onRail f)

theorem State.raises_setClock (s : State) (st : ClockState) (h : Option HaltReason) : s.Raises (s.setClock st h) := by
  unfold State.setClock
  dsimp only
  split
  · exact .of_ports rfl
  · exact .raise (.of_ports rfl) .clock

theorem State.Raises.setClock {s t : State} (hr : s.Raises t) (st : ClockState) (h : Option HaltReason) :
    s.Raises (t.setClock st h) := hr.trans (t.raises_setClock st h)

/-- What leaves the ports as they are after a state has the same events raised. -/
theorem State.Raises.of_eq {s t u : State} (h : s.Raises t) (e : u.ports = t.ports) : s.Raises u := h.trans (.of_ports e)

theorem State.raises_loadLot (s : State) (n : Nat) : s.Raises (s.loadLot n) := by
  have h : s.Raises ((s.onLots fun ls => ls.load n).onRail RailWork.lotLoaded) := .onRail (.of_ports rfl) _
  unfold State.loadLot
  dsimp only
  exact .setClock (t := State.onClock _ _) (h.of_eq rfl) _ _

theorem State.raises_beginSegment (s : State) (k : SegmentKind) : s.Raises (s.beginSegment k) := by
  unfold State.beginSegment
  dsimp only
  refine .of_eq (.setClock (st := .running) (h := none) (.of_ports ?_)) rfl
  cases s.clock.lot <;> rfl

theorem State.raises_enterShowing (s : State) (k : ShowingKind) : s.Raises (s.enterShowing k) :=
  .setClock (.of_ports rfl) _ _

theorem State.raises_haltAfterShowing (s : State) (l : Lot) (h : HaltReason) : s.Raises (s.haltAfterShowing l h) :=
  .setClock (.of_ports rfl) _ _

theorem State.raises_restart (s : State) (l : Lot) : s.Raises (s.restart l) := by
  unfold State.restart
  dsimp only
  refine .trans (.of_ports ?_) (State.raises_beginSegment _ _)
  cases s.clock.lot <;> rfl

theorem State.raises_tickTaken (s : State) (l : Lot) : s.Raises (s.tickTaken l) := by
  unfold State.tickTaken
  split
  · exact .of_ports rfl
  · exact s.raises_enterShowing _

theorem State.raises_lotOff (s : State) : s.Raises s.lotOff := by
  unfold State.lotOff
  refine .raise (.setClock (.of_ports ?_) _ _) _
  dsimp only [State.onClock_clock]
  cases s.clock.lot <;> rfl

theorem State.Raises.ite {s t u : State} {c : Prop} [Decidable c] (ht : s.Raises t) (hu : s.Raises u) :
    s.Raises (if c then t else u) := by split <;> assumption

theorem State.Raises.raiseLogFull {s t : State} (h : s.Raises t) : s.Raises t.raiseLogFull := .raise (.raise h _) _

theorem State.raises_append (s : State) (r : BitVec 32 → Purchase) : s.Raises (s.append r) := by
  have h (u : Log) : s.Raises (({ s with log := u } : State).raise .log) := .raise (.of_ports rfl) _
  unfold State.append
  exact .ite (.raiseLogFull (.ite (.raise (h _) _) (h _))) (.ite (.raise (h _) _) (h _))

theorem State.raises_dropHead (s : State) : s.Raises s.dropHead := by
  have h (u : Log) : s.Raises ({ s with log := u } : State) := .of_ports rfl
  unfold State.dropHead
  exact .ite (.raiseLogFull (h _)) (h _)

theorem State.settleRecord_ports (s : State) (r : Purchase) : (s.settleRecord r).ports = s.ports := by
  unfold State.settleRecord
  cases r.state
  · cases r.carried <;> rfl
  · rfl

theorem State.voidRecord_ports (s : State) (r : Purchase) : (s.voidRecord r).ports = s.ports := by
  unfold State.voidRecord
  cases r.carried <;> rfl

theorem State.raises_openContest (s : State) (x : Contender) : s.Raises (s.openContest x) := .setClock (.of_ports rfl) _ _

theorem State.insertPress_ports (s : State) (x : Contender) : (s.insertPress x).ports = s.ports := by
  unfold State.insertPress
  dsimp only
  split <;> rfl

theorem State.raises_closeNone (s : State) : s.Raises s.closeNone :=
  .of_eq (.setClock (t := s.endContest) (.of_ports rfl) _ _) rfl

theorem State.answerLate_ports (s : State) (l : List Contender) : (s.answerLate l).ports = s.ports := by
  induction l generalizing s with
  | nil => rfl
  | cons x xs ih => exact ih _

theorem State.raises_closeWon (s : State) (n : Nat) (x : Contender) (after : List Contender) (u p : Nat) (a : Amounts) :
    s.Raises (s.closeWon n x after u p a) := by
  unfold State.closeWon
  generalize hs : s.append (purchaseOf s.clock n x u p a) = s1
  have h : s.Raises s1 := hs ▸ s.raises_append _
  dsimp only
  generalize ht : State.answer _ x.seat .won u = t
  have h' : t.ports = s1.ports := ht ▸ rfl
  have h'' : (t.answerLate after).endContest.ports = t.ports := t.answerLate_ports after
  exact .raise (.trans (h.of_eq (h''.trans h')) (State.raises_enterShowing _ _)) _

theorem State.carried_ports (s : State) (t : Option Nat) (a b : Sec) : (s.carried t a b).ports = s.ports := by
  unfold State.carried
  cases t with
  | none => rfl
  | some n => exact ite_self (c := b = 5) s.ports ▸ apply_ite State.ports _ _ _

theorem State.intakeEmptied_ports (s : State) : s.intakeEmptied.ports = s.ports := by
  unfold State.intakeEmptied
  dsimp only
  split <;> rfl

theorem State.raises_completeEject (s : State) (i : Fin 3) (m : Move) : s.Raises (s.completeEject i m) :=
  .of_eq (.of_eq (s.raises_onRail _) (State.intakeEmptied_ports _)) rfl

theorem State.raises_admitAt (s : State) (t : Nat) : s.Raises (s.admitAt t) :=
  .raise (.onRail (.of_ports rfl) _) _

theorem State.raises_decideAdmission (s : State) (tag : Nat) : s.Raises (s.decideAdmission tag) := by
  unfold State.decideAdmission
  dsimp only
  split
  · exact .trans (.of_ports rfl) (State.raises_admitAt _ _)
  · exact .raise (.of_ports rfl) _
  · exact .raise (.of_ports rfl) _

/-- A deed changes one port record within its window, or raises kinds of the ports' own roles. -/
theorem Deed.ports {s t : State} (h : Deed s t) :
    (∃ p r, t = s.setPort p r ∧ r.window = (s.port p).window ∧ ((s.port p).Ok p → r.Ok p)) ∨ s.Raises t := by
  cases h with
  | port p r hw hok => exact .inl ⟨p, r, rfl, hw, hok⟩
  | post r rest hr => exact .inr (.trans (.of_ports (s.settleRecord_ports r)) (State.raises_dropHead _))
  | void r n hr hp => exact .inr (.of_ports (s.voidRecord_ports r))
  | load n hs hn => exact .inr (s.raises_loadLot n)
  | segment k hs hf ht => exact .inr (s.raises_beginSegment k)
  | haltDesk hs ht => exact .inr (s.raises_setClock _ _)
  | haltFull hs ht => exact .inr (s.raises_setClock _ _)
  | haltAfter l r hl hs ht hw => exact .inr (s.raises_haltAfterShowing l r)
  | restart l hl hs ht hr hf => exact .inr (s.raises_restart l)
  | tick l hl hs => exact .inr (s.raises_tickTaken l)
  | closeLot hs hc => exact .inr s.raises_lotOff
  | openContest x hs ht => exact .inr (s.raises_openContest x)
  | insertPress x hs ha hb ht => exact .inr (.of_ports (s.insertPress_ports x))
  | closeNone hs => exact .inr s.raises_closeNone
  | closeWon n l x after u p a hs hn hl hw => exact .inr (s.raises_closeWon n x after u p a)
  | jog c d n hl hh hd hj => exact .inr (.of_eq (s.raises_onRail fun w => (w.energiseAll d [c]).1) rfl)
  | endJog => exact .inr (s.raises_onRail _)
  | stallMove i cause => exact .inr (s.raises_onRail _)
  | stallGate cause hg => exact .inr (s.raises_onRail _)
  | stallEdge k hk hb hg => exact .inr (s.raises_onRail _)
  | arriveMove k b st hk hd hl hj => exact .inr (.of_ports (State.carried_ports _ _ _ _))
  | emptyEject k st hk hd he => exact .inr (.of_ports (State.intakeEmptied_ports _))
  | decide tag h => exact .inr (s.raises_decideAdmission tag)
  | admitHeld t ht => exact .inr (s.raises_admitAt t)
  | moved i m b hm hd =>
    exact .inr (.of_eq (s.raises_onRail fun w => w.haltAll m.chans) (State.carried_ports (s.onRail _) m.train m.source b))
  | ejected i m hm hd => exact .inr (s.raises_completeEject i m)
  | departed t ht hk => exact .inr (.raise (.of_ports rfl) _)
  | fault c k hc => exact .inr (s.raises_onRail _)
  | relatch =>
    have h : s.Raises ({ s with drive := s.drive.relatchAll s.inputs } : State) := .of_ports rfl
    exact .inr (h.onRail fun w => w.reportLatched allChans)
  | _ => exact .inr (.of_ports rfl)

theorem State.raises_railDone (s b : State) : s.Raises (s.railDone b) := by
  have h : s.Raises (s.settle.wantSince b) := by
    rcases s.settle.wantSince_cases b with e | e <;> rw [e]
    · exact s.raises_onRail _
    · exact .raise (s.raises_onRail _) _
  exact h.of_eq rfl

theorem State.Raises.window {s t : State} (h : s.Raises t) (p : Role) : (t.port p).window = (s.port p).window := by
  obtain ⟨b, -, e⟩ := h p; rw [e]; rfl

theorem State.Raises.portsOk {s t : State} (h : s.Raises t) (hs : s.PortsOk) : t.PortsOk := fun p => by
  obtain ⟨b, hb, e⟩ := h p
  rw [e]
  exact (hs p).raiseBits hb

theorem Deed.window {s t : State} (h : Deed s t) (p : Role) : (t.port p).window = (s.port p).window := by
  rcases h.ports with ⟨q, r, rfl, hw, -⟩ | h
  · by_cases hq : q = p
    · subst hq; rw [State.port_setPort_self, hw]
    · rw [State.port_setPort_ne _ _ hq]
  · exact h.window p

theorem Deed.portsOk {s t : State} (h : Deed s t) (hs : s.PortsOk) : t.PortsOk := by
  rcases h.ports with ⟨q, r, rfl, -, hok⟩ | h
  · intro p
    by_cases hq : q = p
    · subst hq; rw [State.port_setPort_self]; exact hok (hs q)
    · rw [State.port_setPort_ne _ _ hq]; exact hs p
  · exact h.portsOk hs

/-- What every deed of a chain keeps, the chain keeps. -/
theorem Deeds.keeps {P : State → Prop} (hd : ∀ {s t}, Deed s t → P s → P t) {s t : State} (h : Deeds s t) (hs : P s) : P t := by
  induction h with
  | refl => exact hs
  | tail _ hd' ih => exact hd hd' ih

/-- What every deed keeps, and neither the image nor the examination of eligibility touches, every change keeps. -/
theorem Change.keeps {P : State → Prop} (hd : ∀ {s t}, Deed s t → P s → P t) (hf : ∀ s, P s → P s.reface)
    (hr : ∀ s b, P s → P (s.railDone b)) {s t : State} (h : Change s t) (hs : P s) : P t := by
  cases h with
  | quiet h _ => exact Deeds.keeps hd h hs
  | refaced h => exact hf _ (Deeds.keeps hd h hs)
  | railDone h b => exact hr _ b (Deeds.keeps hd h hs)

theorem Changes.keeps {P : State → Prop} (hc : ∀ {s t}, Change s t → P s → P t) {s t : State} (h : Changes s t) (hs : P s) :
    P t := by
  induction h with
  | refl => exact hs
  | tail _ hc' ih => exact hc hc' ih

theorem Changes.window {s t : State} (h : Changes s t) (p : Role) : (t.port p).window = (s.port p).window :=
  Changes.keeps (P := fun t => (t.port p).window = (s.port p).window)
    (Change.keeps (fun hd e => (hd.window p).trans e) (fun _ e => e) fun t b e => ((t.raises_railDone b).window p).trans e)
    h rfl

end Sys2Proof.Machine

/-!
A word, a frame and a command as chains of changes.
-/

namespace Sys2Proof.Machine

/-! ## Words, frames and commands as changes -/

/-- In an open window a port record is consistent whose frame part, reply part and flags are. -/
theorem Port.Ok.of_opened {p : Role} {r r' : Port} (h : r.Ok p) (hw : r'.window = .opened) (hw' : r.window = .opened)
    (hp : r'.phase = .reply ↔ r'.replyLeft ≠ []) (hs : r'.selectLow = r.selectLow) (he : r'.events = r.events)
    (hm : r'.mask = r.mask) (hf : r'.frame.length ≤ 2 + Config.maxPayload)
    (hd : 0 < r'.discarded → r'.frame.length = 2 + Config.maxPayload) (hx : ∀ e, r'.extent = some e → r'.received < e) :
    r'.Ok p := by
  obtain ⟨-, -, h3, h4, h5, -, -, -⟩ := h
  exact ⟨hp, fun hc => by simp [hw] at hc, fun _ => hs ▸ h3 hw', he ▸ h4, hm ▸ h5, hf, hd, hx⟩

theorem Port.lengthWord_append (r : Port) (h : 2 ≤ r.frame.length) (w : LinkWord) :
    ({ r with frame := r.frame ++ [w] } : Port).lengthWord = r.lengthWord := by
  rcases hf : r.frame with _ | ⟨a, _ | ⟨b, l⟩⟩
  · simp [hf] at h
  · simp [hf] at h
  · simp [Port.lengthWord, hf]

/-- What a frame may hold: at most 66 words, the discarded ones beyond those, and not yet its last. -/
def Port.FrameOk (r : Port) : Prop :=
  r.frame.length ≤ 2 + Config.maxPayload ∧ (0 < r.discarded → r.frame.length = 2 + Config.maxPayload) ∧
  ∀ e, r.extent = some e → r.received < e

theorem Port.extent_eq_some {r : Port} {e : Nat} :
    r.extent = some e ↔ ∃ l, r.lengthWord = some l ∧ 2 + l + r.checkNow.toNat = e := by
  simp [Port.extent, Option.map_eq_some_iff]

/-- A frame that goes on after a word is within its bounds still (R194). -/
theorem Port.FrameOk.receive {r : Port} (h : r.FrameOk) (w : LinkWord) (hc : (r.receive w).complete = false) :
    (r.receive w).FrameOk := by
  by_cases h0 : r.frame = []
  · have hb : r.cleared.beyond = false := by simp [Port.cleared, Port.beyond, Port.received]
    have hf : (r.receive w).frame = [w] := by simp [Port.receive, h0, hb]; rfl
    have hd : (r.receive w).discarded = 0 := by simp [Port.receive, h0, hb]; rfl
    refine ⟨by simp [hf, Config.maxPayload], fun h => by simp [hd] at h, fun e he => ?_⟩
    obtain ⟨l, hl, -⟩ := Port.extent_eq_some.mp he
    simp [Port.lengthWord, hf] at hl
  · obtain ⟨hlen, hdis, hext⟩ := h
    have hpos : 0 < r.frame.length := List.length_pos_iff.mpr h0
    have hcomp : ∀ e, (r.receive w).extent = some e → (r.receive w).received ≠ e := fun e he hr => by
      simp [Port.complete, he, hr] at hc
    by_cases hb : r.beyond = true
    · have hf : (r.receive w).frame = r.frame := by simp [Port.receive, h0, hb]
      have hd : (r.receive w).discarded = r.discarded + 1 := by simp [Port.receive, h0, hb]
      have hl : (r.receive w).lengthWord = r.lengthWord := by simp [Port.lengthWord, hf]
      have hk : (r.receive w).checkNow = r.checkNow := by simp [Port.receive, h0]
      have hx : (r.receive w).extent = r.extent := by simp [Port.extent, hl, hk]
      obtain ⟨hge, -⟩ : 2 + Config.maxPayload ≤ r.received ∧ _ := by simpa [Port.beyond] using hb
      refine ⟨hf ▸ hlen, fun _ => ?_, fun e he => ?_⟩
      · rw [hf]
        unfold Port.received at hge
        by_cases hz : 0 < r.discarded
        · exact hdis hz
        · omega
      · have h1 := hext e (hx ▸ he)
        have h2 := hcomp e he
        unfold Port.received at h1 h2 ⊢
        rw [hf, hd] at h2 ⊢
        omega
    · have hf : (r.receive w).frame = r.frame ++ [w] := by simp [Port.receive, h0, hb]
      have hd : (r.receive w).discarded = r.discarded := by simp [Port.receive, h0, hb]
      have hk : (r.receive w).checkNow = r.checkNow := by simp [Port.receive, h0]
      have hrec : (r.receive w).received = r.received + 1 := by simp [Port.received, hf, hd]; omega
      by_cases h2 : 2 ≤ r.frame.length
      · have hl : (r.receive w).lengthWord = r.lengthWord := by
          rw [← r.lengthWord_append h2 w]; simp [Port.lengthWord, hf]
        obtain ⟨l, hlw⟩ : ∃ l, r.lengthWord = some l := by
          rcases hf' : r.frame with _ | ⟨a, _ | ⟨b, t⟩⟩
          · simp [hf'] at h2
          · simp [hf'] at h2
          · exact ⟨b.data.toNat, by simp [Port.lengthWord, hf']⟩
        have hx : r.extent = some (2 + l + r.checkNow.toNat) := Port.extent_eq_some.mpr ⟨l, hlw, rfl⟩
        have hx' : (r.receive w).extent = some (2 + l + r.checkNow.toNat) := by
          rw [Port.extent, hl, hlw, hk]; rfl
        have h1 := hext _ hx
        have h3 := hcomp _ hx'
        have hck : r.checkNow.toNat ≤ 1 := by cases r.checkNow <;> simp
        have hnb : r.received < 2 + Config.maxPayload ∨ 2 + l ≤ r.received := by
          simp only [Port.beyond, hlw, Option.any_some, Bool.and_eq_true, decide_eq_true_eq, not_and, Nat.not_lt] at hb
          omega
        rw [hrec] at h3
        have hlt : r.received < 2 + Config.maxPayload := by omega
        have hz : r.discarded = 0 := by
          unfold Port.received at hlt
          by_contra hne
          have := hdis (Nat.pos_of_ne_zero hne)
          omega
        refine ⟨?_, fun h => by omega, fun e he => ?_⟩
        · unfold Port.received at hlt
          rw [hf, List.length_append, List.length_singleton]
          omega
        · rw [hx'] at he
          cases he
          omega
      · obtain ⟨a, ha⟩ : ∃ a, r.frame = [a] := List.length_eq_one_iff.mp (by omega)
        have hz : r.discarded = 0 := by
          by_contra hne
          have := hdis (Nat.pos_of_ne_zero hne)
          simp [ha, Config.maxPayload] at this
        refine ⟨by simp [hf, ha, Config.maxPayload], fun h => by omega, fun e he => ?_⟩
        have h3 := hcomp e he
        obtain ⟨l, hl, rfl⟩ := Port.extent_eq_some.mp he
        have : (r.receive w).received = 2 := by rw [hrec]; simp [Port.received, ha, hz]
        omega

@[simp] theorem Port.receive_window (r : Port) (w : LinkWord) : (r.receive w).window = r.window := by
  unfold Port.receive; dsimp only; split <;> rfl
@[simp] theorem Port.receive_phase (r : Port) (w : LinkWord) : (r.receive w).phase = r.phase := by
  unfold Port.receive; dsimp only; split <;> rfl
@[simp] theorem Port.receive_replyLeft (r : Port) (w : LinkWord) : (r.receive w).replyLeft = r.replyLeft := by
  unfold Port.receive; dsimp only; split <;> rfl
@[simp] theorem Port.receive_selectLow (r : Port) (w : LinkWord) : (r.receive w).selectLow = r.selectLow := by
  unfold Port.receive; dsimp only; split <;> rfl
@[simp] theorem Port.receive_events (r : Port) (w : LinkWord) : (r.receive w).events = r.events := by
  unfold Port.receive; dsimp only; split <;> rfl
@[simp] theorem Port.receive_mask (r : Port) (w : LinkWord) : (r.receive w).mask = r.mask := by
  unfold Port.receive; dsimp only; split <;> rfl

theorem Changes.giveReply {s t : State} (h : Changes s t) {p : Role} (hw : (s.port p).window = .opened) (x : Reply) :
    Changes s (t.giveReply p x) :=
  h.tail (.deed (Deed.giveReply ((h.window p).trans hw) x) fun h => h)

theorem State.takeOn_changes (s : State) (p : Role) (i : Instr) (hw : (s.port p).window = .opened) :
    Changes s (s.takeOn p (takeCommand i)) := (takeCommand_changes i s).giveReply hw _

theorem State.giveReply_changes (s : State) (p : Role) (hw : (s.port p).window = .opened) (x : Reply) :
    Changes s (s.giveReply p x) := Changes.giveReply .refl hw x

theorem State.lineError_changes (s : State) (p : Role) (hw : (s.port p).window = .opened) (st : Status) :
    Changes s (s.lineError p st) := by
  have h : Deed s (s.onPort p fun r => { r with poisoned := true }) :=
    .port p _ rfl fun ⟨h1, _, h3, h⟩ => ⟨h1, fun hc => absurd (hw.symm.trans hc) (by decide), h3, h⟩
  exact (h.changes fun h => h).giveReply hw _

theorem State.passFrame_changes (s : State) (p : Role) (code : Byte) (payload : List Byte) (hw : (s.port p).window = .opened) :
    Changes s (s.passFrame p code payload) := by
  unfold State.passFrame
  split
  · exact s.giveReply_changes p hw _
  · split
    · split
      · exact s.giveReply_changes p hw _
      · exact s.takeOn_changes p _ hw
    · exact s.giveReply_changes p hw _

theorem State.frameDone_changes (s : State) (p : Role) (f : Port) (hw : (s.port p).window = .opened) :
    Changes s (s.frameDone p f) := by
  unfold State.frameDone
  split
  · exact s.giveReply_changes p hw _
  · split
    · exact s.lineError_changes p hw _
    · split
      · split
        · exact s.lineError_changes p hw _
        · exact s.passFrame_changes p _ _ hw
      · exact .refl

theorem State.frameWord_eq (s : State) (p : Role) (w : LinkWord) {r : Port} (hr : r = { s.port p with out := LinkWord.idle }) :
    s.frameWord p w = if r.frame = [] ∧ w.isIdle then s.setPort p r
      else if (r.receive w).complete then (s.setPort p (r.receive w).cleared).frameDone p (r.receive w)
      else s.setPort p (r.receive w) := by subst hr; rfl

theorem State.frameWord_changes (s : State) (p : Role) (w : LinkWord) (hw : (s.port p).window = .opened) :
    Changes s (s.frameWord p w) := by
  obtain ⟨r, hr⟩ : ∃ r : Port, r = { s.port p with out := LinkWord.idle } := ⟨_, rfl⟩
  rw [s.frameWord_eq p w hr]
  have hwin : r.window = (s.port p).window := hr ▸ rfl
  have hok : (s.port p).Ok p → r.Ok p := hr ▸ fun h => h
  split
  · exact (Deed.port p r hwin hok).changes fun h => h
  · split
    · have hwc : (r.receive w).cleared.window = (s.port p).window := (r.receive_window w).trans hwin
      have h : Deed s (s.setPort p (r.receive w).cleared) := .port p _ hwc fun h => by
        have h := hok h
        refine h.of_opened (hwc.trans hw) (hwin.trans hw) ?_ (r.receive_selectLow w) (r.receive_events w) (r.receive_mask w)
          (by simp [Port.cleared]) (fun h => by simp [Port.cleared] at h) fun e he => by simp [Port.cleared, Port.extent, Port.lengthWord] at he
        have := h.1
        simpa [Port.cleared] using this
      refine (h.changes fun h => h).trans (State.frameDone_changes _ p _ ?_)
      rw [State.port_setPort_self]
      exact hwc.trans hw
    · next hc =>
      have hwr : (r.receive w).window = (s.port p).window := (r.receive_window w).trans hwin
      refine (Deed.port p (r.receive w) hwr fun h => ?_).changes fun h => h
      obtain ⟨h1, -, -, -, -, h6, h7, h8⟩ := hok h
      have hf : r.FrameOk := ⟨h6, h7, h8⟩
      obtain ⟨g1, g2, g3⟩ := hf.receive w (Bool.not_eq_true _ ▸ hc)
      exact (hok h).of_opened (hwr.trans hw) (hwin.trans hw) (by simpa using h1) (r.receive_selectLow w) (r.receive_events w)
        (r.receive_mask w) g1 g2 g3

/-- A reply word clocked out keeps the port consistent (R192, R195). -/
theorem Port.Ok.replyWord {p : Role} {r : Port} (h : r.Ok p) : r.replyWord.Ok p := by
  obtain ⟨h1, h2, h3, h⟩ := h
  unfold Port.replyWord
  cases hl : r.replyLeft with
  | nil => exact ⟨by simp, fun hc => by simpa [hl] using h2 hc, h3, h⟩
  | cons x rest =>
    refine ⟨?_, fun hc => ?_, h3, h⟩
    · by_cases hr : rest = [] <;> simp [hr]
    · have := (h2 hc).2.1
      simp [hl] at this

theorem Port.replyWord_window (r : Port) : r.replyWord.window = r.window := by unfold Port.replyWord; split <;> rfl

theorem State.clockWord_changes (s : State) (p : Role) (w : LinkWord) : Changes s (s.clockWord p w) := by
  unfold State.clockWord
  split
  · exact (Deed.onPort s p (fun r => { r with out := LinkWord.idle }) (fun _ => rfl) fun _ h => h).changes fun h => h
  · exact (Deed.onPort s p Port.replyWord Port.replyWord_window fun _ h => h.replyWord).changes fun h => h
  · next hw _ => exact s.frameWord_changes p w hw

theorem State.clockWords_changes (s : State) (p : Role) (ws : List LinkWord) : Changes s (s.clockWords p ws) := by
  induction ws generalizing s with
  | nil => exact .refl
  | cons w ws ih => exact (s.clockWord_changes p w).trans (ih _)

theorem State.commanded_changes (s : State) (i : Instr) : Changes s (s.commanded i (takeCommand i)) := by
  unfold State.commanded
  split
  · exact .refl
  · next p code payload _ =>
    have h : Changes s (s.frameTaken p) := (Deed.frameTaken s p).changes fun h => h
    split
    · next hr =>
      have hw : (s.port p).window = .opened := by
        have := hr.1
        simp only [Port.ready, Bool.and_eq_true, decide_eq_true_eq] at this
        exact this.1.1
      split
      · exact h.giveReply hw _
      · split
        · exact h.trans (State.takeOn_changes _ p i ((h.window p).trans hw))
        · exact h.giveReply hw _
    · exact s.clockWords_changes p _

end Sys2Proof.Machine

/-!
The seat loop's slots and the block events as chains of changes, and the rule by which a condition is kept by every step.
-/

namespace Sys2Proof.Machine

/-! ## The seat loop as deeds -/

theorem State.writeRefusal_deeds (s : State) (b total : Nat) (v : Int) : Deeds s (s.writeRefusal b total v) :=
  .head (.refusal _) (.single (Deed.raise _ .refusal))

/-- The examination of a list of contenders is a chain of deeds in CONTEST (R141 to R147). -/
theorem State.cascade_deeds (s : State) (n : Nat) (l : Lot) (xs : List Contender) (hs : s.clock.state = .contest)
    (hn : s.clock.lot = some n) (hl : s.lots.lots.get n = some l) : Deeds s (s.cascade n l xs) := by
  induction xs generalizing s with
  | nil => exact .single (.closeNone hs)
  | cons x xs ih =>
    unfold State.cascade
    split
    · exact .head (Deed.answer s x.seat .denied 0) (ih _ hs hn hl)
    · exact .head (Deed.answer s x.seat .qty 0) (ih _ hs hn hl)
    · next t v _ =>
      exact .head (Deed.answer s x.seat .limit 0) (.trans (State.writeRefusal_deeds _ x.buyer t v) (ih _ hs hn hl))
    · next u p a hw => exact .single (.closeWon n l x xs u p a hs hn hl hw)

theorem State.closeContest_deeds (s : State) (hs : s.clock.state = .contest) : Deeds s s.closeContest := by
  unfold State.closeContest
  split
  · next n l hn hl =>
    exact s.cascade_deeds n l _ hs hn (by simpa [State.curLot, hn] using hl)
  · exact .single (.closeNone hs)

theorem State.pollNotice_deeds (s : State) (a : SeatAddr) : Deeds s (s.pollNotice a) := by
  unfold State.pollNotice
  split
  · next h => exact s.closeContest_deeds h.1
  · exact .refl

theorem State.sendPoll_deeds (s : State) (a : SeatAddr) : Deeds s (s.sendPoll a) :=
  .head (.scan { s.scan with sent := (s.scan.seats[a].pollBytes a).map LinkWord.sound, stage := .sent } rfl rfl rfl id)
    (.single (Deed.seatAnswer _ a none))

theorem State.pollSlot_deeds (s : State) (a : SeatAddr) : Deeds s (s.pollSlot a) :=
  .head (.scan { s.scan with pos := .seat a } rfl rfl rfl id) (.trans (State.pollNotice_deeds _ a) (State.sendPoll_deeds _ a))

theorem length_pushBeacon (l : List BeaconRec) (b : BeaconRec) : (pushBeacon l b).length ≤ Config.beaconCapacity := by
  unfold pushBeacon
  simp only [List.length_drop, List.length_append, List.length_singleton, Config.beaconCapacity]
  omega

theorem State.sendBeacon_deed (s : State) : Deed s s.sendBeacon := .scan _ rfl rfl rfl fun _ => length_pushBeacon _ _

/-- The image does not depend on the scanner. -/
theorem State.ImageOk.onScan {s : State} (h : s.ImageOk) (sc : Scanner) : ({ s with scan := sc } : State).ImageOk := h

theorem State.cycleStart_imageOk {s : State} (h : s.ImageOk) : s.cycleStart.ImageOk := by
  unfold State.cycleStart
  split
  · split
    · exact h
    · exact h.onScan _
  · exact h

theorem State.cycleStart_deeds (s : State) : Deeds s s.cycleStart := by
  unfold State.cycleStart
  split
  · next n hn =>
    split
    · exact .refl
    · exact .single (.adopt n hn)
  · exact .refl

theorem Deeds.ite {s t u : State} {c : Prop} [Decidable c] (ht : Deeds s t) (hu : Deeds s u) :
    Deeds s (if c then t else u) := by split <;> assumption

/-- A verdict, silence count and link that the end of a window gives (R78, R79), with the seat's other fields as they were. -/
theorem State.noGoodReply_deeds (s : State) (a : SeatAddr) : Deeds s (s.noGoodReply a) := by
  unfold State.noGoodReply
  dsimp only
  have h : Deed s (s.onSeat a fun x => { x with
      verdict := .refused, silence := min (s.scan.seats[a].silence + 1) Config.maxSilence,
      link := if min (s.scan.seats[a].silence + 1) Config.maxSilence = Config.maxSilence ∧ s.scan.seats[a].link = .online
        then .offline else x.link }) := by
    refine Deed.seat a _ rfl (.inl rfl) fun ⟨hle, hoff⟩ => ⟨Nat.min_le_right _ _, ?_⟩
    generalize s.scan.seats[a] = x at hle hoff ⊢
    cases hx : x.link
    · have hne : x.silence ≠ Config.maxSilence := fun h => by simp [hx] at hoff; exact hoff h
      by_cases hm : min (x.silence + 1) Config.maxSilence = Config.maxSilence <;> simp [hm]
    · have he := hoff.mp hx
      simp [he]
  exact .ite (.head h (.single (Deed.raise _ .seat))) (.single h)

theorem State.goodReply_deeds (s : State) (a : SeatAddr) : Deeds s (s.goodReply a) := by
  unfold State.goodReply
  dsimp only
  have h : Deed s (s.onSeat a fun x => { x with verdict := .accepted, silence := 0, link := .online }) :=
    Deed.seat a _ rfl (.inl rfl) fun _ => ⟨Nat.zero_le _, by simp [Config.maxSilence]⟩
  split
  · exact .head h (.single (Deed.raise _ .seat))
  · exact .single h

theorem State.login_deeds (s : State) (a : SeatAddr) (b : Nat) : Deeds s (s.login a b) := by
  unfold State.login
  split
  · exact .single (Deed.answer s a .denied 0)
  · split
    · exact .single (Deed.answer s a .denied 0)
    · next acc hr => exact .head (.bind a b acc hr) (.single (Deed.answer _ a .ready 1))

theorem State.logout_deeds (s : State) (a : SeatAddr) : Deeds s (s.logout a) := by
  unfold State.logout
  split
  · next b hb => exact .head (.unbind a b hb) (.single (Deed.answer _ a .released 0))
  · exact .refl

theorem State.classify_le (s : State) (n : Byte) (d t : Nat) (h : s.classify n d = .timed t) : t ≤ s.clock.runTime := by
  unfold State.classify at h
  split at h
  · cases h
  · split_ifs at h
    cases h
    exact Nat.min_le_right _ _

theorem State.bidder_some {s : State} {b : Option Nat} {n : Nat} (h : s.bidder b = some n) :
    b = some n ∧ s.accounts.isActive n = true := by
  unfold State.bidder at h
  split at h
  · split_ifs at h with ha
    cases h
    exact ⟨rfl, ha⟩
  · cases h

theorem State.pressRunning_deeds (s : State) (p : Press) (hs : s.clock.state = .running)
    (ht : ∀ t, p.cls = .timed t → t ≤ s.clock.runTime) : Deeds s (s.pressRunning p) := by
  unfold State.pressRunning
  split
  · exact .single (Deed.answer s ..)
  · exact .single (Deed.answer s ..)
  · next t hc =>
    split
    · exact .single (Deed.answer s ..)
    · split
      · exact .single (.openContest _ hs (ht t hc))
      · exact .single (Deed.answer s ..)

theorem State.pressContest_deeds (s : State) (p : Press) (hs : s.clock.state = .contest) : Deeds s (s.pressContest p) := by
  unfold State.pressContest
  split
  · exact .refl
  · next ha =>
    split
    · exact .refl
    · next hb =>
      split
      · exact .single (Deed.answer s ..)
      · exact .single (Deed.answer s ..)
      · next t _ =>
        split
        · exact .single (Deed.answer s ..)
        · next ht =>
          split
          · exact .single (Deed.answer s ..)
          · next b hbid =>
            split
            · simp only [List.any_eq_true, decide_eq_true_eq, not_exists, not_and] at ha hb
              refine .single (.insertPress _ hs ha (fun y hy he => hb y hy ?_) fun ts hts => ?_)
              · rw [(State.bidder_some hbid).1, he]
              · simpa [hts] using ht
            · exact .single (Deed.answer s ..)

theorem State.press_deeds (s : State) (p : Press) (ht : ∀ t, p.cls = .timed t → t ≤ s.clock.runTime) : Deeds s (s.press p) := by
  unfold State.press
  cases hs : s.clock.state
  case running => exact s.pressRunning_deeds p hs ht
  case contest => exact s.pressContest_deeds p hs
  all_goals exact .single (Deed.answer s ..)

theorem reportOf_quantity {a : SeatAddr} {bs : List Byte} {q : Nat} (h : reportOf a bs = some (.quantity q)) : q ≤ 255 := by
  unfold reportOf at h
  split at h <;> (try split_ifs at h) <;> cases h
  next b _ => exact Nat.le_of_lt_succ b.isLt

theorem judge_quantity {a : SeatAddr} {ws : List LinkWord} {q : Nat} (h : judge a ws = some (.quantity q)) : q ≤ 255 := by
  unfold judge at h
  split_ifs at h
  exact reportOf_quantity h

theorem State.actOn_deeds (s : State) (a : SeatAddr) (x : Report) (hq : ∀ q, x = .quantity q → q ≤ 255) :
    Deeds s (s.actOn a x) := by
  cases x with
  | none => exact .refl
  | login b => exact s.login_deeds a b
  | logout => exact s.logout_deeds a
  | quantity q =>
    have := hq q rfl
    exact .single (Deed.seat a _ rfl (.inr ⟨Nat.le_max_left _ _, max_le (by omega) this⟩) id)
  | press n d => exact s.press_deeds _ fun t h => s.classify_le n d t h

theorem State.windowEnd_deeds (s : State) (a : SeatAddr) (reply : List LinkWord) : Deeds s (s.windowEnd a reply) := by
  unfold State.windowEnd
  refine .head (.scan { s.scan with stage := .ended } rfl rfl rfl id) ?_
  split
  · next x hx => exact .trans (State.goodReply_deeds _ a) (State.actOn_deeds _ a x fun q he => judge_quantity (he ▸ hx))
  · exact State.noGoodReply_deeds _ a

/-! ## The events -/

theorem State.expire_changes (s : State) (t : Timer) (f : State → State) (h : ∀ n, t = some n → Changes s (f (s.elapse n))) :
    Changes s (s.expire t f) := by
  cases t with
  | none => exact .refl
  | some n => exact h n rfl

theorem State.setPresence_deed (s : State) (k : Sec) (l : Bool) : Deed s (s.setPresence k l) := .inputs _

theorem State.setGateSensor_deed (s : State) (g : GateSensor) (l : Bool) : Deed s (s.setGateSensor g l) := by
  cases g <;> exact .inputs _

theorem State.setFaultInput_deed (s : State) (c : Chan) (k : FaultKind) (l : Bool) : Deed s (s.setFaultInput c k l) := by
  cases k <;> exact .inputs _

theorem State.setFaultInput_imageOk (s : State) (c : Chan) (k : FaultKind) (l : Bool) (h : s.ImageOk) :
    (s.setFaultInput c k l).ImageOk := by cases k <;> exact h

theorem State.tagTaken_deeds (s : State) (tag : Nat) : Deeds s (s.tagTaken tag) := by
  unfold State.tagTaken
  split
  · next h => exact .single (.decide tag (.inl h))
  · next h =>
    split
    · exact .single (.holdTag tag h)
    · exact .refl

theorem State.tagWaitOver_deeds (s : State) : Deeds s s.tagWaitOver := by
  unfold State.tagWaitOver
  split
  · next h => exact .single (.decide 0 (.inl h))
  · next h => exact .single (.endWait h)

theorem State.gateTest_deeds (s : State) : Deeds s s.gateTest := by
  unfold State.gateTest
  split
  · next h => exact .single (.gateDone h.2)
  · exact .refl

theorem State.jogEnded_changes (s : State) (j : Option Jog) : Changes s (s.jogEnded j) := by
  unfold State.jogEnded
  split
  · exact (Deed.raise s .want).changes fun h => h
  · exact .refl

theorem State.onGen_deed (s : State) (g : Gen) (f : Generator → Generator) : Deed s (s.onGen g f) :=
  .driveSetting _ fun _ => rfl

/-- Every event of the blocks other than the ports, and but for the resets, is a chain of changes. -/
theorem execBlock_changes (i : Instr) (s t : State) (hb : blockEvent i = true) (h1 : i ≠ .powerOnReset) (h2 : i ≠ .pinReset)
    (h : exec i s = .next t) : Changes s t := by
  cases i
  case powerOnReset => exact absurd rfl h1
  case pinReset => exact absurd rfl h2
  case presenceEdge k l =>
    injection h with h; subst h
    split
    · exact .refl
    · exact Deeds.railDone (.head (s.setPresence_deed k l) (State.edge_deeds _ k l)) s
  case tagDelivered tag =>
    injection h with h; subst h
    exact (s.tagTaken_deeds _).railDone s
  case tagWaitExpiry =>
    injection h with h; subst h
    exact s.expire_changes _ _ fun n _ => Deeds.railDone (.head (.time n) (State.tagWaitOver_deeds _)) _
  case moveLimitExpiry i =>
    injection h with h; subst h
    exact s.expire_changes _ _ fun n _ => Deeds.railDone (.head (.time n) (.single (.stallMove i .timeout))) _
  case gateSensorEdge g l =>
    injection h with h; subst h
    split
    · exact .refl
    · exact Deeds.railDone (.head (s.setGateSensor_deed g l) (State.gateTest_deeds _)) s
  case gateTimerExpiry =>
    injection h with h; subst h
    exact s.expire_changes _ _ fun n _ => Deeds.railDone (.head (.time n) (.head .gateTimer (State.gateTest_deeds _))) _
  case confirmationTimerExpiry =>
    injection h with h; subst h
    refine s.expire_changes _ _ fun n hn => Deeds.railDone (.head (.time n) (.single (.stallGate .gate (.inr ?_)))) _
    simp [State.elapse, Rail.after, hn, Timer.after]
  case jogTimerExpiry =>
    injection h with h; subst h
    exact s.expire_changes _ _ fun n _ => (Deeds.railDone (.head (.time n) (.single .endJog)) _).trans
      (State.jogEnded_changes _ _)
  case deadTimeExpiry c =>
    injection h with h; subst h
    exact s.expire_changes _ _ fun n _ => .head (.deed (.time n) fun h => h) ((Deed.turnOver c).changes fun h => h)
  case faultAssertion c k =>
    injection h with h; subst h
    have hin : Change s (s.setFaultInput c k true) := .deed (s.setFaultInput_deed c k true) (s.setFaultInput_imageOk c k true)
    split
    · exact .refl
    · dsimp only
      split
      · exact .single hin
      · next hc => exact .head hin (((Deed.fault c k (Bool.not_eq_true _ ▸ hc)).railDone s).trans (State.jogEnded_changes _ _))
  case faultRelease c k =>
    injection h with h; subst h
    exact (s.setFaultInput_deed c k false).changes (s.setFaultInput_imageOk c k false)
  case generatorPeriodStart g =>
    injection h with h; subst h
    exact (s.onGen_deed g _).changes fun h => h
  case generatorOffPhase g =>
    injection h with h; subst h
    exact (s.onGen_deed g _).changes fun h => h
  case beacon =>
    injection h with h; subst h
    split
    · exact .single (.quiet (.tail s.cycleStart_deeds (State.sendBeacon_deed _)) fun hi =>
        (State.cycleStart_imageOk hi).onScan _)
    · exact .refl
  case pollSlot =>
    injection h with h; subst h
    split
    · next a _ => exact (s.pollSlot_deeds a).refaced
    · exact .refl
  case replyWindowEnd reply =>
    injection h with h; subst h
    split
    · next a _ _ => exact (s.windowEnd_deeds a reply).refaced
    · exact .refl
  case tickTimerExpiry =>
    injection h with h; subst h
    exact s.expire_changes _ _ fun n _ => Deeds.refaced (.head (.time n) (State.tickOver_deeds _))
  case showTimerExpiry =>
    injection h with h; subst h
    exact s.expire_changes _ _ fun n _ => Deeds.railDone (.head (.time n) (State.showOver_deeds _)) _
  case autoTimerExpiry =>
    injection h with h; subst h
    exact s.expire_changes _ _ fun n _ => Deeds.refaced (.head (.time n) (State.autoOver_deeds _))
  case faceTestTimerExpiry =>
    injection h with h; subst h
    exact s.expire_changes _ _ fun n _ => .head (.deed (.time n) fun h => h)
      ((Deed.face { (s.elapse n).face with testTimer := none } rfl).changes fun h => h)
  case faceChainLatch =>
    injection h with h; subst h
    exact (Deed.face (s.face.latch s.levels) rfl).changes fun h => h
  all_goals simp [blockEvent, frameOf] at hb

theorem State.takeNotice_changes (s : State) : Changes s s.takeNotice := by
  unfold State.takeNotice
  have h : Deed s (s.onClock fun c => { c with noticeWaiting := false }) := .notice s.choices false
  dsimp only
  split
  · exact Deeds.railDone (.head h (State.presentedNotice_deeds _)) s
  · exact h.changes fun h => h

/-! ## Every step -/

/-- What a condition needs to be kept by every step: each change of a chain, the select lines, the two resets and the queue
keep it. -/
structure Kept (P : State → Prop) : Prop where
  queue : ∀ (s : State) (l : List Instr), P s → P { s with pending := l }
  change : ∀ {s t : State}, Change s t → P s → P t
  fall : ∀ (s : State) (p : Role), (s.port p).selectLow = false → P s → P (s.onPort p Port.openWindow)
  rise : ∀ (s : State) (p : Role), (s.port p).selectLow = true → P s → P (s.onPort p Port.closeWindow)
  power : ∀ s : State, P s → P (s.resetWith .power { buyers := [], lastRefusal := none } { records := [], nextSeq := 1 })
  pin : ∀ s : State, P s → P (s.resetWith .pin { s.accounts.clearSeats with lastRefusal := none } s.log.carryAll)

theorem Kept.changes {P : State → Prop} (k : Kept P) {s t : State} (h : Changes s t) (hs : P s) : P t :=
  Changes.keeps k.change h hs

theorem Kept.exec {P : State → Prop} (k : Kept P) (i : Instr) {s t : State} (h : exec i s = .next t) (hs : P s) : P t := by
  by_cases hb : blockEvent i = true
  · by_cases h1 : i = .powerOnReset
    · subst h1; injection h with h; exact h ▸ k.power s hs
    by_cases h2 : i = .pinReset
    · subst h2; injection h with h; exact h ▸ k.pin s hs
    exact k.changes (execBlock_changes i s t hb h1 h2 h) hs
  · cases hf : frameOf i with
    | some x =>
      rw [exec_command i s x hf] at h
      injection h with h
      exact h ▸ k.changes (s.commanded_changes i) hs
    | none =>
      cases i <;> simp [blockEvent, frameOf] at hb hf <;> injection h with h <;> subst h
      · split
        · exact hs
        · next p hl => exact k.fall s p (Bool.not_eq_true _ ▸ hl) hs
      · split
        · next p hl => exact k.rise s p hl hs
        · exact hs
      · exact k.changes (s.clockWords_changes _ _) hs
      · exact k.changes (s.clockWord_changes _ _) hs
      · exact k.changes (s.clockWords_changes _ _) hs

theorem Kept.step {P : State → Prop} (k : Kept P) {s t : State} (h : step s = .next t) (hs : P s) : P t :=
  step_keeps k.queue (fun i _ _ hs hx => k.exec i hx hs) (fun s hs => k.changes s.takeNotice_changes hs)
    (fun s hs => k.changes (.single (.deed (.time 1) fun h => h)) hs) hs h

/-- For a condition that no port record touches it is enough that every deed, the examination of eligibility, the image and the
two resets keep it. -/
theorem Kept.of_deeds {P : State → Prop} (hp : PortFree P) (hq : ∀ (s : State) (l : List Instr), P s → P { s with pending := l })
    (hd : ∀ {s t}, Deed s t → P s → P t) (hf : ∀ s, P s → P s.reface) (hr : ∀ s b, P s → P (s.railDone b))
    (hpow : ∀ s : State, P s → P (s.resetWith .power { buyers := [], lastRefusal := none } { records := [], nextSeq := 1 }))
    (hpin : ∀ s : State, P s → P (s.resetWith .pin { s.accounts.clearSeats with lastRefusal := none } s.log.carryAll)) :
    Kept P :=
  ⟨hq, Change.keeps hd hf hr, fun s p _ h => hp s p _ h, fun s p _ h => hp s p _ h, hpow, hpin⟩

end Sys2Proof.Machine

/-!
The tables in canonical form and the collections within their capacities, deed by deed.
-/

namespace Sys2Proof.Machine

/-! ## Tables and capacities -/

/-- What keeps the canonical form of a table and the count of its records within a capacity. -/
def Tbl.Tidy {α : Type} (cap : Nat) (a b : Tbl α) : Prop := (a.wf = true → b.wf = true) ∧ (a.length ≤ cap → b.length ≤ cap)

section
variable {α : Type} {cap : Nat} {a b c : Tbl α}

theorem Tbl.Tidy.refl (a : Tbl α) : Tbl.Tidy cap a a := ⟨id, id⟩
theorem Tbl.Tidy.trans (h : Tbl.Tidy cap a b) (h' : Tbl.Tidy cap b c) : Tbl.Tidy cap a c := ⟨h'.1 ∘ h.1, h'.2 ∘ h.2⟩
theorem Tbl.tidy_mapAll (a : Tbl α) (f : Nat → α → α) : Tbl.Tidy cap a (a.mapAll f) :=
  ⟨fun h => (a.wf_mapAll f).trans h, fun h => (a.length_mapAll f).trans_le h⟩
theorem Tbl.tidy_modify (a : Tbl α) (k : Nat) (f : α → α) : Tbl.Tidy cap a (a.modify k f) := a.tidy_mapAll _
theorem Tbl.tidy_erase (a : Tbl α) (k : Nat) : Tbl.Tidy cap a (a.erase k) := ⟨a.wf_erase k, (a.length_erase_le k).trans⟩
theorem Tbl.tidy_put (a : Tbl α) (k : Nat) (v : α) (hn : a.get k = none) (hc : a.length < cap) : Tbl.Tidy cap a (a.put k v) :=
  ⟨a.wf_put k v, fun _ => (a.length_put k v hn).trans_le hc⟩

end

/-- What keeps the two tables of the Lot Store so. -/
def LotStore.Tidy (a b : LotStore) : Prop :=
  Tbl.Tidy Config.lotCapacity a.lots b.lots ∧ Tbl.Tidy Config.trainCapacity a.trains b.trains

section
variable {a b c : LotStore}

theorem LotStore.Tidy.refl (a : LotStore) : a.Tidy a := ⟨.refl _, .refl _⟩
theorem LotStore.Tidy.trans (h : a.Tidy b) (h' : b.Tidy c) : a.Tidy c := ⟨h.1.trans h'.1, h.2.trans h'.2⟩
theorem LotStore.tidy_onLot (a : LotStore) (n : Nat) (f : Lot → Lot) : a.Tidy (a.onLot n f) := ⟨Tbl.tidy_modify .., .refl _⟩
theorem LotStore.tidy_onTrain (a : LotStore) (n : Nat) (f : Train → Train) : a.Tidy (a.onTrain n f) :=
  ⟨.refl _, Tbl.tidy_modify ..⟩
theorem LotStore.tidy_eraseLot (a : LotStore) (n : Nat) : a.Tidy { a with lots := a.lots.erase n } :=
  ⟨Tbl.tidy_erase .., .refl _⟩
theorem LotStore.tidy_eraseTrain (a : LotStore) (n : Nat) : a.Tidy { a with trains := a.trains.erase n } :=
  ⟨.refl _, Tbl.tidy_erase ..⟩
theorem LotStore.tidy_queue (a : LotStore) (q : List Nat) : a.Tidy { a with queue := q } := ⟨.refl _, .refl _⟩

theorem LotStore.tidy_freeTest (a : LotStore) (n : Nat) : a.Tidy (a.freeTest n) := by
  unfold LotStore.freeTest
  split
  · split
    · exact a.tidy_eraseLot n
    · exact .refl a
  · exact .refl a

theorem LotStore.Tidy.of_tables {ls : Tbl Lot} {ts : Tbl Train} (q : List Nat) (hl : Tbl.Tidy Config.lotCapacity a.lots ls)
    (ht : Tbl.Tidy Config.trainCapacity a.trains ts) : a.Tidy { lots := ls, trains := ts, queue := q } := ⟨hl, ht⟩

theorem LotStore.tidy_load (a : LotStore) (n : Nat) : a.Tidy (a.load n) := by
  unfold LotStore.load
  dsimp only
  exact .of_tables _ (.trans (Tbl.tidy_mapAll _ _) (Tbl.tidy_modify _ _ _)) (.refl _)

theorem LotStore.tidy_trainTest (a : LotStore) (t : Nat) : a.Tidy (a.trainTest t) := by
  unfold LotStore.trainTest
  split
  · split
    · exact a.tidy_onTrain t _
    · exact .refl a
  · exact .refl a

theorem LotStore.tidy_close (a : LotStore) (n : Nat) : a.Tidy (a.close n) := by
  unfold LotStore.close
  split
  · next l _ =>
    split
    · dsimp only
      cases l.train with
      | none => exact .trans (a.tidy_onLot n _) (LotStore.tidy_freeTest _ n)
      | some t => exact .trans (a.tidy_onLot n _) (.trans (LotStore.tidy_trainTest _ t) (LotStore.tidy_freeTest _ n))
    · exact .refl a
  · exact .refl a

theorem LotStore.tidy_giveLots (a : LotStore) (t : Nat) (ns : List Nat) (k : Nat) : a.Tidy (a.giveLots t ns k) := by
  induction ns generalizing a k with
  | nil => exact .refl a
  | cons n ns ih => exact .trans (a.tidy_onLot n _) (ih _ _)

theorem LotStore.tidy_announce (a : LotStore) (t k : Nat) (ns : List Nat) (hn : a.trains.get t = none)
    (hc : a.trains.length < Config.trainCapacity) : a.Tidy (a.announce t k ns) :=
  .trans (b := { a with trains := a.trains.put t _ }) ⟨.refl _, Tbl.tidy_put _ _ _ hn hc⟩
    (.trans (LotStore.tidy_giveLots _ t ns 1) (LotStore.tidy_queue _ _))

theorem LotStore.tidy_takeLots (a : LotStore) (ns : List Nat) : a.Tidy (a.takeLots ns) := by
  induction ns generalizing a with
  | nil => exact .refl a
  | cons n ns ih => exact .trans (a.tidy_onLot n _) (ih _)

theorem LotStore.tidy_cancel (a : LotStore) (t : Nat) (tr : Train) : a.Tidy (a.cancel t tr) :=
  .trans (a.tidy_queue _) (.trans (LotStore.tidy_takeLots _ tr.lots) (LotStore.tidy_eraseTrain _ t))

theorem LotStore.tidy_admitTrain (a : LotStore) (t : Nat) : a.Tidy (a.admitTrain t) :=
  .trans (a.tidy_queue _) (LotStore.tidy_onTrain _ t _)

theorem LotStore.tidy_present (a : LotStore) (t : Nat) : a.Tidy (a.present t) := by
  unfold LotStore.present
  dsimp only
  exact .of_tables _ (Tbl.tidy_mapAll _ _) (a.tidy_onTrain t _).2

theorem LotStore.tidy_releaseLots (a : LotStore) (ns : List Nat) : a.Tidy (a.releaseLots ns) := by
  induction ns generalizing a with
  | nil => exact .refl a
  | cons n ns ih =>
    unfold LotStore.releaseLots
    dsimp only
    cases a.lots.get n with
    | none => exact ih a
    | some l =>
      dsimp only
      split
      · exact .trans (a.tidy_eraseLot n) (ih _)
      · exact .trans (a.tidy_onLot n _) (ih _)

theorem LotStore.tidy_depart (a : LotStore) (t : Nat) : a.Tidy (a.depart t) := by
  unfold LotStore.depart
  split
  · next tr _ => exact .trans (a.tidy_releaseLots tr.lots) (LotStore.tidy_eraseTrain _ t)
  · exact .refl a

end

/-- What keeps every table in canonical form and every collection within its capacity. -/
structure State.Tidy (s t : State) : Prop where
  lots : s.lots.Tidy t.lots
  buyers : Tbl.Tidy Config.buyerCapacity s.accounts.buyers t.accounts.buyers
  beacons : s.scan.beacons.length ≤ Config.beaconCapacity → t.scan.beacons.length ≤ Config.beaconCapacity
  history : s.clock.history.length ≤ Config.historyCapacity → t.clock.history.length ≤ Config.historyCapacity

section
variable {s t u : State}

theorem State.Tidy.refl (s : State) : s.Tidy s := ⟨.refl _, .refl _, id, id⟩
theorem State.Tidy.trans (h : s.Tidy t) (h' : t.Tidy u) : s.Tidy u :=
  ⟨h.lots.trans h'.lots, h.buyers.trans h'.buyers, h'.beacons ∘ h.beacons, h'.history ∘ h.history⟩

/-- A change that leaves the Lot Store, the buyers, the beacons and the history as they are. -/
theorem State.Tidy.of_eq (hl : t.lots = s.lots) (ha : t.accounts.buyers = s.accounts.buyers)
    (hb : t.scan.beacons = s.scan.beacons) (hh : t.clock.history = s.clock.history) : s.Tidy t :=
  ⟨hl ▸ .refl _, ha ▸ .refl _, fun h => hb ▸ h, fun h => hh ▸ h⟩

/-- The same after other changes. -/
theorem State.Tidy.keep (h : s.Tidy t) (hl : u.lots = t.lots) (ha : u.accounts.buyers = t.accounts.buyers)
    (hb : u.scan.beacons = t.scan.beacons) (hh : u.clock.history = t.clock.history) : s.Tidy u :=
  h.trans (.of_eq hl ha hb hh)

theorem State.tidy_onLots (s : State) (f : LotStore → LotStore) (h : s.lots.Tidy (f s.lots)) : s.Tidy (s.onLots f) :=
  ⟨h, .refl _, id, id⟩
theorem State.Tidy.onLots (h : s.Tidy t) (f : LotStore → LotStore) (hf : t.lots.Tidy (f t.lots)) : s.Tidy (t.onLots f) :=
  h.trans (t.tidy_onLots f hf)
theorem State.tidy_onBuyers (s : State) (f : Tbl Buyer → Tbl Buyer)
    (h : Tbl.Tidy Config.buyerCapacity s.accounts.buyers (f s.accounts.buyers)) : s.Tidy (s.onBuyers f) :=
  ⟨.refl _, h, id, id⟩
theorem Accounts.tidy_onBuyer (a : Accounts) (n : Nat) (f : Buyer → Buyer) :
    Tbl.Tidy Config.buyerCapacity a.buyers (a.onBuyer n f).buyers := by
  unfold Accounts.onBuyer
  exact Tbl.tidy_modify _ _ _
theorem State.Tidy.onBuyer (h : s.Tidy t) (n : Nat) (f : Buyer → Buyer) : s.Tidy (t.onBuyer n f) :=
  h.trans ⟨.refl _, t.accounts.tidy_onBuyer n f, id, id⟩
theorem State.tidy_setClock (s : State) (st : ClockState) (h : Option HaltReason) : s.Tidy (s.setClock st h) :=
  .of_eq (by simp) (by simp) (by simp) (by simp)
theorem State.Tidy.setClock (h : s.Tidy t) (st : ClockState) (r : Option HaltReason) : s.Tidy (t.setClock st r) :=
  h.trans (t.tidy_setClock st r)
theorem State.Tidy.raise (h : s.Tidy t) (e : Event) : s.Tidy (t.raise e) := h.keep rfl rfl rfl rfl
theorem State.Tidy.onClock (h : s.Tidy t) (f : Clock → Clock) (hf : (f t.clock).history = t.clock.history) :
    s.Tidy (t.onClock f) := h.keep rfl rfl rfl hf
theorem State.Tidy.mapRail (h : s.Tidy t) (f : Rail → Rail) : s.Tidy (t.mapRail f) := h.keep rfl rfl rfl rfl
theorem State.Tidy.onRail (h : s.Tidy t) (f : RailWork → RailWork) : s.Tidy (t.onRail f) := h.keep rfl rfl rfl rfl

theorem State.tidy_append (s : State) (r : BitVec 32 → Purchase) : s.Tidy (s.append r) := by
  unfold State.append
  dsimp only
  split
  · split <;> exact .of_eq rfl rfl rfl rfl
  · split <;> exact .of_eq rfl rfl rfl rfl

theorem State.tidy_dropHead (s : State) : s.Tidy s.dropHead := by
  unfold State.dropHead
  dsimp only
  split <;> exact .of_eq rfl rfl rfl rfl

theorem LotStore.tidy_posted (a : LotStore) (n : Nat) : a.Tidy (a.posted n) := (a.tidy_onLot n _).trans (LotStore.tidy_freeTest _ n)

theorem LotStore.tidy_giveBack (a : LotStore) (n u : Nat) : a.Tidy (a.giveBack n u) :=
  (a.tidy_onLot n _).trans (LotStore.tidy_freeTest _ n)

theorem State.tidy_settleRecord (s : State) (r : Purchase) : s.Tidy (s.settleRecord r) := by
  have h : s.Tidy (s.onBuyer r.buyer fun b => b.posted r.total) := .onBuyer (.refl s) _ _
  unfold State.settleRecord
  split
  · exact .refl s
  · dsimp only
    split
    · exact h
    · exact h.onLots _ (LotStore.tidy_posted _ _)

theorem State.tidy_voidRecord (s : State) (r : Purchase) : s.Tidy (s.voidRecord r) := by
  have h0 : s.Tidy ({ s with log := s.log.markVoid r.seq } : State) := .of_eq rfl rfl rfl rfl
  have h := h0.onBuyer r.buyer fun b => b.lowerPending r.total
  unfold State.voidRecord
  dsimp only
  split
  · exact h
  · exact h.onLots _ (LotStore.tidy_giveBack _ _ _)

theorem Accounts.tidy_clearSeat (a : Accounts) (b : Nat) :
    Tbl.Tidy Config.buyerCapacity a.buyers (a.clearSeat b).buyers := a.tidy_onBuyer b _

theorem Accounts.tidy_seatRequest {a acc : Accounts} {x : SeatAddr} {b : Nat} {c : Option Nat}
    (h : a.seatRequest x b c = some acc) : Tbl.Tidy Config.buyerCapacity a.buyers acc.buyers := by
  unfold Accounts.seatRequest at h
  split_ifs at h
  split at h
  · cases h
  · next r _ =>
    split_ifs at h
    dsimp only at h
    have hc : Tbl.Tidy Config.buyerCapacity a.buyers
        (match c with
          | some c' => if c' = b then a else a.clearSeat c'
          | none => a).buyers := by
      cases c with
      | none => exact .refl _
      | some c' =>
        dsimp only
        split
        · exact .refl _
        · exact a.tidy_clearSeat c'
    split at h
    · split_ifs at h
      cases h
      exact hc
    · cases h
      exact hc.trans (Accounts.tidy_onBuyer _ _ _)

theorem State.tidy_loadLot (s : State) (n : Nat) : s.Tidy (s.loadLot n) := by
  have h : s.Tidy ((s.onLots fun ls => ls.load n).onRail RailWork.lotLoaded) :=
    .onRail (.onLots (.refl s) _ (s.lots.tidy_load n)) _
  unfold State.loadLot
  dsimp only
  refine .setClock (t := State.onClock _ _) ?_ _ _
  exact h.keep rfl rfl rfl rfl

theorem LotStore.tidy_toClock (a : LotStore) (n : Nat) : a.Tidy (a.toClock n) := a.tidy_onLot n _

theorem State.tidy_beginSegment (s : State) (k : SegmentKind) : s.Tidy (s.beginSegment k) := by
  unfold State.beginSegment
  dsimp only
  refine ⟨?_, ?_, fun _ => Nat.zero_le _, fun _ => ?_⟩
  · cases s.clock.lot with
    | none => simp [LotStore.Tidy.refl]
    | some n => simp [LotStore.tidy_toClock]
  · cases s.clock.lot <;> simp [Tbl.Tidy.refl]
  · simp [Config.historyCapacity]

theorem State.tidy_enterShowing (s : State) (k : ShowingKind) : s.Tidy (s.enterShowing k) := by
  unfold State.enterShowing
  exact .setClock (.onClock (.refl s) _ rfl) _ _

theorem State.tidy_haltAfterShowing (s : State) (l : Lot) (h : HaltReason) : s.Tidy (s.haltAfterShowing l h) := by
  unfold State.haltAfterShowing
  exact .setClock (.onClock (.refl s) _ rfl) _ _

/-- What is done to the Lot Store for the current lot, where there is one. -/
theorem State.tidy_onCurrent (s : State) (f : Nat → LotStore → LotStore) (hf : ∀ n a, LotStore.Tidy a (f n a)) :
    s.Tidy (match s.clock.lot with
      | some n => s.onLots (f n)
      | none => s) := by
  cases s.clock.lot with
  | none => exact .refl s
  | some n => exact s.tidy_onLots _ (hf n _)

theorem State.tidy_restart (s : State) (l : Lot) : s.Tidy (s.restart l) := by
  have h := s.tidy_onCurrent (fun n ls => ls.onLot n fun e => { e with restartsUsed := e.restartsUsed + 1 })
    fun n a => a.tidy_onLot n _
  unfold State.restart
  dsimp only
  refine .trans (t := State.onClock _ _) ?_ (State.tidy_beginSegment _ _)
  exact h.keep rfl rfl rfl rfl

theorem length_pushTick (h : List TickRec) (e : TickRec) : (pushTick h e).length ≤ Config.historyCapacity := by
  unfold pushTick
  simp only [List.length_drop, List.length_append, List.length_singleton, Config.historyCapacity]
  omega

theorem State.tidy_tickTaken (s : State) (l : Lot) : s.Tidy (s.tickTaken l) := by
  unfold State.tickTaken
  split
  · exact ⟨.refl _, .refl _, id, fun _ => length_pushTick _ _⟩
  · exact s.tidy_enterShowing _

theorem State.tidy_lotOff (s : State) : s.Tidy s.lotOff := by
  have h := State.tidy_onCurrent (s.onClock fun c => { c with tickTimer := none, showTimer := none, autoTimer := none })
    (fun n ls => ls.close n) fun n a => a.tidy_close n
  have h0 : s.Tidy (s.onClock fun c => { c with tickTimer := none, showTimer := none, autoTimer := none }) :=
    .of_eq rfl rfl rfl rfl
  unfold State.lotOff
  dsimp only
  refine .raise (.setClock (t := State.onClock _ _) ?_ _ _) _
  exact (h0.trans h).keep rfl rfl rfl rfl

theorem State.tidy_answer (s : State) (a : SeatAddr) (c : AnswerCode) (v : Nat) : s.Tidy (s.answer a c v) :=
  .of_eq rfl rfl rfl rfl

theorem State.tidy_answerLate (s : State) (l : List Contender) : s.Tidy (s.answerLate l) := by
  induction l generalizing s with
  | nil => exact .refl s
  | cons x xs ih => exact (s.tidy_answer _ _ _).trans (ih _)

theorem State.tidy_insertPress (s : State) (x : Contender) : s.Tidy (s.insertPress x) := by
  unfold State.insertPress
  dsimp only
  split <;> exact .of_eq rfl rfl rfl rfl

theorem State.tidy_closeWon (s : State) (n : Nat) (x : Contender) (after : List Contender) (u p : Nat) (a : Amounts) :
    s.Tidy (s.closeWon n x after u p a) := by
  unfold State.closeWon
  dsimp only
  have h := ((s.tidy_append (purchaseOf s.clock n x u p a)).onBuyer x.buyer fun b => b.raisePending a.total).onLots
    (fun ls => ls.strike n u p x.buyer) (LotStore.tidy_onLot _ n _)
  have h3 := (h.trans (State.tidy_answer _ x.seat .won u)).trans (State.tidy_answerLate _ after)
  generalize State.answerLate _ _ = s3 at h3 ⊢
  have h4 : s.Tidy s3.endContest := h3.keep rfl rfl rfl rfl
  exact (h4.trans (State.tidy_enterShowing _ .sale)).raise .sale

theorem LotStore.tidy_placed (a : LotStore) (t : Nat) (k : Sec) : a.Tidy (a.placed t k) := a.tidy_onTrain t _

theorem State.Tidy.carried (h0 : s.Tidy t) (x : Option Nat) (a b : Sec) : s.Tidy (t.carried x a b) := by
  have h := h0.mapRail fun r => (r.clearSec a).occupy b x
  unfold State.carried
  cases x with
  | none => exact h
  | some n =>
    have h2 := h.onLots (fun ls => ls.placed n b) (LotStore.tidy_placed _ n b)
    dsimp only
    split
    · exact h2.onLots (fun ls => ls.present n) (LotStore.tidy_present _ n)
    · exact h2

theorem LotStore.tidy_ejected (a : LotStore) (t : Nat) : a.Tidy (a.ejected t) := a.tidy_onTrain t _

theorem State.Tidy.intakeEmptied (h : s.Tidy t) : s.Tidy t.intakeEmptied := by
  unfold State.intakeEmptied
  dsimp only
  split
  · next n _ => exact (h.onLots (fun ls => ls.ejected n) (LotStore.tidy_ejected _ n)).mapRail _
  · exact h.mapRail _

theorem State.Tidy.admitAt (h : s.Tidy t) (n : Nat) : s.Tidy (t.admitAt n) :=
  (((h.onLots (fun ls => ls.admitTrain n) (LotStore.tidy_admitTrain _ n)).mapRail _).onRail _).raise _

theorem LotStore.tidy_misorder (a : LotStore) (t : Nat) : a.Tidy (a.misorder t) := a.tidy_onTrain t _

theorem State.tidy_decideAdmission (s : State) (tag : Nat) : s.Tidy (s.decideAdmission tag) := by
  have h : s.Tidy (s.mapRail Rail.endWait) := .mapRail (.refl s) _
  unfold State.decideAdmission
  dsimp only
  split
  · exact h.admitAt tag
  · exact ((h.onLots (fun ls => ls.misorder tag) (LotStore.tidy_misorder _ tag)).mapRail _).raise _
  · exact (h.mapRail _).raise _

@[simp] theorem Scanner.adopt_beacons (sc : Scanner) (n : Nat) : (sc.adopt n).beacons = sc.beacons := by simp [Scanner.adopt]

theorem Deed.tidy (h : Deed s t) : s.Tidy t := by
  cases h with
  | declareLot d hr hn hc => exact s.tidy_onLots _ ⟨Tbl.tidy_put _ _ _ hn hc, .refl _⟩
  | dropLot n l hn hd => exact s.tidy_onLots _ (s.lots.tidy_eraseLot n)
  | announce t k ns h0 hl hns ht hc hd => exact s.tidy_onLots _ (s.lots.tidy_announce t k ns ht hc)
  | cancel t tr ht ha => exact s.tidy_onLots _ (s.lots.tidy_cancel t tr)
  | toHead t ht => exact s.tidy_onLots _ (s.lots.tidy_queue _)
  | post r rest hr => exact (s.tidy_settleRecord r).trans (State.tidy_dropHead _)
  | void r n hr hp => exact s.tidy_voidRecord r
  | openAccount n limit fee hn hc => exact s.tidy_onBuyers _ (Tbl.tidy_put _ _ _ hn hc)
  | closeAccount n b hb hp ho hs => exact s.tidy_onBuyers _ (Tbl.tidy_erase _ n)
  | buyer n f hs hp ho hl => exact .onBuyer (.refl s) n f
  | scan sc hs hc hn hb => exact ⟨.refl _, .refl _, hb, id⟩
  | unbind a b hb => exact ⟨.refl _, s.accounts.tidy_clearSeat b, id, id⟩
  | bind a b acc hr => exact ⟨.refl _, Accounts.tidy_seatRequest hr, id, id⟩
  | load n hs hn => exact s.tidy_loadLot n
  | segment k hs hf ht => exact s.tidy_beginSegment k
  | setting c hc ht hw hd hb =>
    have hh : c.history = s.clock.history := by rw [hc]
    exact .of_eq rfl rfl rfl hh
  | haltDesk hs ht => exact s.tidy_setClock _ _
  | haltFull hs ht => exact s.tidy_setClock _ _
  | haltAfter l r hl hs ht hw => exact s.tidy_haltAfterShowing l r
  | restart l hl hs ht hr hf => exact s.tidy_restart l
  | tick l hl hs => exact s.tidy_tickTaken l
  | closeLot hs hc => exact s.tidy_lotOff
  | openContest x hs ht => exact .setClock (.onClock (.refl s) _ rfl) _ _
  | insertPress x hs ha hb ht => exact s.tidy_insertPress x
  | closeNone hs =>
    have h0 : s.Tidy s.endContest := .of_eq rfl rfl rfl rfl
    have h := h0.setClock .running none
    exact h.keep rfl rfl rfl rfl
  | closeWon n l x after u p a hs hn hl hw => exact s.tidy_closeWon n x after u p a
  | arriveMove k b st hk hd hl hj => exact (State.Tidy.mapRail (.refl s) fun r => r.dropStall k).carried _ _ _
  | emptyEject k st hk hd he => exact (State.Tidy.mapRail (.refl s) fun r => r.dropStall 0).intakeEmptied
  | decide tag h => exact s.tidy_decideAdmission tag
  | admitHeld t ht => exact .admitAt (.refl s) t
  | moved i m b hm hd =>
    exact ((State.Tidy.onRail (.refl s) fun w => w.haltAll m.chans).carried m.train m.source b).mapRail fun r => r.freeMove i
  | ejected i m hm hd =>
    exact (State.Tidy.onRail (.refl s) fun w => w.haltAll m.chans).intakeEmptied.mapRail fun r => r.freeMove i
  | departed t ht hk => exact ((s.tidy_onLots (fun ls => ls.depart t) (s.lots.tidy_depart t)).mapRail fun r => r.clearSec 6).raise .dispatched
  | fault c k hc => exact .onRail (.refl s) _
  | adopt n hn => exact ⟨.refl _, .refl _, fun h => (s.scan.adopt_beacons n).symm ▸ h, id⟩
  | relatch =>
    have h : s.Tidy { s with drive := s.drive.relatchAll s.inputs } := .of_eq rfl rfl rfl rfl
    exact h.onRail fun w => w.reportLatched allChans
  | _ => exact .of_eq rfl rfl rfl rfl

theorem State.tidy_railDone (s b : State) : s.Tidy (s.railDone b) := .of_eq (by simp) (by simp) (by simp) (by simp)

theorem State.Tidy.tablesOk (h : s.Tidy t) (hs : s.TablesOk) : t.TablesOk :=
  ⟨h.lots.1.1 hs.1, h.lots.2.1 hs.2.1, h.buyers.1 hs.2.2⟩

theorem State.Tidy.capacityOk (h : s.Tidy t) (hs : s.CapacityOk) : t.CapacityOk :=
  ⟨h.lots.1.2 hs.1, h.lots.2.2 hs.2.1, h.buyers.2 hs.2.2.1, h.beacons hs.2.2.2.1, h.history hs.2.2.2.2⟩

/-- A reset leaves the Lot Store empty, the clock and the scanner at their reset values, and the accounts and the log it is
given. -/
theorem State.resetWith_eq (s : State) (c : ResetCause) (a : Accounts) (l : Log) :
    (s.resetWith c a l).lots = { lots := [], trains := [], queue := [] } ∧ (s.resetWith c a l).clock = Clock.reset ∧
    (s.resetWith c a l).scan = Scanner.reset ∧ (s.resetWith c a l).accounts = a ∧ (s.resetWith c a l).log = l ∧
    (s.resetWith c a l).face = Face.reset ∧ (s.resetWith c a l).pending = s.pending ∧
    (s.resetWith c a l).inputs = s.inputs := ⟨rfl, rfl, rfl, rfl, rfl, rfl, rfl, rfl⟩

end

theorem Kept.tablesOk : Kept State.TablesOk :=
  .of_deeds (fun _ _ _ h => h) (fun _ _ h => h) (fun hd h => hd.tidy.tablesOk h) (fun _ h => h)
    (fun s b h => (s.tidy_railDone b).tablesOk h) (fun _ _ => ⟨rfl, rfl, rfl⟩)
    (fun s h => ⟨rfl, rfl, (s.accounts.buyers.wf_mapAll fun _ r => { r with seat := none }).trans h.2.2⟩)

theorem Kept.capacityOk : Kept State.CapacityOk :=
  .of_deeds (fun _ _ _ h => h) (fun _ _ h => h) (fun hd h => hd.tidy.capacityOk h) (fun _ h => h)
    (fun s b h => (s.tidy_railDone b).capacityOk h)
    (fun _ _ => ⟨Nat.zero_le _, Nat.zero_le _, Nat.zero_le _, Nat.zero_le _, Nat.zero_le _⟩)
    (fun s h => ⟨Nat.zero_le _, Nat.zero_le _, (s.accounts.buyers.length_mapAll fun _ r => { r with seat := none }).trans_le h.2.2.1, Nat.zero_le _,
      Nat.zero_le _⟩)

/-- Settles O55: every deed leaves each table with the keys it had, fewer, or one more where there was room. -/
theorem everyStepKeepsTables : Obligations.EveryStepKeepsTables := fun _ _ ht hs =>
  ⟨Kept.tablesOk.step hs ht, Kept.capacityOk.step hs⟩

end Sys2Proof.Machine

/-!
The face image, the port records and the channel records, deed by deed.
-/

namespace Sys2Proof.Machine

/-! ## The face image and the ports -/

/-- With no train on record nothing is coming to the clock (R186). -/
theorem previewOf_empty (r : Rail) : previewOf r { lots := [], trains := [], queue := [] } = [] := by
  have h : railLots r { lots := [], trains := [], queue := [] } = [] :=
    List.flatMap_eq_nil_iff.mpr fun k _ => by split <;> rfl
  unfold previewOf
  rw [h]
  rfl

theorem State.resetWith_imageOk (s : State) (c : ResetCause) (a : Accounts) (l : Log) : (s.resetWith c a l).ImageOk := by
  obtain ⟨hl, hc, -, -, -, hf, -⟩ := s.resetWith_eq c a l
  unfold State.ImageOk State.imageNow
  rw [hf, hc, hl, previewOf_empty]
  rfl

theorem Kept.imageOk : Kept State.ImageOk where
  queue _ _ h := h
  change h hs := by
    cases h with
    | quiet _ hi => exact hi hs
    | refaced _ => exact State.reface_imageOk _
    | railDone _ b => exact State.railDone_imageOk _ b
  fall _ _ _ h := h
  rise _ _ _ h := h
  power _ _ := State.resetWith_imageOk _ _ _ _
  pin _ _ := State.resetWith_imageOk _ _ _ _

/-- A port that holds nothing of a frame or reply and no poison is consistent. -/
theorem Port.Ok.of_idle {p : Role} {r : Port} (hp : r.phase = .frame) (hl : r.replyLeft = []) (hf : r.frame = [])
    (hd : r.discarded = 0) (hn : r.poisoned = false) (hs : r.window = .opened → r.selectLow = true)
    (he : r.events &&& ~~~ kindBits p = 0) (hm : r.mask &&& ~~~ kindBits p = 0) : r.Ok p := by
  refine ⟨by simp [hp, hl], fun _ => ⟨hf, hl, hn⟩, hs, he, hm, by simp [hf], fun h => by simp [hd] at h, fun e h => ?_⟩
  simp [Port.extent, Port.lengthWord, hf] at h

theorem Port.Ok.reset (p : Role) (low : Bool) : ({ Port.reset with selectLow := low } : Port).Ok p :=
  .of_idle rfl rfl rfl rfl rfl (fun h => nomatch h) BitVec.zero_and BitVec.zero_and

theorem Port.Ok.openWindow {p : Role} {r : Port} (h : r.Ok p) : r.openWindow.Ok p := by
  obtain ⟨-, -, -, h4, h5, -⟩ := h
  exact .of_idle rfl rfl rfl rfl rfl (fun _ => rfl) h4 h5

theorem Port.Ok.closeWindow {p : Role} {r : Port} (h : r.Ok p) : r.closeWindow.Ok p := by
  obtain ⟨-, -, -, h4, h5, -⟩ := h
  unfold Port.closeWindow
  dsimp only
  split
  · exact .of_idle rfl rfl rfl rfl rfl (fun h => nomatch h) BitVec.zero_and BitVec.zero_and
  · exact .of_idle rfl rfl rfl rfl rfl (fun h => nomatch h) h4 h5

theorem State.PortsOk.onPort {s : State} (h : s.PortsOk) (p : Role) (f : Port → Port) (hf : (f (s.port p)).Ok p) :
    (s.onPort p f).PortsOk := fun q => by
  by_cases hq : p = q
  · subst hq; rw [State.port_onPort_self]; exact hf
  · rw [State.port_onPort_ne _ _ hq]; exact h q

theorem State.resetWith_portsOk (s : State) (c : ResetCause) (a : Accounts) (l : Log) : (s.resetWith c a l).PortsOk := by
  unfold State.resetWith
  dsimp only
  refine State.Raises.portsOk (State.raises_onRail _ _) fun p => ?_
  cases p <;> exact .reset _ _

theorem Kept.portsOk : Kept State.PortsOk where
  queue _ _ h := h
  change := Change.keeps Deed.portsOk (fun _ h => h) fun s b h => (s.raises_railDone b).portsOk h
  fall _ p _ h := h.onPort p _ (h p).openWindow
  rise _ p _ h := h.onPort p _ (h p).closeWindow
  power _ _ := State.resetWith_portsOk _ _ _ _
  pin _ _ := State.resetWith_portsOk _ _ _ _

/-! ## The channels (R55, R58, R64) -/

section
variable {c : Channel}

theorem Channel.energise_latched {f : FaultKind} (h : c.latch = some f) (d : Dir) : c.energise d = (c, false) := by
  simp [Channel.energise, h]
theorem Channel.energise_turning {x : Dir} (hl : c.latch = none) (ht : c.turn = some x) (d : Dir) :
    c.energise d = ({ c with turn := some d }, true) := by simp [Channel.energise, hl, ht]
theorem Channel.energise_off (hl : c.latch = none) (ht : c.turn = none) (ho : c.output = .off) (d : Dir) :
    c.energise d = ({ c with output := d.output, rest := .opened }, true) := by simp [Channel.energise, hl, ht, ho]
theorem Channel.energise_same {d : Dir} (hl : c.latch = none) (ht : c.turn = none) (ho : c.output = d.output) :
    c.energise d = (c, true) := by
  have hd : d.output ≠ .off := by cases d <;> decide
  simp [Channel.energise, hl, ht, ho, hd]
theorem Channel.energise_reversed {d : Dir} (hl : c.latch = none) (ht : c.turn = none) (ho : c.output ≠ .off)
    (hd : c.output ≠ d.output) :
    c.energise d = ({ c with output := .off, rest := .opened, turn := some d, deadTime := some Config.deadTime }, true) := by
  simp [Channel.energise, hl, ht, ho, hd]

theorem Channel.halt_latched {f : FaultKind} (h : c.latch = some f) : c.halt = c := by simp [Channel.halt, h]
theorem Channel.halt_free (h : c.latch = none) :
    c.halt = { c with output := .off, rest := c.stop.rest, turn := none, deadTime := none } := by simp [Channel.halt, h]

theorem Channel.turnOver_turning {d : Dir} (h : c.turn = some d) :
    c.turnOver = { c with output := d.output, rest := .opened, turn := none, deadTime := none } := by
  simp [Channel.turnOver, h]
theorem Channel.turnOver_still (h : c.turn = none) : c.turnOver = { c with deadTime := none } := by
  simp [Channel.turnOver, h]

end

theorem Channel.Ok.energise {c : Channel} (h : c.Ok) (d : Dir) : (c.energise d).1.Ok := by
  obtain ⟨h1, h2, h3⟩ := h
  cases hl : c.latch with
  | some f => rw [c.energise_latched hl]; exact ⟨h1, h2, h3⟩
  | none =>
    have hn (p : Prop) : c.latch.isSome = true → p := fun hc => by simp [hl] at hc
    cases ht : c.turn with
    | some x =>
      have ht' : c.turn.isSome := by simp [ht]
      rw [Channel.energise_turning hl ht]
      exact ⟨hn _, ⟨fun _ => h2.mp ht', fun _ => rfl⟩, fun _ => h3 ht'⟩
    | none =>
      by_cases ho : c.output = .off
      · rw [Channel.energise_off hl ht ho]
        exact ⟨hn _, h2, fun hc => by simp [ht] at hc⟩
      by_cases hd : c.output = d.output
      · rw [Channel.energise_same hl ht hd]; exact ⟨h1, h2, h3⟩
      · rw [Channel.energise_reversed hl ht ho hd]
        exact ⟨hn _, ⟨fun _ => rfl, fun _ => rfl⟩, fun _ => rfl⟩

/-- A channel OFF with no turn pending is consistent where a latch finds it OPEN. -/
theorem Channel.Ok.rested {c : Channel} (ho : c.output = .off) (ht : c.turn = none) (hd : c.deadTime = none)
    (hl : c.latch.isSome → c.rest = .opened) : c.Ok := by
  exact ⟨fun h => ⟨ho, hl h, ht⟩, by rw [ht, hd]; rfl, fun _ => ho⟩

theorem Channel.Ok.halt {c : Channel} (h : c.Ok) : c.halt.Ok := by
  unfold Channel.halt
  split
  · exact h
  · next hl => exact .rested rfl rfl rfl fun hc => by simp [hl] at hc

theorem Channel.latchFault_ok (c : Channel) (k : FaultKind) : (c.latchFault k).Ok := .rested rfl rfl rfl fun _ => rfl

theorem Channel.Ok.turnOver {c : Channel} (h : c.Ok) : c.turnOver.Ok := by
  obtain ⟨h1, h2, h3⟩ := h
  cases ht : c.turn with
  | some d =>
    have hl : ¬ c.latch.isSome := fun hl => by simp [(h1 hl).2.2] at ht
    rw [Channel.turnOver_turning ht]
    exact ⟨fun hc => absurd hc hl, Iff.rfl, fun hc => nomatch hc⟩
  | none =>
    rw [Channel.turnOver_still ht]
    exact ⟨h1, by simp [ht], h3⟩

theorem Channel.Ok.relatch {c : Channel} (h : c.Ok) (f : Option FaultKind) : (c.relatch f).Ok := by
  unfold Channel.relatch
  cases f with
  | some k => exact c.latchFault_ok k
  | none => exact ⟨fun hc => by simp at hc, h.2.1, h.2.2⟩

theorem Channel.Ok.deadTime_after {c : Channel} (h : c.Ok) (n : Nat) : ({ c with deadTime := c.deadTime.after n } : Channel).Ok :=
  ⟨h.1, by simpa [Timer.after] using h.2.1, h.2.2⟩

theorem Drive.Ok.set {d : Drive} (h : d.Ok) (k : Chan) {c : Channel} (hc : c.Ok) : ({ d with chans := d.chans.set k c } : Drive).Ok :=
  fun j => by
    by_cases hj : k = j
    · subst hj; simpa using hc
    · have hv : (k : Nat) ≠ (j : Nat) := fun e => hj (Fin.ext e)
      simpa [hv] using h j

theorem Drive.Ok.energise {d : Drive} (h : d.Ok) (k : Chan) (x : Dir) : (d.energise k x).1.Ok := h.set k ((h k).energise x)
theorem Drive.Ok.halt {d : Drive} (h : d.Ok) (k : Chan) : (d.halt k).Ok := h.set k (h k).halt
theorem Drive.Ok.latchFault {d : Drive} (h : d.Ok) (k : Chan) (f : FaultKind) : (d.latchFault k f).Ok :=
  h.set k (d.chans[k].latchFault_ok f)
theorem Drive.relatchAll_chan (d : Drive) (i : Inputs) (k : Chan) : (d.relatchAll i).chans[k] = d.chans[k].relatch (i.fault k) := by
  simp [Drive.relatchAll]
theorem Drive.Ok.relatchAll {d : Drive} (h : d.Ok) (i : Inputs) : (d.relatchAll i).Ok := fun k => by
  rw [Drive.relatchAll_chan]
  exact (h k).relatch _

/-! ## A fault report in its parts (R65) -/

/-- What a fault report on a channel stops: the move that runs it, a gate operation of D7, or the gate's known position. -/
def RailWork.stopFor (w : RailWork) (c : Chan) : RailWork :=
  match w.rail.slotOfChan c with
  | some i => w.stallMove i .driveFault
  | none =>
    if c = 7 then if w.rail.gateMoving then w.stallGate .driveFault else w.onRail fun r => { r with gate := .unknown } else w

/-- A jog of a channel gone. -/
def RailWork.dropJog (w : RailWork) (c : Chan) : RailWork :=
  match w.rail.jog with
  | some j => if j.chan = c then w.onRail fun r => { r with jog := none } else w
  | none => w

theorem RailWork.report_eq (w : RailWork) (c : Chan) (k : FaultKind) :
    w.report c k = ((if w.drive.reports k then w.note .fault else w).stopFor c).dropJog c := rfl

/-! ## What a rail operation does to the channels and to the rail's settings -/

/-- The move limits and the gate time are as they were. -/
def Rail.SameSettings (r r' : Rail) : Prop :=
  (∀ k : Sec, r'.secs[k].moveLimit = r.secs[k].moveLimit) ∧ r'.gateTime = r.gateTime

theorem Rail.SameSettings.refl (r : Rail) : r.SameSettings r := ⟨fun _ => rfl, rfl⟩
theorem Rail.SameSettings.trans {r r' r'' : Rail} (h : r.SameSettings r') (h' : r'.SameSettings r'') : r.SameSettings r'' :=
  ⟨fun k => (h'.1 k).trans (h.1 k), h'.2.trans h.2⟩
theorem Rail.SameSettings.of_eq {r r' : Rail} (hs : r'.secs = r.secs) (hg : r'.gateTime = r.gateTime) : r.SameSettings r' :=
  ⟨fun k => by rw [hs], hg⟩

@[simp] theorem Rail.onSec_self (r : Rail) (k : Sec) (f : SecRec → SecRec) : (r.onSec k f).secs[k] = f r.secs[k] := by
  simp [Rail.onSec]
theorem Rail.onSec_ne (r : Rail) {k j : Sec} (f : SecRec → SecRec) (h : j ≠ k) : (r.onSec k f).secs[j] = r.secs[j] := by
  have hv : (k : Nat) ≠ (j : Nat) := fun e => h (Fin.ext e.symm)
  simp [Rail.onSec, hv]
/-- A section record after a change of one section. -/
theorem Rail.onSec_get (r : Rail) (k j : Sec) (f : SecRec → SecRec) :
    (r.onSec k f).secs[j] = if j = k then f r.secs[j] else r.secs[j] := by
  by_cases h : j = k
  · subst h; rw [if_pos rfl, Rail.onSec_self]
  · rw [if_neg h, Rail.onSec_ne _ _ h]

theorem Rail.sameSettings_onSec (r : Rail) (k : Sec) (f : SecRec → SecRec) (hf : ∀ x, (f x).moveLimit = x.moveLimit) :
    r.SameSettings (r.onSec k f) := ⟨fun j => by rw [Rail.onSec_get]; split <;> simp [hf], rfl⟩

theorem Rail.SameSettings.onSec {r r' : Rail} (h : r.SameSettings r') (k : Sec) (f : SecRec → SecRec)
    (hf : ∀ x, (f x).moveLimit = x.moveLimit) : r.SameSettings (r'.onSec k f) := h.trans (r'.sameSettings_onSec k f hf)

theorem Rail.sameSettings_clearSec (r : Rail) (k : Sec) : r.SameSettings (r.clearSec k) := by
  have h := r.sameSettings_onSec k (fun x => { x with cond := .clear, occupant := none }) fun _ => rfl
  unfold Rail.clearSec
  dsimp only
  split
  · exact h.trans (.of_eq rfl rfl)
  · exact h
theorem Rail.sameSettings_occupy (r : Rail) (k : Sec) (t : Option Nat) : r.SameSettings (r.occupy k t) :=
  r.sameSettings_onSec k _ fun _ => rfl
theorem Rail.sameSettings_reoccupy (r : Rail) (k : Sec) : r.SameSettings (r.reoccupy k) := r.sameSettings_onSec k _ fun _ => rfl
theorem Rail.sameSettings_block (r : Rail) (k : Sec) : r.SameSettings (r.block k) := r.sameSettings_onSec k _ fun _ => rfl
theorem Rail.sameSettings_blockWith (r : Rail) (k : Sec) (t : Option Nat) : r.SameSettings (r.blockWith k t) :=
  r.sameSettings_onSec k _ fun _ => rfl

/-- A rail operation that keeps the channels consistent and the settings as they are. -/
structure RailWork.Steady (w w' : RailWork) : Prop where
  chans : w.drive.Ok → w'.drive.Ok
  settings : w.rail.SameSettings w'.rail

section
variable {w w' w'' : RailWork}

theorem RailWork.Steady.refl (w : RailWork) : w.Steady w := ⟨id, .refl _⟩
theorem RailWork.Steady.trans (h : w.Steady w') (h' : w'.Steady w'') : w.Steady w'' :=
  ⟨h'.chans ∘ h.chans, h.settings.trans h'.settings⟩
theorem RailWork.Steady.onRail (h : w.Steady w') (f : Rail → Rail) (hf : w'.rail.SameSettings (f w'.rail)) :
    w.Steady (w'.onRail f) := ⟨h.chans, h.settings.trans hf⟩
theorem RailWork.Steady.note (h : w.Steady w') (e : Event) : w.Steady (w'.note e) := ⟨h.chans, h.settings⟩

theorem RailWork.steady_haltAll (w : RailWork) (cs : List Chan) : w.Steady (w.haltAll cs) := by
  induction cs generalizing w with
  | nil => exact .refl w
  | cons c cs ih =>
    have h : w.Steady { w with drive := w.drive.halt c } := ⟨fun h => h.halt c, .refl _⟩
    exact h.trans (ih _)

theorem RailWork.steady_energiseAll (w : RailWork) (d : Dir) (cs : List Chan) : w.Steady (w.energiseAll d cs).1 := by
  induction cs generalizing w with
  | nil => exact .refl w
  | cons c cs ih =>
    have h : w.Steady { w with drive := (w.drive.energise c d).1 } := ⟨fun h => h.energise c d, .refl _⟩
    exact h.trans (ih _)

theorem RailWork.Steady.haltAll (h : w.Steady w') (cs : List Chan) : w.Steady (w'.haltAll cs) := h.trans (w'.steady_haltAll cs)

theorem RailWork.Steady.addStall (h : w.Steady w') (k : Sec) (st : Stall) : w.Steady (w'.addStall k st) :=
  (h.onRail (fun r => { r with stalls := r.stalls.set k (some st) }) (.of_eq rfl rfl)).note .stall

theorem RailWork.Steady.stallMove (h : w.Steady w') (i : Fin 3) (c : Cause) : w.Steady (w'.stallMove i c) := by
  unfold RailWork.stallMove
  split
  · exact h
  · next m _ =>
    refine .onRail (.addStall (.onRail (h.haltAll m.chans) _ ?_) _ _) _ (.of_eq rfl rfl)
    split
    · exact .trans (Rail.sameSettings_blockWith _ _ _) (Rail.sameSettings_blockWith _ _ _)
    · exact Rail.sameSettings_block _ _

theorem RailWork.Steady.stallGate (h : w.Steady w') (c : Cause) : w.Steady (w'.stallGate c) := by
  unfold RailWork.stallGate
  dsimp only
  refine .addStall (.onRail (h.haltAll [7]) _ ?_) _ _
  exact .trans (.of_eq rfl rfl) (Rail.sameSettings_block _ _)

theorem RailWork.Steady.stallEdge (h : w.Steady w') (k : Sec) : w.Steady (w'.stallEdge k) := by
  unfold RailWork.stallEdge
  dsimp only
  refine .addStall (.onRail h _ ?_) _ _
  split
  · exact .trans (Rail.sameSettings_block _ _) (.of_eq rfl rfl)
  · exact Rail.sameSettings_block _ _

theorem RailWork.Steady.beginGate (h : w.Steady w') (ls : LotStore) : w.Steady (w'.beginGate ls) := by
  unfold RailWork.beginGate
  dsimp only
  split
  · have h1 : w.Steady ((w'.energiseAll .forward [7]).1.onRail fun r => ({ r with gate := .opening } : Rail).startGateTimers) :=
      .onRail (h.trans (w'.steady_energiseAll _ _)) _ (.of_eq rfl rfl)
    split
    · exact h1
    · exact h1.stallGate _
  · exact .onRail (h.haltAll [7]) _ (.of_eq rfl rfl)

theorem RailWork.Steady.ite {w u : RailWork} {c : Prop} [Decidable c] (h : w.Steady w') (h' : w.Steady u) :
    w.Steady (if c then w' else u) := by split <;> assumption

theorem RailWork.Steady.grantMove (h : w.Steady w') (i : Fin 3) (a b : Sec) : w.Steady (w'.grantMove i a b) := by
  unfold RailWork.grantMove
  dsimp only
  generalize hm : (Move.mk _ _ _ _) = m
  have h1 : w.Steady (w'.onRail fun r => ({ r with slots := r.slots.set i (some m) } : Rail).onSec b
      fun x => { x with cond := .reserved, occupant := none }) :=
    .onRail h _ (.trans (.of_eq rfl rfl) (Rail.sameSettings_onSec _ _ _ fun _ => rfl))
  have h2 := h1.trans (RailWork.steady_energiseAll _ .forward m.chans)
  exact .ite h2 (h2.stallMove i _)

theorem RailWork.Steady.grantEject (h : w.Steady w') (i : Fin 3) : w.Steady (w'.grantEject i) := by
  unfold RailWork.grantEject
  dsimp only
  generalize hm : (Move.mk _ _ _ _) = m
  have h1 : w.Steady (w'.onRail fun r => { r with slots := r.slots.set i (some m), ejectPending := false }) :=
    .onRail h _ (.of_eq rfl rfl)
  have h2 := h1.trans (RailWork.steady_energiseAll _ .reverse m.chans)
  exact .ite h2 (h2.stallMove i _)

theorem RailWork.Steady.arbitrate (h : w.Steady w') (ls : LotStore) (n : Nat) : w.Steady (RailWork.arbitrate ls n w') := by
  induction n generalizing w' with
  | zero => exact h
  | succ n ih =>
    unfold RailWork.arbitrate
    split
    · exact h
    · next i _ =>
      split
      · next m _ => exact ih (h.grantMove i m.1 m.2)
      · exact .ite (ih (h.grantEject i)) h

theorem RailWork.steady_settle (w : RailWork) (ls : LotStore) : w.Steady (w.settle ls) := by
  have h : w.Steady w.holdTest :=
    .ite (.note (.onRail (.refl w) (fun r => { r with hold := .held }) (.of_eq rfl rfl)) .holdAck) (.refl w)
  unfold RailWork.settle
  dsimp only
  split
  · exact .arbitrate (.ite (h.beginGate ls) h) ls 10
  · exact h

theorem RailWork.Steady.endJog (h : w.Steady w') : w.Steady w'.endJog := by
  unfold RailWork.endJog
  split
  · exact .onRail (h.haltAll _) _ (.of_eq rfl rfl)
  · exact h

theorem RailWork.steady_lotLoaded (w : RailWork) : w.Steady w.lotLoaded := by
  unfold RailWork.lotLoaded
  split
  · exact .ite (.endJog (.refl w)) (.refl w)
  · exact .refl w

theorem RailWork.Steady.report (h : w.Steady w') (c : Chan) (k : FaultKind) : w.Steady (w'.report c k) := by
  rw [RailWork.report_eq]
  have h1 : w.Steady (if w'.drive.reports k then w'.note .fault else w') := .ite (h.note _) h
  have h2 : w.Steady ((if w'.drive.reports k then w'.note .fault else w').stopFor c) := by
    unfold RailWork.stopFor
    split
    · exact h1.stallMove _ _
    · exact .ite (.ite (h1.stallGate _) (h1.onRail _ (.of_eq rfl rfl))) h1
  unfold RailWork.dropJog
  split
  · exact .ite (h2.onRail _ (.of_eq rfl rfl)) h2
  · exact h2

theorem RailWork.Steady.reportLatched (h : w.Steady w') (cs : List Chan) : w.Steady (w'.reportLatched cs) := by
  induction cs generalizing w' with
  | nil => exact h
  | cons c cs ih =>
    unfold RailWork.reportLatched
    dsimp only
    split
    · exact ih (h.report _ _)
    · exact ih h

theorem RailWork.steady_cutEject (w : RailWork) : w.Steady w.cutEject := by
  have h : w.Steady (w.onRail fun r => { r with ejectPending := false }) := .onRail (.refl w) _ (.of_eq rfl rfl)
  unfold RailWork.cutEject
  dsimp only
  split
  · exact .onRail (h.haltAll _) _ (.of_eq rfl rfl)
  · exact h

end

end Sys2Proof.Machine

/-!
Every setting and count within its range, deed by deed.
-/

namespace Sys2Proof.Machine

/-! ## Settings and counts in their ranges -/

/-- The clock's settings and run time in their ranges (R91, R117). -/
def Clock.Ranged (c : Clock) : Prop :=
  2 ≤ c.tickPeriod ∧ c.tickPeriod ≤ 250 ∧ 5 ≤ c.showTime ∧ c.showTime ≤ 100 ∧ c.autoDelay ≤ 255 ∧
  c.runTime ≤ Config.maxRunTime ∧ stepsOk c.steps

/-- The move limits and the gate time in their ranges (R24, R35). -/
def Rail.Ranged (r : Rail) : Prop :=
  (∀ k : Sec, 5 ≤ r.secs[k].moveLimit ∧ r.secs[k].moveLimit ≤ 255) ∧ 100 ≤ r.gateTime ∧ r.gateTime ≤ 2550

/-- A seat's quantity, silence count and link (R71, R79). -/
def Seat.Ranged (x : Seat) : Prop :=
  1 ≤ x.quantity ∧ x.quantity ≤ 255 ∧ x.silence ≤ Config.maxSilence ∧ (x.link = .offline ↔ x.silence = Config.maxSilence)

/-- The scan counts and the seats in their ranges (R71, R72, R79). -/
def Scanner.Ranged (sc : Scanner) : Prop :=
  8 ≤ sc.scanCount ∧ sc.scanCount ≤ 256 ∧ (∀ n, sc.nextCount = some n → 8 ≤ n ∧ n ≤ 256) ∧
  ∀ a : SeatAddr, sc.seats[a].Ranged

theorem State.rangesOk_iff (s : State) : s.RangesOk ↔ s.clock.Ranged ∧ s.rail.Ranged ∧ s.scan.Ranged := by
  unfold State.RangesOk Clock.Ranged Rail.Ranged Scanner.Ranged Seat.Ranged
  simp only [and_assoc]

/-- The clock's settings as they were, and its run time within its top if it was. -/
def Clock.SameSettings (c c' : Clock) : Prop :=
  c'.tickPeriod = c.tickPeriod ∧ c'.showTime = c.showTime ∧ c'.autoDelay = c.autoDelay ∧ c'.steps = c.steps ∧
  (c.runTime ≤ Config.maxRunTime → c'.runTime ≤ Config.maxRunTime)

theorem Clock.SameSettings.ranged {c c' : Clock} (h : c.SameSettings c') (hc : c.Ranged) : c'.Ranged := by
  obtain ⟨h1, h2, h3, h4, h5⟩ := h
  obtain ⟨c1, c2, c3, c4, c5, c6, c7⟩ := hc
  exact ⟨h1 ▸ c1, h1 ▸ c2, h2 ▸ c3, h2 ▸ c4, h3 ▸ c5, h5 c6, h4 ▸ c7⟩

theorem Rail.SameSettings.ranged {r r' : Rail} (h : r.SameSettings r') (hr : r.Ranged) : r'.Ranged := by
  obtain ⟨h1, h2⟩ := h
  obtain ⟨r1, r2, r3⟩ := hr
  exact ⟨fun k => (h1 k).symm ▸ r1 k, h2 ▸ r2, h2 ▸ r3⟩

/-- What keeps the channels consistent and every setting and count in its range. -/
structure State.Steady (s t : State) : Prop where
  drive : s.drive.Ok → t.drive.Ok
  clock : s.clock.Ranged → t.clock.Ranged
  rail : s.rail.Ranged → t.rail.Ranged
  scan : s.scan.Ranged → t.scan.Ranged

section
variable {s t u : State}

theorem State.Steady.refl (s : State) : s.Steady s := ⟨id, id, id, id⟩
theorem State.Steady.trans (h : s.Steady t) (h' : t.Steady u) : s.Steady u :=
  ⟨h'.drive ∘ h.drive, h'.clock ∘ h.clock, h'.rail ∘ h.rail, h'.scan ∘ h.scan⟩

/-- A change that leaves the four blocks as they are. -/
theorem State.Steady.keep (h : s.Steady t) (hd : u.drive = t.drive) (hc : u.clock = t.clock) (hr : u.rail = t.rail)
    (hs : u.scan = t.scan) : s.Steady u :=
  ⟨fun x => hd ▸ h.drive x, fun x => hc ▸ h.clock x, fun x => hr ▸ h.rail x, fun x => hs ▸ h.scan x⟩

theorem State.Steady.onClock (h : s.Steady t) (f : Clock → Clock) (hf : t.clock.SameSettings (f t.clock)) :
    s.Steady (t.onClock f) := ⟨h.drive, fun x => hf.ranged (h.clock x), h.rail, h.scan⟩
theorem State.Steady.mapRail (h : s.Steady t) (f : Rail → Rail) (hf : t.rail.SameSettings (f t.rail)) :
    s.Steady (t.mapRail f) := ⟨h.drive, h.clock, fun x => hf.ranged (h.rail x), h.scan⟩
theorem State.Steady.onRail (h : s.Steady t) (f : RailWork → RailWork) (hf : ∀ w : RailWork, w.Steady (f w)) :
    s.Steady (t.onRail f) := ⟨fun x => (hf _).chans (h.drive x), h.clock, fun x => (hf _).settings.ranged (h.rail x), h.scan⟩
theorem State.Steady.onLots (h : s.Steady t) (f : LotStore → LotStore) : s.Steady (t.onLots f) := h.keep rfl rfl rfl rfl
theorem State.Steady.onBuyer (h : s.Steady t) (n : Nat) (f : Buyer → Buyer) : s.Steady (t.onBuyer n f) := h.keep rfl rfl rfl rfl
theorem State.Steady.raise (h : s.Steady t) (e : Event) : s.Steady (t.raise e) := h.keep rfl rfl rfl rfl
theorem State.Steady.setClock (h : s.Steady t) (st : ClockState) (r : Option HaltReason) : s.Steady (t.setClock st r) :=
  ⟨fun x => (t.setClock_drive st r).symm ▸ h.drive x, fun x => (t.setClock_clock st r).symm ▸ h.clock x,
    fun x => (t.setClock_rail st r).symm ▸ h.rail x, fun x => (t.setClock_scan st r).symm ▸ h.scan x⟩
theorem State.Steady.ite {c : Prop} [Decidable c] (h : s.Steady t) (h' : s.Steady u) : s.Steady (if c then t else u) := by
  split <;> assumption

theorem State.Steady.onSeat (h : s.Steady t) (a : SeatAddr) (f : Seat → Seat)
    (hf : t.scan.seats[a].Ranged → (f t.scan.seats[a]).Ranged) : s.Steady (t.onSeat a f) := by
  refine ⟨h.drive, h.clock, h.rail, fun x => ?_⟩
  obtain ⟨h1, h2, h3, h4⟩ := h.scan x
  refine ⟨h1, h2, h3, fun b => ?_⟩
  by_cases hb : b = a
  · subst hb; rw [State.onSeat_seat]; exact hf (h4 b)
  · rw [State.onSeat_seat_ne _ _ hb]; exact h4 b

theorem State.Steady.answer (h : s.Steady t) (a : SeatAddr) (c : AnswerCode) (v : Nat) : s.Steady (t.answer a c v) :=
  h.onSeat a _ id

theorem State.Steady.answerLate (h : s.Steady t) (l : List Contender) : s.Steady (t.answerLate l) := by
  induction l generalizing t with
  | nil => exact h
  | cons x xs ih => exact ih (h.answer ..)

theorem State.steady_append (s : State) (r : BitVec 32 → Purchase) : s.Steady (s.append r) := by
  have h (l : Log) : s.Steady ({ s with log := l } : State) := .keep (.refl s) rfl rfl rfl rfl
  unfold State.append State.raiseLogFull
  exact .ite (.raise (.raise (.ite (.raise (.raise (h _) _) _) (.raise (h _) _)) _) _)
    (.ite (.raise (.raise (h _) _) _) (.raise (h _) _))

theorem State.steady_dropHead (s : State) : s.Steady s.dropHead := by
  have h (l : Log) : s.Steady ({ s with log := l } : State) := .keep (.refl s) rfl rfl rfl rfl
  unfold State.dropHead State.raiseLogFull
  exact .ite (.raise (.raise (h _) _) _) (h _)

theorem State.steady_settleRecord (s : State) (r : Purchase) : s.Steady (s.settleRecord r) := by
  unfold State.settleRecord
  split
  · exact .refl s
  · exact .ite (.onBuyer (.refl s) _ _) (.onLots (.onBuyer (.refl s) _ _) _)

theorem State.steady_voidRecord (s : State) (r : Purchase) : s.Steady (s.voidRecord r) := by
  have h : s.Steady ({ s with log := s.log.markVoid r.seq } : State) := .keep (.refl s) rfl rfl rfl rfl
  unfold State.voidRecord
  exact .ite (h.onBuyer _ _) ((h.onBuyer _ _).onLots _)

theorem State.steady_loadLot (s : State) (n : Nat) : s.Steady (s.loadLot n) := by
  have h := (State.Steady.onLots (.refl s) fun ls => ls.load n).onRail RailWork.lotLoaded RailWork.steady_lotLoaded
  unfold State.loadLot
  dsimp only
  exact .setClock (.onClock h _ ⟨rfl, rfl, rfl, rfl, id⟩) _ _

/-- What is done to the Lot Store for the current lot touches no setting. -/
theorem State.steady_onCurrent (s : State) (f : Nat → LotStore → LotStore) :
    s.Steady (match s.clock.lot with
      | some n => s.onLots (f n)
      | none => s) := by
  cases s.clock.lot with
  | none => exact .refl s
  | some n => exact .onLots (.refl s) _

theorem State.Steady.beacons (h : s.Steady t) (b : List BeaconRec) :
    s.Steady { t with scan := { t.scan with beacons := b } } := h.trans ⟨id, id, id, id⟩

theorem State.steady_beginSegment (s : State) (k : SegmentKind) : s.Steady (s.beginSegment k) := by
  have h := s.steady_onCurrent fun n ls => ls.toClock n
  unfold State.beginSegment
  dsimp only
  refine State.Steady.beacons (.setClock (.onClock h _ ?_) .running none) []
  exact ⟨rfl, rfl, rfl, rfl, fun _ => Nat.zero_le _⟩

theorem State.Steady.enterShowing (h : s.Steady t) (k : ShowingKind) : s.Steady (t.enterShowing k) := by
  unfold State.enterShowing
  exact .setClock (h.onClock _ ⟨rfl, rfl, rfl, rfl, id⟩) _ _

theorem State.steady_restart (s : State) (l : Lot) : s.Steady (s.restart l) := by
  have h := s.steady_onCurrent fun n ls => ls.onLot n fun e => { e with restartsUsed := e.restartsUsed + 1 }
  unfold State.restart
  dsimp only
  exact .trans (.onClock h _ ⟨rfl, rfl, rfl, rfl, id⟩) (State.steady_beginSegment _ _)

theorem State.steady_lotOff (s : State) : s.Steady s.lotOff := by
  have h0 : s.Steady (s.onClock fun c => { c with tickTimer := none, showTimer := none, autoTimer := none }) :=
    .onClock (.refl s) _ ⟨rfl, rfl, rfl, rfl, id⟩
  have h := h0.trans (State.steady_onCurrent _ fun n ls => ls.close n)
  unfold State.lotOff
  dsimp only
  exact .raise (.setClock (.onClock h _ ⟨rfl, rfl, rfl, rfl, id⟩) _ _) _

theorem State.steady_insertPress (s : State) (x : Contender) : s.Steady (s.insertPress x) := by
  unfold State.insertPress
  dsimp only
  split
  · exact .onClock (.refl s) _ ⟨rfl, rfl, rfl, rfl, id⟩
  · exact .answer (.onClock (.refl s) _ ⟨rfl, rfl, rfl, rfl, id⟩) _ _ _

theorem State.steady_closeWon (s : State) (n : Nat) (x : Contender) (after : List Contender) (u p : Nat) (a : Amounts) :
    s.Steady (s.closeWon n x after u p a) := by
  have h := ((s.steady_append (purchaseOf s.clock n x u p a)).onBuyer x.buyer fun b => b.raisePending a.total).onLots
    fun ls => ls.strike n u p x.buyer
  have h3 := (h.answer x.seat .won u).answerLate after
  unfold State.closeWon
  dsimp only
  exact .raise (.enterShowing (h3.onClock _ ⟨rfl, rfl, rfl, rfl, id⟩) _) _

theorem State.Steady.carried (h0 : s.Steady t) (x : Option Nat) (a b : Sec) : s.Steady (t.carried x a b) := by
  have h := h0.mapRail (fun r => (r.clearSec a).occupy b x)
    ((Rail.sameSettings_clearSec _ _).trans (Rail.sameSettings_occupy _ _ _))
  unfold State.carried
  cases x with
  | none => exact h
  | some n => exact .ite ((h.onLots _).onLots _) (h.onLots _)

theorem State.Steady.intakeEmptied (h : s.Steady t) : s.Steady t.intakeEmptied := by
  unfold State.intakeEmptied
  dsimp only
  split
  · exact (h.onLots _).mapRail _ (Rail.sameSettings_clearSec _ _)
  · exact h.mapRail _ (Rail.sameSettings_clearSec _ _)

theorem Rail.sameSettings_intakeTrain (r : Rail) (t : Nat) : r.SameSettings (r.intakeTrain t) := by
  unfold Rail.intakeTrain
  dsimp only
  generalize (if r.secs[(0 : Sec)].cond = Cond.blocked then Cond.blocked else Cond.occupied) = c
  exact .trans (r.sameSettings_onSec 0 (fun x => { x with cond := c, occupant := some t }) fun _ => rfl) (.of_eq rfl rfl)

theorem Rail.sameSettings_renameEject (r : Rail) (t : Nat) : r.SameSettings (r.renameEject t) := by
  unfold Rail.renameEject
  split
  · exact .of_eq rfl rfl
  · exact .refl r

theorem State.Steady.admitAt (h : s.Steady t) (n : Nat) : s.Steady (t.admitAt n) :=
  (((h.onLots _).mapRail _ (Rail.sameSettings_intakeTrain _ n)).onRail _ RailWork.steady_cutEject).raise _

theorem State.steady_decideAdmission (s : State) (tag : Nat) : s.Steady (s.decideAdmission tag) := by
  have h : s.Steady (s.mapRail Rail.endWait) := .mapRail (.refl s) _ (.of_eq rfl rfl)
  unfold State.decideAdmission
  dsimp only
  split
  · exact h.admitAt tag
  · exact ((h.onLots fun ls => ls.misorder tag).mapRail _
      ((Rail.sameSettings_intakeTrain _ _).trans (Rail.sameSettings_renameEject _ _))).raise _
  · exact (h.mapRail _ ((Rail.sameSettings_occupy _ 0 none).trans (.of_eq rfl rfl))).raise _

theorem Drive.Ok.after {d : Drive} (h : d.Ok) (n : Nat) : (d.after n).Ok := fun k => by
  have hk : (d.after n).chans[k] = { d.chans[k] with deadTime := d.chans[k].deadTime.after n } := by simp [Drive.after]
  rw [hk]
  exact (h k).deadTime_after n

theorem Clock.sameSettings_after (n : Nat) (c : Clock) : c.SameSettings (c.after n) := by
  refine ⟨rfl, rfl, rfl, rfl, fun h => ?_⟩
  unfold Clock.after
  dsimp only
  split
  · exact Nat.min_le_right _ _
  · exact h

theorem Rail.presentKept_sameSettings (r : Rail) : r.SameSettings r.presentKept := by
  unfold Rail.presentKept
  split
  · exact r.sameSettings_reoccupy 5
  · exact r.sameSettings_clearSec 5

theorem Rail.sameSettings_completeGate (r : Rail) : r.SameSettings r.completeGate := by
  unfold Rail.completeGate
  split
  · exact .of_eq rfl rfl
  · exact .of_eq rfl rfl
  · exact .refl r

theorem Rail.sameSettings_dropStall (r : Rail) (k : Sec) : r.SameSettings (r.dropStall k) := .of_eq rfl rfl

theorem Clock.Ranged.setting {c c' : Clock} (h : c.Ranged) (hr : c'.runTime = c.runTime)
    (ht : c'.tickPeriod = c.tickPeriod ∨ 2 ≤ c'.tickPeriod ∧ c'.tickPeriod ≤ 250)
    (hw : c'.showTime = c.showTime ∨ 5 ≤ c'.showTime ∧ c'.showTime ≤ 100)
    (hd : c'.autoDelay = c.autoDelay ∨ c'.autoDelay ≤ 255) (hb : c'.steps = c.steps ∨ stepsOk c'.steps) : c'.Ranged := by
  obtain ⟨c1, c2, c3, c4, c5, c6, c7⟩ := h
  refine ⟨?_, ?_, ?_, ?_, ?_, hr ▸ c6, ?_⟩
  · omega
  · omega
  · omega
  · omega
  · omega
  · rcases hb with e | hb
    · exact e ▸ c7
    · exact hb

@[simp] theorem Scanner.adopt_scanCount (sc : Scanner) (n : Nat) : (sc.adopt n).scanCount = n := by simp [Scanner.adopt]
@[simp] theorem Scanner.adopt_nextCount (sc : Scanner) (n : Nat) : (sc.adopt n).nextCount = none := by simp [Scanner.adopt]
theorem Scanner.adopt_seat (sc : Scanner) (n : Nat) (a : SeatAddr) :
    (sc.adopt n).seats[a] = if n ≤ a.val then { sc.seats[a] with answer := none } else sc.seats[a] := by
  simp [Scanner.adopt]

theorem Scanner.Ranged.adopt {sc : Scanner} (h : sc.Ranged) {n : Nat} (hn : sc.nextCount = some n) : (sc.adopt n).Ranged := by
  obtain ⟨-, -, h3, h4⟩ := h
  obtain ⟨h8, h256⟩ := h3 n hn
  refine ⟨by rw [sc.adopt_scanCount]; exact h8, by rw [sc.adopt_scanCount]; exact h256,
    fun m hm => absurd (sc.adopt_nextCount n ▸ hm) nofun, fun a => ?_⟩
  rw [Scanner.adopt_seat]
  split
  · exact h4 a
  · exact h4 a

theorem Scanner.Ranged.of_eq {sc sc' : Scanner} (h : sc.Ranged) (hs : sc'.seats = sc.seats) (hc : sc'.scanCount = sc.scanCount)
    (hn : sc'.nextCount = sc.nextCount) : sc'.Ranged := by
  unfold Scanner.Ranged at *
  rw [hs, hc, hn]
  exact h

theorem Rail.Ranged.moveLimit {r : Rail} (h : r.Ranged) (k : Sec) {v : Nat} (h5 : 5 ≤ v) (hv : v ≤ 255) :
    (r.onSec k fun x => { x with moveLimit := v }).Ranged := by
  refine ⟨fun j => ?_, h.2⟩
  rw [Rail.onSec_get]
  split
  · exact ⟨h5, hv⟩
  · exact h.1 j

theorem Channel.Ok.setting {c c' : Channel} (h : c.Ok)
    (e : c' = { c with mode := c'.mode, gen := c'.gen, stop := c'.stop }) : c'.Ok := by rw [e]; exact h

theorem Deed.steady (h : Deed s t) : s.Steady t := by
  have r := State.Steady.refl s
  cases h with
  | time n => exact ⟨fun h => h.after n, (s.clock.sameSettings_after n).ranged, Rail.SameSettings.ranged (.of_eq rfl rfl), id⟩
  | notice c w => exact ⟨id, id, id, id⟩
  | post x rest hr => exact (s.steady_settleRecord x).trans (State.steady_dropHead _)
  | void x n hr hp => exact s.steady_voidRecord x
  | seat a x hb hq hl =>
    refine r.onSeat a _ fun ⟨h1, h2, h3⟩ => ⟨?_, ?_, hl h3⟩
    · rcases hq with e | hq
      · exact e ▸ h1
      · exact hq.1
    · rcases hq with e | hq
      · exact e ▸ h2
      · exact hq.2
  | scan sc hs hc hn hb => exact ⟨id, id, id, fun h => h.of_eq hs hc hn⟩
  | adopt n hn => exact ⟨id, id, id, fun h => h.adopt hn⟩
  | nextCount n h8 hn =>
    exact ⟨id, id, id, fun ⟨h1, h2, _, h4⟩ => ⟨h1, h2, fun m hm => by cases hm; exact ⟨h8, hn⟩, h4⟩⟩
  | unbind a b hb =>
    have h : s.Steady { s with accounts := s.accounts.clearSeat b } := r.keep rfl rfl rfl rfl
    exact h.onSeat a _ id
  | bind a b acc hr =>
    have h : s.Steady { s with accounts := acc } := r.keep rfl rfl rfl rfl
    exact h.onSeat a _ fun ⟨_, _, h3⟩ => ⟨Nat.le_refl 1, by simp, h3⟩
  | load n hs hn => exact s.steady_loadLot n
  | segment k hs hf ht => exact s.steady_beginSegment k
  | setting c hc ht hw hd hb =>
    have hr : c.runTime = s.clock.runTime := by rw [hc]
    exact ⟨id, fun h => h.setting hr ht hw hd hb, id, id⟩
  | auto b t ht => exact r.onClock _ ⟨rfl, rfl, rfl, rfl, id⟩
  | note h w hs => exact r.onClock _ ⟨rfl, rfl, rfl, rfl, id⟩
  | price v hs => exact r.onClock _ ⟨rfl, rfl, rfl, rfl, id⟩
  | timers x y z hx hy hz => exact r.onClock _ ⟨rfl, rfl, rfl, rfl, id⟩
  | haltDesk hs ht => exact r.setClock _ _
  | haltFull hs ht => exact r.setClock _ _
  | haltAfter l x hl hs ht hw => exact .setClock (r.onClock _ ⟨rfl, rfl, rfl, rfl, id⟩) _ _
  | restart l hl hs ht hr hf => exact s.steady_restart l
  | tick l hl hs => exact .ite (r.onClock _ ⟨rfl, rfl, rfl, rfl, id⟩) (r.enterShowing _)
  | closeLot hs hc => exact s.steady_lotOff
  | openContest x hs ht => exact .setClock (r.onClock _ ⟨rfl, rfl, rfl, rfl, id⟩) _ _
  | insertPress x hs ha hb ht => exact s.steady_insertPress x
  | closeNone hs =>
    have h : s.Steady s.endContest := r.onClock _ ⟨rfl, rfl, rfl, rfl, id⟩
    exact (h.setClock .running none).onClock _ ⟨rfl, rfl, rfl, rfl, id⟩
  | closeWon n l x after u p a hs hn hl hw => exact s.steady_closeWon n x after u p a
  | moveLimit k v h5 hv => exact ⟨id, id, fun h => h.moveLimit k h5 hv, id⟩
  | gateTime v h hv => exact ⟨id, id, fun hr => ⟨hr.1, h, hv⟩, id⟩
  | holdRail hh => exact r.mapRail _ (.of_eq rfl rfl)
  | release hj => exact r.mapRail _ (.of_eq rfl rfl)
  | jog c d n hl hh hd hj =>
    exact (r.onRail (fun w => (w.energiseAll d [c]).1) fun w => w.steady_energiseAll d [c]).mapRail _ (.of_eq rfl rfl)
  | endJog => exact r.onRail _ fun w => .endJog (.refl w)
  | stallMove i cause => exact r.onRail _ fun w => .stallMove (.refl w) i cause
  | stallGate cause hg => exact r.onRail _ fun w => .stallGate (.refl w) cause
  | stallEdge k hk hb hg => exact r.onRail _ fun w => .stallEdge (.refl w) k
  | settleMove k b st hk hd =>
    exact r.mapRail _ (((Rail.sameSettings_dropStall _ k).trans (Rail.sameSettings_occupy _ k _)).trans
      (Rail.sameSettings_clearSec _ b))
  | arriveMove k b st hk hd hl hj => exact (r.mapRail (fun r => r.dropStall k) (.of_eq rfl rfl)).carried _ _ _
  | settleEject k st pend hk hd hp =>
    exact r.mapRail _ (((Rail.sameSettings_dropStall _ k).trans (Rail.sameSettings_reoccupy _ k)).trans (.of_eq rfl rfl))
  | resolveEject k st hk hd =>
    exact r.mapRail _ (((Rail.sameSettings_dropStall _ 0).trans (Rail.sameSettings_reoccupy _ 0)).trans (.of_eq rfl rfl))
  | emptyEject k st hk hd he => exact (r.mapRail (fun r => r.dropStall 0) (.of_eq rfl rfl)).intakeEmptied
  | settleGate k st hk hd hc => exact r.mapRail _ ((Rail.sameSettings_dropStall _ k).trans (Rail.presentKept_sameSettings _))
  | settleEdge k st hk hd t ht => exact r.mapRail _ ((Rail.sameSettings_dropStall _ k).trans (Rail.sameSettings_occupy _ k _))
  | unknownEdge st hk hd ht =>
    exact r.mapRail _ (((Rail.sameSettings_dropStall _ 0).trans (Rail.sameSettings_reoccupy _ 0)).trans (.of_eq rfl rfl))
  | clearEdge k st hk hd ht => exact r.mapRail _ ((Rail.sameSettings_dropStall _ k).trans (Rail.sameSettings_clearSec _ k))
  | clearSection k hk hb hn => exact r.mapRail _ (Rail.sameSettings_clearSec _ k)
  | ejectPends hc he => exact r.mapRail _ (.of_eq rfl rfl)
  | decide tag h => exact s.steady_decideAdmission tag
  | admitHeld t ht => exact r.admitAt t
  | waitTag hc hk => exact r.mapRail _ ((Rail.sameSettings_occupy _ 0 none).trans (.of_eq rfl rfl))
  | holdTag tag ha => exact r.mapRail _ (.of_eq rfl rfl)
  | endWait ha => exact r.mapRail _ (.of_eq rfl rfl)
  | moved i m b hm hd =>
    exact ((r.onRail (fun w => w.haltAll m.chans) fun w => w.steady_haltAll _).carried m.train m.source b).mapRail _
      (.of_eq rfl rfl)
  | ejected i m hm hd =>
    exact (r.onRail (fun w => w.haltAll m.chans) fun w => w.steady_haltAll _).intakeEmptied.mapRail _ (.of_eq rfl rfl)
  | departed t ht hk => exact ((r.onLots fun ls => ls.depart t).mapRail _ (Rail.sameSettings_clearSec _ 6)).raise _
  | gateTimer => exact r.mapRail _ (.of_eq rfl rfl)
  | gateDone hg => exact r.mapRail _ (Rail.sameSettings_completeGate _)
  | driveSetting d hd => exact ⟨fun h k => (h k).setting (hd k), id, id, id⟩
  | turnOver c => exact ⟨fun h => h.set c (h c).turnOver, id, id, id⟩
  | fault c k hc =>
    refine r.onRail _ fun w => ?_
    have h : w.Steady { w with drive := w.drive.latchFault c k } := ⟨fun h => h.latchFault c k, .refl _⟩
    exact h.report c k
  | relatch =>
    have h : s.Steady { s with drive := s.drive.relatchAll s.inputs } := ⟨fun h => h.relatchAll _, id, id, id⟩
    exact h.onRail (fun w => w.reportLatched allChans) fun w => .reportLatched (.refl w) allChans
  | _ => exact r.keep rfl rfl rfl rfl

theorem State.steady_railDone (s b : State) : s.Steady (s.railDone b) := by
  have h : s.Steady s.settle := .onRail (.refl s) (fun w => w.settle s.lots) fun w => w.steady_settle s.lots
  exact h.keep (by simp) (by simp; rfl) (by simp) (by simp; rfl)

theorem Channel.reset_ok : Channel.reset.Ok := .rested rfl rfl rfl fun _ => rfl

theorem Drive.reset_ok : Drive.reset.Ok := fun k => by
  have h : Drive.reset.chans[k] = Channel.reset := by simp [Drive.reset]
  rw [h]; exact Channel.reset_ok

theorem Clock.reset_ranged : Clock.reset.Ranged := by
  refine ⟨by decide, by decide, by decide, by decide, by decide, Nat.zero_le _, ?_⟩
  exact ⟨by decide, by decide, by decide⟩

theorem Scanner.reset_ranged : Scanner.reset.Ranged := by
  refine ⟨by decide, by decide, (fun n h => nomatch (h : none = some n)), fun a => ?_⟩
  have h : Scanner.reset.seats[a] = Seat.reset := by simp [Scanner.reset]
  rw [h]
  exact ⟨by decide, by decide, Nat.zero_le _, by decide⟩

theorem Rail.surveyed_ranged (i : Inputs) : (Rail.surveyed i).Ranged := by
  refine ⟨fun k => ?_, show 100 ≤ 400 by decide, show 400 ≤ 2550 by decide⟩
  have h : (Rail.surveyed i).secs[k].moveLimit = 80 := by simp [Rail.surveyed, SecRec.reset]
  rw [h]
  decide

/-- A reset leaves the channels consistent and every setting in its range. -/
theorem State.resetWith_steady (s : State) (c : ResetCause) (a : Accounts) (l : Log) :
    (s.resetWith c a l).drive.Ok ∧ (s.resetWith c a l).clock.Ranged ∧ (s.resetWith c a l).rail.Ranged ∧
      (s.resetWith c a l).scan.Ranged := by
  have hw := RailWork.steady_settle { rail := Rail.surveyed s.inputs, drive := Drive.reset.relatchAll s.inputs, raised := 0 }
    { lots := [], trains := [], queue := [] }
  exact ⟨hw.chans (Drive.reset_ok.relatchAll _), Clock.reset_ranged, hw.settings.ranged (Rail.surveyed_ranged _),
    Scanner.reset_ranged⟩

end

theorem Kept.driveOk : Kept fun s => s.drive.Ok :=
  .of_deeds (fun _ _ _ h => h) (fun _ _ h => h) (fun hd h => hd.steady.drive h) (fun _ h => h)
    (fun s b h => (s.steady_railDone b).drive h) (fun s _ => (s.resetWith_steady _ _ _).1) fun s _ => (s.resetWith_steady _ _ _).1

theorem State.Steady.rangesOk {s t : State} (h : s.Steady t) (hs : s.RangesOk) : t.RangesOk := by
  obtain ⟨hc, hr, hk⟩ := s.rangesOk_iff.mp hs
  exact t.rangesOk_iff.mpr ⟨h.clock hc, h.rail hr, h.scan hk⟩

theorem Kept.rangesOk : Kept State.RangesOk :=
  .of_deeds (fun _ _ _ h => h) (fun _ _ h => h) (fun hd h => hd.steady.rangesOk h) (fun _ h => h)
    (fun s b h => (s.steady_railDone b).rangesOk h)
    (fun s _ => (State.rangesOk_iff _).mpr (s.resetWith_steady _ _ _).2)
    fun s _ => (State.rangesOk_iff _).mpr (s.resetWith_steady _ _ _).2

/-- Settles O60: the image is formed anew wherever a record it shows may change, and each of the other conditions is kept deed by
deed. -/
theorem everyStepKeepsFaceDrivePortsRanges : Obligations.EveryStepKeepsFaceDrivePortsRanges := fun _ _ hs =>
  ⟨Kept.imageOk.step hs, Kept.driveOk.step hs, Kept.portsOk.step hs, Kept.rangesOk.step hs⟩

end Sys2Proof.Machine

/-!
The clock record: what a deed can do to it, said once, and with that the contest's record, the agreement of the clock record with
the clock state, and the tick history.
-/

namespace Sys2Proof.Machine

/-! ## The clock record after a deed -/

/-- The clock record of a run segment begun (R95). -/
def Clock.begun (c : Clock) (k : SegmentKind) : Clock :=
  { c with state := .running, halt := none, segment := c.segment + 1, kind := k, runTime := 0,
           history := [{ runTime := 0, price := c.price }], stopTime := none, stopPrice := none, showing := none,
           notedHalt := false, notedWithdraw := false, tickTimer := c.tickStart }

/-- The clock record as SHOWING is entered (R105). -/
def Clock.shown (c : Clock) (k : ShowingKind) : Clock :=
  { c with state := .showing, halt := none, showing := some k, tickTimer := none,
           showTimer := some (c.showTime * Config.perTenth) }

/-- What a deed can do to the clock record. -/
inductive ClockDeed (s : State) : Clock → Prop
  | keep : ClockDeed s s.clock
  | after (n : Nat) : ClockDeed s (s.clock.after n)
  | notice (w : Bool) : ClockDeed s { s.clock with noticeWaiting := w }
  | load (n : Nat) (e : Lot) (hs : s.clock.state = .idle ∨ s.clock.state = .loaded) (he : s.lots.lots.get n = some e) :
      ClockDeed s (s.clock.loadedAt n e.startPrice)
  | segment (k : SegmentKind) (hs : s.clock.state = .loaded ∨ s.clock.state = .halted)
      (ht : s.clock.state = .loaded → s.clock.autoTimer = none) (hf : s.logFree = true) : ClockDeed s (s.clock.begun k)
  | setting (c : Clock) (hc : c = { s.clock with tickPeriod := c.tickPeriod, showTime := c.showTime,
                                                 autoDelay := c.autoDelay, steps := c.steps }) : ClockDeed s c
  | auto (b : Bool) (t : Timer) (ht : t.isSome → s.clock.autoTimer.isSome ∨ s.clock.state = .loaded) :
      ClockDeed s { s.clock with auto := b, autoTimer := t }
  | note (h w : Bool) (hs : s.clock.state = .showing) : ClockDeed s { s.clock with notedHalt := h, notedWithdraw := w }
  | price (v : Nat) (hs : s.clock.state = .loaded ∨ s.clock.state = .halted) :
      ClockDeed s { s.clock with price := s.priceSet v }
  | timers (x y z : Timer) (hx : x = s.clock.tickTimer ∨ x = none) (hy : y = s.clock.showTimer ∨ y = none)
      (hz : z = s.clock.autoTimer ∨ z = none) :
      ClockDeed s { s.clock with tickTimer := x, showTimer := y, autoTimer := z }
  | haltDesk (hs : s.clock.state = .running) (ht : s.clock.tickTimer = none) :
      ClockDeed s { s.clock with state := .halted, halt := some .desk }
  | haltFull (hs : s.clock.state = .loaded) (ht : s.clock.autoTimer = none) :
      ClockDeed s { s.clock with state := .halted, halt := some .logFull }
  | haltAfter (l : Lot) (r : HaltReason) (hl : s.curLot = some l) (hs : s.clock.state = .showing)
      (ht : s.clock.showTimer = none) (hw : s.clock.notedWithdraw = false) :
      ClockDeed s { s.clock with price := l.restartPrice, showing := none, notedHalt := false, state := .halted, halt := some r }
  | restart (l : Lot) (hl : s.curLot = some l) (hs : s.clock.state = .showing) (ht : s.clock.showTimer = none)
      (hf : s.logFree = true) : ClockDeed s (({ s.clock with price := l.restartPrice } : Clock).begun .restarted)
  | tick (l : Lot) (hl : s.curLot = some l) (hs : s.clock.state = .running) (hp : l.floorPrice < s.clock.price) :
      ClockDeed s { s.clock with
        price := descend s.clock.steps s.clock.price l.floorPrice,
        history := pushTick s.clock.history
          { runTime := s.clock.runTime, price := descend s.clock.steps s.clock.price l.floorPrice },
        tickTimer := s.clock.tickStart }
  | floor (hs : s.clock.state = .running) : ClockDeed s (s.clock.shown .floor)
  | closed (hs : s.clock.state ≠ .idle) (hc : s.clock.state ≠ .contest) : ClockDeed s s.clock.emptied
  | contest (x : Contender) (hs : s.clock.state = .running) (ht : x.time ≤ s.clock.runTime) :
      ClockDeed s { s.clock with
        state := .contest, halt := none, tickTimer := none, stopTime := some s.clock.runTime,
        stopPrice := some s.clock.price, contenders := [x], opener := some x.seat }
  | joined (x : Contender) (hs : s.clock.state = .contest) (ha : ∀ y ∈ s.clock.contenders, y.seat ≠ x.seat)
      (hb : ∀ y ∈ s.clock.contenders, y.buyer ≠ x.buyer) (ht : ∀ ts, s.clock.stopTime = some ts → x.time ≤ ts) :
      ClockDeed s { s.clock with contenders := (insertContender x s.clock.contenders).take Config.contenderCapacity }
  | unsold (hs : s.clock.state = .contest) :
      ClockDeed s { s.clock with
        contenders := [], opener := none, state := .running, halt := none, tickTimer := s.clock.tickStart }
  | sold (hs : s.clock.state = .contest) :
      ClockDeed s (({ s.clock with contenders := [], opener := none } : Clock).shown .sale)

/-! ### The clock record after each operation -/

section
variable (s : State)

@[simp] theorem State.voidRecord_clock (r : Purchase) : (s.voidRecord r).clock = s.clock := by
  unfold State.voidRecord; dsimp only; split <;> rfl

@[simp] theorem State.carried_clock (t : Option Nat) (a b : Sec) : (s.carried t a b).clock = s.clock := by
  unfold State.carried
  cases t with
  | none => rfl
  | some n => dsimp only; split <;> rfl

@[simp] theorem State.intakeEmptied_clock : s.intakeEmptied.clock = s.clock := by
  unfold State.intakeEmptied; dsimp only; split <;> rfl

@[simp] theorem State.decideAdmission_clock (tag : Nat) : (s.decideAdmission tag).clock = s.clock := by
  unfold State.decideAdmission; dsimp only; split <;> rfl

@[simp] theorem State.answer_clock (a : SeatAddr) (c : AnswerCode) (v : Nat) : (s.answer a c v).clock = s.clock := rfl

@[simp] theorem State.answerLate_clock (l : List Contender) : (s.answerLate l).clock = s.clock := by
  induction l generalizing s with
  | nil => rfl
  | cons x xs ih => exact ih _

@[simp] theorem State.append_clock (r : BitVec 32 → Purchase) : (s.append r).clock = s.clock := by
  unfold State.append State.raiseLogFull
  dsimp only
  split_ifs <;> rfl

@[simp] theorem State.beginSegment_clock (k : SegmentKind) : (s.beginSegment k).clock = s.clock.begun k := by
  unfold State.beginSegment
  cases s.clock.lot <;> simp [Clock.begun, Clock.tickStart]

@[simp] theorem State.enterShowing_clock (k : ShowingKind) : (s.enterShowing k).clock = s.clock.shown k := by
  simp [State.enterShowing, Clock.shown]

@[simp] theorem State.restart_clock (l : Lot) :
    (s.restart l).clock = ({ s.clock with price := l.restartPrice } : Clock).begun .restarted := by
  unfold State.restart
  cases s.clock.lot <;> simp

@[simp] theorem State.lotOff_clock : s.lotOff.clock = s.clock.emptied := by
  unfold State.lotOff
  cases h : s.clock.lot <;> simp [h, Clock.emptied]

@[simp] theorem State.insertPress_clock (x : Contender) : (s.insertPress x).clock =
    { s.clock with contenders := (insertContender x s.clock.contenders).take Config.contenderCapacity } := by
  unfold State.insertPress
  dsimp only
  split <;> rfl

@[simp] theorem State.closeWon_clock (n : Nat) (x : Contender) (after : List Contender) (u p : Nat) (a : Amounts) :
    (s.closeWon n x after u p a).clock = ({ s.clock with contenders := [], opener := none } : Clock).shown .sale := by
  simp [State.closeWon, State.endContest]

end

section
variable {s t : State}

theorem ClockDeed.of_eq {c : Clock} (h : c = s.clock) : ClockDeed s c := h ▸ .keep

theorem Deed.clock (h : Deed s t) : ClockDeed s t.clock := by
  cases h with
  | time n => exact .after n
  | notice c w => exact .notice w
  | post x rest hr => exact .of_eq (by simp)
  | void x n hr hp => exact .of_eq (by simp)
  | load n hs hn =>
    obtain ⟨e, he, -, -⟩ := (s.lots.loadStatus_ok_iff n).mp hn
    exact s.loadLot_clock he ▸ .load n e hs he
  | segment k hs hf ht => exact s.beginSegment_clock k ▸ .segment k hs ht hf
  | setting c hc ht hw hd hb => exact .setting c hc
  | auto b t ht => exact .auto b t ht
  | note h w hs => exact .note h w hs
  | price v hs => exact .price v hs
  | timers x y z hx hy hz => exact .timers x y z hx hy hz
  | haltDesk hs ht => exact (s.setClock_clock _ _).symm ▸ .haltDesk hs ht
  | haltFull hs ht => exact (s.setClock_clock _ _).symm ▸ .haltFull hs ht
  | haltAfter l r hl hs ht hw => exact (State.setClock_clock _ _ _).symm ▸ .haltAfter l r hl hs ht hw
  | restart l hl hs ht hr hf => exact (s.restart_clock l).symm ▸ .restart l hl hs ht hf
  | tick l hl hs =>
    unfold State.tickTaken
    split
    · next hp => exact .tick l hl hs hp
    · exact (s.enterShowing_clock _).symm ▸ .floor hs
  | closeLot hs hc => exact s.lotOff_clock ▸ .closed hs hc
  | openContest x hs ht => exact (State.setClock_clock _ _ _).symm ▸ .contest x hs ht
  | insertPress x hs ha hb ht => exact (s.insertPress_clock x).symm ▸ .joined x hs ha hb ht
  | closeNone hs =>
    have h : s.closeNone.clock = { s.clock with
        contenders := [], opener := none, state := .running, halt := none, tickTimer := s.clock.tickStart } := by
      simp [State.closeNone, State.endContest, Clock.tickStart]
    exact h ▸ .unsold hs
  | closeWon n l x after u p a hs hn hl hw => exact (s.closeWon_clock n x after u p a).symm ▸ .sold hs
  | arriveMove k b st hk hd hl hj => exact .of_eq (by simp)
  | emptyEject k st hk hd he => exact .of_eq (by simp)
  | decide tag h => exact .of_eq (by simp)
  | moved i m b hm hd => exact .of_eq (by simp)
  | ejected i m hm hd => exact .of_eq (by simp [State.completeEject])
  | relatch => exact .of_eq (State.onRail_clock _ _)
  | _ => exact .keep

/-! ## The contest's record -/

/-- The list of contenders in order: by press time and seat, one for each seat and each buyer (R134). -/
def Contenders.Ok (l : List Contender) : Prop :=
  l.Pairwise (fun x y => x.before y = true) ∧ (l.map (·.seat)).Nodup ∧ (l.map (·.buyer)).Nodup

theorem Contender.before_iff (x y : Contender) :
    x.before y = true ↔ x.time < y.time ∨ x.time = y.time ∧ x.seat < y.seat := by
  simp [Contender.before]

theorem Contender.before_trans {x y z : Contender} (h : x.before y = true) (h' : y.before z = true) : x.before z = true := by
  simp only [Contender.before_iff, Fin.lt_def] at *
  omega

/-- Of two contenders of different seats one comes before the other. -/
theorem Contender.before_of_not {x y : Contender} (hs : y.seat ≠ x.seat) (h : ¬ x.before y = true) : y.before x = true := by
  simp only [Contender.before_iff, Fin.lt_def, ne_eq, Fin.ext_iff] at *
  omega

theorem perm_insertContender (x : Contender) (l : List Contender) : (insertContender x l).Perm (x :: l) := by
  induction l with
  | nil => exact .refl _
  | cons y ys ih =>
    unfold insertContender
    split
    · exact .refl _
    · exact (ih.cons y).trans (.swap x y ys)

theorem pairwise_insertContender {x : Contender} {l : List Contender} (h : l.Pairwise fun x y => x.before y = true)
    (ha : ∀ y ∈ l, y.seat ≠ x.seat) : (insertContender x l).Pairwise fun x y => x.before y = true := by
  induction l with
  | nil => exact List.pairwise_singleton _ _
  | cons y ys ih =>
    obtain ⟨hy, hys⟩ := List.pairwise_cons.mp h
    unfold insertContender
    split
    · next hb =>
      refine List.pairwise_cons.mpr ⟨fun z hz => ?_, h⟩
      rcases List.mem_cons.mp hz with rfl | hz
      · exact hb
      · exact Contender.before_trans hb (hy z hz)
    · next hb =>
      refine List.pairwise_cons.mpr ⟨fun z hz => ?_, ih hys fun z hz => ha z (List.mem_cons_of_mem _ hz)⟩
      rcases List.mem_cons.mp ((perm_insertContender x ys).mem_iff.mp hz) with rfl | hz
      · exact Contender.before_of_not (ha y List.mem_cons_self) hb
      · exact hy z hz

theorem nodup_insertContender {α : Type} (f : Contender → α) {x : Contender} {l : List Contender} (h : (l.map f).Nodup)
    (ha : ∀ y ∈ l, f y ≠ f x) : ((insertContender x l).map f).Nodup := by
  refine ((perm_insertContender x l).map f).nodup_iff.mpr (List.nodup_cons.mpr ⟨fun hx => ?_, h⟩)
  obtain ⟨y, hy, e⟩ := List.mem_map.mp hx
  exact ha y hy e

/-- The contest's record as a condition on the clock record alone. -/
def Clock.ContestOk (c : Clock) : Prop :=
  c.contenders.length ≤ Config.contenderCapacity ∧ Contenders.Ok c.contenders ∧
  (c.state ≠ .contest → c.contenders = [] ∧ c.opener = none) ∧
  (c.state = .contest → c.contenders ≠ [] ∧ c.opener.isSome ∧
    ∃ ts, c.stopTime = some ts ∧ ∀ x ∈ c.contenders, x.time ≤ ts)

theorem State.contestOk_iff (s : State) : s.ContestOk ↔ s.clock.ContestOk := by
  unfold State.ContestOk Clock.ContestOk Contenders.Ok
  simp only [and_assoc]

theorem Clock.contestOk_empty {c : Clock} (hs : c.state ≠ .contest) (hc : c.contenders = []) (ho : c.opener = none) :
    c.ContestOk := by
  refine ⟨by simp [hc], ?_, fun _ => ⟨hc, ho⟩, fun h => absurd h hs⟩
  rw [hc]; exact ⟨.nil, .nil, .nil⟩

/-- Outside CONTEST any other clock record outside CONTEST with the same empty list does. -/
theorem Clock.ContestOk.outside {c c' : Clock} (h : c.ContestOk) (hs : c.state ≠ .contest) (hs' : c'.state ≠ .contest)
    (hc : c'.contenders = c.contenders) (ho : c'.opener = c.opener) : c'.ContestOk := by
  obtain ⟨-, -, h3, -⟩ := h
  obtain ⟨e1, e2⟩ := h3 hs
  exact Clock.contestOk_empty hs' (hc.trans e1) (ho.trans e2)

theorem Clock.ContestOk.joined {c : Clock} (h : c.ContestOk) {x : Contender} (hs : c.state = .contest)
    (ha : ∀ y ∈ c.contenders, y.seat ≠ x.seat) (hb : ∀ y ∈ c.contenders, y.buyer ≠ x.buyer)
    (ht : ∀ ts, c.stopTime = some ts → x.time ≤ ts) :
    Clock.ContestOk { c with contenders := (insertContender x c.contenders).take Config.contenderCapacity } := by
  obtain ⟨-, ⟨hp, hseat, hbuyer⟩, -, h4⟩ := h
  obtain ⟨hne, hop, ts, hts, hle⟩ := h4 hs
  refine ⟨List.length_take_le _ _, ⟨(pairwise_insertContender hp ha).take, ?_, ?_⟩, fun h => absurd hs h,
    fun _ => ⟨fun he => ?_, hop, ts, hts, fun y hy => ?_⟩⟩
  · exact List.map_take ▸ (nodup_insertContender (·.seat) hseat ha).take
  · exact List.map_take ▸ (nodup_insertContender (·.buyer) hbuyer hb).take
  · have hl := (perm_insertContender x c.contenders).length_eq
    have he := congrArg List.length he
    simp [Config.contenderCapacity, hl] at he
  · rcases List.mem_cons.mp ((perm_insertContender x _).mem_iff.mp (List.mem_of_mem_take hy)) with rfl | hy
    · exact ht ts hts
    · exact hle y hy

theorem Clock.ContestOk.deed {c : Clock} (hd : ClockDeed s c) (h : s.clock.ContestOk) : c.ContestOk := by
  cases hd with
  | load n e hs he => exact h.outside (by rcases hs with e | e <;> simp [e]) nofun rfl rfl
  | segment k hs ht hf => exact h.outside (by rcases hs with e | e <;> simp [e]) nofun rfl rfl
  | setting c hc => rw [hc]; exact h
  | haltDesk hs ht => exact h.outside (by simp [hs]) nofun rfl rfl
  | haltFull hs ht => exact h.outside (by simp [hs]) nofun rfl rfl
  | haltAfter l r hl hs ht hw => exact h.outside (by simp [hs]) nofun rfl rfl
  | restart l hl hs ht hf => exact h.outside (by simp [hs]) nofun rfl rfl
  | floor hs => exact h.outside (by simp [hs]) nofun rfl rfl
  | closed hs hc => exact h.outside hc nofun rfl rfl
  | contest x hs ht =>
    refine ⟨(by simp [Config.contenderCapacity]), ⟨List.pairwise_singleton _ _, List.nodup_singleton _, List.nodup_singleton _⟩, fun h => absurd rfl h,
      fun _ => ⟨nofun, rfl, _, rfl, fun y hy => ?_⟩⟩
    rw [List.mem_singleton.mp hy]; exact ht
  | joined x hs ha hb ht => exact h.joined hs ha hb ht
  | unsold hs => exact Clock.contestOk_empty nofun rfl rfl
  | sold hs => exact Clock.contestOk_empty nofun rfl rfl
  | _ => exact h

/-! ## The clock record and the clock state -/

theorem Clock.Ok.loadedAt {c : Clock} (h : c.Ok) (n p : Nat) (hs : c.state = .idle ∨ c.state = .loaded) :
    (c.loadedAt n p).Ok := by
  obtain ⟨-, -, -, -, h5, h6, h7, -⟩ := h
  refine ⟨by simp [Clock.loadedAt], by simp [Clock.loadedAt], by simp [Clock.loadedAt], nofun, fun ht => ?_, fun ht => ?_,
    fun _ => rfl, by simp [Clock.loadedAt]⟩
  · have := h5 ht; simp_all
  · have := h6 ht; simp_all

/-- A segment begun from a state that is not idle and whose own timer has stopped. -/
theorem Clock.Ok.begun {c : Clock} (h : c.Ok) (k : SegmentKind) (hi : c.state ≠ .idle)
    (hs : c.state = .showing → c.showTimer = none) (hl : c.state = .loaded → c.autoTimer = none) : (c.begun k).Ok := by
  obtain ⟨-, -, h3, -, -, h6, h7, -⟩ := h
  refine ⟨by simp [Clock.begun], by simp [Clock.begun], by simp [Clock.begun, h3, hi], nofun, fun _ => rfl, fun ht => ?_,
    fun ht => ?_, by simp [Clock.begun]⟩
  · have ht : c.showTimer.isSome := ht
    simp [hs (h6 ht)] at ht
  · have ht : c.autoTimer.isSome := ht
    simp [hl (h7 ht)] at ht

theorem Clock.Ok.shown {c : Clock} (h : c.Ok) (k : ShowingKind) (hs : c.state = .running ∨ c.state = .contest) :
    (c.shown k).Ok := by
  obtain ⟨-, -, h3, -, -, -, h7, h8⟩ := h
  refine ⟨by simp [Clock.shown], by simp [Clock.shown], ?_, nofun, nofun, fun _ => rfl, fun ht => ?_, fun _ => rfl⟩
  · rcases hs with e | e <;> simp [Clock.shown, h3, e]
  · have := h7 ht; simp_all

/-- The clock record halted from a state other than IDLE whose own timer has stopped, with nothing noted. -/
theorem Clock.Ok.halted {c : Clock} (h : c.Ok) (r : HaltReason) (hi : c.state ≠ .idle) (ht : c.tickTimer = none)
    (hw : c.showTimer = none) (ha : c.autoTimer = none) (hb : c.notedHalt = false) (hn : c.notedWithdraw = false)
    (hs : c.showing = none) : Clock.Ok { c with state := .halted, halt := some r } := by
  obtain ⟨-, -, h3, -⟩ := h
  refine ⟨by simp, by simp [hs], by simp [h3, hi], nofun, ?_, ?_, ?_, ?_⟩ <;> simp [ht, hw, ha, hb, hn]

/-- A timer that runs only in one state has stopped in another. -/
theorem Clock.stopped {c : Clock} {t : Timer} {x : ClockState} (h : t.isSome → c.state = x) (hs : c.state ≠ x) : t = none :=
  Option.not_isSome_iff_eq_none.mp fun ht => hs (h ht)

theorem Clock.Ok.notes {c : Clock} (h : c.Ok) (hs : c.state ≠ .showing) :
    c.notedHalt = false ∧ c.notedWithdraw = false ∧ c.showing = none := by
  obtain ⟨-, h2, -, -, -, -, -, h8⟩ := h
  refine ⟨?_, ?_, Option.not_isSome_iff_eq_none.mp fun ht => hs (h2.mp ht)⟩
  · exact Bool.eq_false_iff.mpr fun e => hs (h8 (.inl e))
  · exact Bool.eq_false_iff.mpr fun e => hs (h8 (.inr e))

theorem Timer.isSome_after (n : Nat) (t : Timer) : (t.after n).isSome = t.isSome := by simp [Timer.after]

theorem Clock.Ok.after {c : Clock} (h : c.Ok) (n : Nat) : (c.after n).Ok := by
  unfold Clock.Ok Clock.after
  simp only [Timer.isSome_after]
  exact h

theorem Clock.Ok.deed {c : Clock} (hd : ClockDeed s c) (h : s.clock.Ok) : c.Ok := by
  have hok := h
  obtain ⟨h1, h2, h3, h4, h5, h6, h7, h8⟩ := h
  cases hd with
  | keep => exact hok
  | after n => exact hok.after n
  | notice w => exact hok
  | load n e hs he => exact hok.loadedAt n _ hs
  | segment k hs ht hf => exact hok.begun k (by rcases hs with e | e <;> simp [e]) (by rcases hs with e | e <;> simp [e]) ht
  | setting c hc => rw [hc]; exact hok
  | auto b t ht => exact ⟨h1, h2, h3, h4, h5, h6, fun hs => (ht hs).elim h7 id, h8⟩
  | note h w hs => exact ⟨h1, h2, h3, h4, h5, h6, h7, fun _ => hs⟩
  | price v hs => exact ⟨h1, h2, h3, fun hi => absurd hi (by rcases hs with e | e <;> simp [e]), h5, h6, h7, h8⟩
  | timers x y z hx hy hz =>
    refine ⟨h1, h2, h3, h4, fun ht => ?_, fun ht => ?_, fun ht => ?_, h8⟩
    · rcases hx with e | e
      · exact h5 (e ▸ ht)
      · simp [e] at ht
    · rcases hy with e | e
      · exact h6 (e ▸ ht)
      · simp [e] at ht
    · rcases hz with e | e
      · exact h7 (e ▸ ht)
      · simp [e] at ht
  | haltDesk hs ht =>
    obtain ⟨n1, n2, n3⟩ := hok.notes (by simp [hs])
    exact hok.halted .desk (by simp [hs]) ht (Clock.stopped h6 (by simp [hs])) (Clock.stopped h7 (by simp [hs])) n1 n2 n3
  | haltFull hs ht =>
    obtain ⟨n1, n2, n3⟩ := hok.notes (by simp [hs])
    exact hok.halted .logFull (by simp [hs]) (Clock.stopped h5 (by simp [hs])) (Clock.stopped h6 (by simp [hs])) ht n1 n2 n3
  | haltAfter l r hl hs ht hw =>
    refine ⟨by simp, by simp, by simp [h3, hs], nofun, ?_, ?_, ?_, by simp [hw]⟩
    · simp [Clock.stopped h5 (by simp [hs] : s.clock.state ≠ .running)]
    · simp [ht]
    · simp [Clock.stopped h7 (by simp [hs] : s.clock.state ≠ .loaded)]
  | restart l hl hs ht hf =>
    have h : Clock.Ok { s.clock with price := l.restartPrice } := ⟨h1, h2, h3, fun hi => by simp [hs] at hi, h5, h6, h7, h8⟩
    exact h.begun .restarted (by simp [hs]) (fun _ => ht) (by simp [hs])
  | tick l hl hs hp => exact ⟨h1, h2, h3, fun hi => by simp [hs] at hi, fun _ => hs, h6, h7, h8⟩
  | floor hs => exact hok.shown _ (.inl hs)
  | closed hs hc => simp [Clock.Ok, Clock.emptied]
  | contest x hs ht =>
    obtain ⟨n1, n2, n3⟩ := hok.notes (by simp [hs])
    refine ⟨by simp, by simp [n3], by simp [h3, hs], nofun, nofun, fun ht => ?_, fun ht => ?_, by simp [n1, n2]⟩
    · have := h6 ht; simp_all
    · have := h7 ht; simp_all
  | joined x hs ha hb ht => exact hok
  | unsold hs =>
    obtain ⟨n1, n2, n3⟩ := hok.notes (by simp [hs])
    refine ⟨by simp, by simp [n3], by simp [h3, hs], nofun, fun _ => rfl, fun ht => ?_, fun ht => ?_, by simp [n1, n2]⟩
    · have := h6 ht; simp_all
    · have := h7 ht; simp_all
  | sold hs =>
    have h : Clock.Ok { s.clock with contenders := [], opener := none } := hok
    exact h.shown _ (.inr hs)

/-! ## The tick history -/

theorem pairwise_pushTick {h : List TickRec} {e : TickRec}
    (hp : h.Pairwise fun a b => a.runTime ≤ b.runTime ∧ b.price ≤ a.price)
    (he : ∀ a ∈ h, a.runTime ≤ e.runTime ∧ e.price ≤ a.price) :
    (pushTick h e).Pairwise fun a b => a.runTime ≤ b.runTime ∧ b.price ≤ a.price := by
  refine List.Pairwise.drop (List.pairwise_append.mpr ⟨hp, List.pairwise_singleton _ _, fun a ha b hb => ?_⟩)
  rw [List.mem_singleton.mp hb]; exact he a ha

theorem mem_pushTick {h : List TickRec} {e a : TickRec} (ha : a ∈ pushTick h e) : a ∈ h ∨ a = e := by
  simpa using List.mem_of_mem_drop ha

theorem getLast?_pushTick (h : List TickRec) (e : TickRec) : (pushTick h e).getLast? = some e := by
  unfold pushTick
  dsimp only
  rw [List.getLast?_drop, if_neg (by simp [Config.historyCapacity])]
  exact List.getLast?_concat

/-- The price that stands is at or below every price of the history. -/
theorem Clock.price_le_history {h : List TickRec} {p : Nat} (hp : h.Pairwise fun a b => a.runTime ≤ b.runTime ∧ b.price ≤ a.price)
    (hl : h.getLast?.map (·.price) = some p) : ∀ a ∈ h, p ≤ a.price := by
  intro a ha
  obtain ⟨z, hz, rfl⟩ := Option.map_eq_some_iff.mp hl
  obtain ⟨ys, rfl⟩ := List.getLast?_eq_some_iff.mp hz
  rcases List.mem_append.mp ha with ha | ha
  · exact ((List.pairwise_append.mp hp).2.2 a ha z (List.mem_singleton_self z)).2
  · rw [List.mem_singleton.mp ha]

theorem Clock.historyOk_outside {c : Clock} (hr : c.state ≠ .running) (hc : c.state ≠ .contest) : c.HistoryOk :=
  fun h => absurd h (by simp [hr, hc])

theorem Clock.historyOk_begun (c : Clock) (k : SegmentKind) : (c.begun k).HistoryOk := fun _ =>
  ⟨by simp [Clock.begun, Config.historyCapacity], List.pairwise_singleton _ _, by simp [Clock.begun], rfl⟩

/-- A descending clock record with the same history, price and run time. -/
theorem Clock.HistoryOk.same {c c' : Clock} (h : c.HistoryOk) (hs : c.state = .running ∨ c.state = .contest)
    (hh : c'.history = c.history) (hr : c.runTime ≤ c'.runTime) (hp : c'.price = c.price) : c'.HistoryOk := fun _ => by
  obtain ⟨h1, h2, h3, h4⟩ := h hs
  exact ⟨hh ▸ h1, hh ▸ h2, fun e he => (h3 e (hh ▸ he)).trans hr, by rw [hh, hp]; exact h4⟩

theorem Clock.le_runTime_after {c : Clock} (h : c.runTime ≤ Config.maxRunTime) (n : Nat) : c.runTime ≤ (c.after n).runTime := by
  unfold Clock.after
  dsimp only
  split
  · exact Nat.le_min.mpr ⟨Nat.le_add_right _ _, h⟩
  · exact Nat.le_refl _

theorem Clock.HistoryOk.after {c : Clock} (h : c.HistoryOk) (hr : c.runTime ≤ Config.maxRunTime) (n : Nat) :
    (c.after n).HistoryOk := fun hs => h.same hs rfl (Clock.le_runTime_after hr n) rfl hs

theorem Clock.HistoryOk.tick {c : Clock} (h : c.HistoryOk) (hs : c.state = .running) {p : Nat} (hp : p ≤ c.price) (t : Timer) :
    Clock.HistoryOk { c with
      price := p, history := pushTick c.history { runTime := c.runTime, price := p }, tickTimer := t } := fun _ => by
  obtain ⟨-, h2, h3, h4⟩ := h (.inl hs)
  refine ⟨length_pushTick _ _, pairwise_pushTick h2 fun a ha => ⟨h3 a ha, hp.trans (Clock.price_le_history h2 h4 a ha)⟩,
    fun e he => ?_, by rw [getLast?_pushTick]; rfl⟩
  rcases mem_pushTick he with he | rfl
  · exact h3 e he
  · exact Nat.le_refl _

theorem Clock.HistoryOk.deed {c : Clock} (hd : ClockDeed s c) (hr : s.clock.runTime ≤ Config.maxRunTime) (h : s.clock.HistoryOk) :
    c.HistoryOk := by
  cases hd with
  | after n => exact h.after hr n
  | load n e hs he => exact Clock.historyOk_outside nofun nofun
  | segment k hs ht hf => exact Clock.historyOk_begun _ _
  | setting c hc => rw [hc]; exact h
  | price v hs => exact Clock.historyOk_outside (by rcases hs with e | e <;> simp [e]) (by rcases hs with e | e <;> simp [e])
  | haltDesk hs ht => exact Clock.historyOk_outside nofun nofun
  | haltFull hs ht => exact Clock.historyOk_outside nofun nofun
  | haltAfter l r hl hs ht hw => exact Clock.historyOk_outside nofun nofun
  | restart l hl hs ht hf => exact Clock.historyOk_begun _ _
  | tick l hl hs hp =>
    refine h.tick hs ?_ _
    rw [descend_eq_max]
    omega
  | floor hs => exact Clock.historyOk_outside nofun nofun
  | closed hs hc => exact Clock.historyOk_outside nofun nofun
  | contest x hs ht => exact h.same (.inl hs) rfl (Nat.le_refl _) rfl
  | unsold hs => exact h.same (.inr hs) rfl (Nat.le_refl _) rfl
  | sold hs => exact Clock.historyOk_outside nofun nofun
  | _ => exact h

end

/-! ## Every step -/

theorem Kept.contestOk : Kept State.ContestOk :=
  .of_deeds (fun _ _ _ h => h) (fun _ _ h => h)
    (fun hd h => (State.contestOk_iff _).mpr (((State.contestOk_iff _).mp h).deed hd.clock)) (fun _ h => h)
    (fun s b h => (State.contestOk_iff _).mpr ((s.railDone_clock b).symm ▸ (State.contestOk_iff _).mp h))
    (fun _ _ => (State.contestOk_iff _).mpr (Clock.contestOk_empty nofun rfl rfl))
    fun _ _ => (State.contestOk_iff _).mpr (Clock.contestOk_empty nofun rfl rfl)

theorem Clock.reset_ok : Clock.reset.Ok := by simp [Clock.Ok, Clock.reset]

theorem Kept.clockOk : Kept fun s => s.clock.Ok :=
  .of_deeds (fun _ _ _ h => h) (fun _ _ h => h) (fun hd h => h.deed hd.clock) (fun _ h => h)
    (fun s b h => (s.railDone_clock b).symm ▸ h) (fun _ _ => Clock.reset_ok) fun _ _ => Clock.reset_ok

theorem State.RangesOk.runTime {s : State} (h : s.RangesOk) : s.clock.runTime ≤ Config.maxRunTime := by
  obtain ⟨-, -, -, -, -, hr, -⟩ := h
  exact hr

theorem Kept.historyOk : Kept fun s => s.RangesOk ∧ s.clock.HistoryOk :=
  .of_deeds (fun _ _ _ h => h) (fun _ _ h => h)
    (fun hd ⟨hr, h⟩ => ⟨hd.steady.rangesOk hr, h.deed hd.clock hr.runTime⟩) (fun _ h => h)
    (fun s b ⟨hr, h⟩ => ⟨(s.steady_railDone b).rangesOk hr, (s.railDone_clock b).symm ▸ h⟩)
    (fun s h => ⟨Kept.rangesOk.power s h.1, Clock.historyOk_outside nofun nofun⟩)
    fun s h => ⟨Kept.rangesOk.pin s h.1, Clock.historyOk_outside nofun nofun⟩

/-- Settles O57: each condition is one on the clock record, and kept by whatever a deed can do to it. -/
theorem everyStepKeepsClockInOrder : Obligations.EveryStepKeepsClockInOrder := fun _ _ hs =>
  ⟨Kept.contestOk.step hs, Kept.clockOk.step hs, fun hr hh => (Kept.historyOk.step hs ⟨hr, hh⟩).2⟩

end Sys2Proof.Machine

/-!
The purchase log, the buyers' sums and the bindings: what a deed can do to them, said once, and with that the three conditions on
them.
-/

namespace Sys2Proof.Machine

/-! ## Deeds that leave log, accounts and bindings alone -/

/-- The log, the buyers, every seat's buyer and the commands that wait as they were. -/
structure State.SameBooks (s t : State) : Prop where
  log : t.log = s.log
  buyers : t.accounts.buyers = s.accounts.buyers
  seats : ∀ a : SeatAddr, t.scan.seats[a].buyer = s.scan.seats[a].buyer
  queue : t.pending = s.pending

section
variable {s t u : State}

theorem State.SameBooks.refl (s : State) : s.SameBooks s := ⟨rfl, rfl, fun _ => rfl, rfl⟩
theorem State.SameBooks.trans (h : s.SameBooks t) (h' : t.SameBooks u) : s.SameBooks u :=
  ⟨h'.log.trans h.log, h'.buyers.trans h.buyers, fun a => (h'.seats a).trans (h.seats a),
    h'.queue.trans h.queue⟩
theorem State.SameBooks.of_eq (hl : t.log = s.log) (ha : t.accounts.buyers = s.accounts.buyers) (hs : t.scan = s.scan)
    (hq : t.pending = s.pending) : s.SameBooks t :=
  ⟨hl, ha, fun a => by rw [hs], hq⟩
theorem State.SameBooks.keep (h : s.SameBooks t) (hl : u.log = t.log) (ha : u.accounts.buyers = t.accounts.buyers) (hs : u.scan = t.scan)
    (hq : u.pending = t.pending) : s.SameBooks u := h.trans (.of_eq hl ha hs hq)
theorem State.SameBooks.onClock (h : s.SameBooks t) (f : Clock → Clock) : s.SameBooks (t.onClock f) := h.keep rfl rfl rfl rfl
theorem State.SameBooks.onLots (h : s.SameBooks t) (f : LotStore → LotStore) : s.SameBooks (t.onLots f) := h.keep rfl rfl rfl rfl
theorem State.SameBooks.mapRail (h : s.SameBooks t) (f : Rail → Rail) : s.SameBooks (t.mapRail f) := h.keep rfl rfl rfl rfl
theorem State.SameBooks.onRail (h : s.SameBooks t) (f : RailWork → RailWork) : s.SameBooks (t.onRail f) := h.keep rfl rfl rfl rfl
theorem State.SameBooks.setClock (h : s.SameBooks t) (st : ClockState) (r : Option HaltReason) :
    s.SameBooks (t.setClock st r) := h.keep (by simp) (by simp) (by simp) (by simp)

theorem State.SameBooks.onSeat (h : s.SameBooks t) (a : SeatAddr) (f : Seat → Seat)
    (hf : (f t.scan.seats[a]).buyer = t.scan.seats[a].buyer) : s.SameBooks (t.onSeat a f) := by
  refine ⟨h.log, h.buyers, fun b => ?_, h.queue⟩
  by_cases hb : b = a
  · subst hb; rw [State.onSeat_seat]; exact hf.trans (h.seats b)
  · rw [State.onSeat_seat_ne _ _ hb]; exact h.seats b

theorem State.SameBooks.answer (h : s.SameBooks t) (a : SeatAddr) (c : AnswerCode) (v : Nat) : s.SameBooks (t.answer a c v) :=
  h.onSeat a _ rfl

theorem State.SameBooks.answerLate (h : s.SameBooks t) (l : List Contender) : s.SameBooks (t.answerLate l) := by
  induction l generalizing t with
  | nil => exact h
  | cons x xs ih => exact ih (h.answer ..)

/-- What is done to the Lot Store for the current lot touches no book. -/
theorem State.sameBooks_onCurrent (s : State) (f : Nat → LotStore → LotStore) :
    s.SameBooks (match s.clock.lot with
      | some n => s.onLots (f n)
      | none => s) := by
  cases s.clock.lot with
  | none => exact .refl s
  | some n => exact .onLots (.refl s) _

theorem State.SameBooks.beacons (h : s.SameBooks t) (b : List BeaconRec) :
    s.SameBooks { t with scan := { t.scan with beacons := b } } := h.trans ⟨rfl, rfl, fun _ => rfl, rfl⟩

theorem State.sameBooks_beginSegment (s : State) (k : SegmentKind) : s.SameBooks (s.beginSegment k) := by
  have h := s.sameBooks_onCurrent fun n ls => ls.toClock n
  unfold State.beginSegment
  dsimp only
  exact State.SameBooks.beacons (.setClock (.onClock h _) .running none) []

theorem State.sameBooks_enterShowing (s : State) (k : ShowingKind) : s.SameBooks (s.enterShowing k) :=
  .setClock (.onClock (.refl s) _) _ _

theorem State.sameBooks_restart (s : State) (l : Lot) : s.SameBooks (s.restart l) := by
  have h := s.sameBooks_onCurrent fun n ls => ls.onLot n fun e => { e with restartsUsed := e.restartsUsed + 1 }
  unfold State.restart
  dsimp only
  exact .trans (.onClock h _) (State.sameBooks_beginSegment _ _)

theorem State.sameBooks_lotOff (s : State) : s.SameBooks s.lotOff := by
  have h0 : s.SameBooks (s.onClock fun c => { c with tickTimer := none, showTimer := none, autoTimer := none }) :=
    .onClock (.refl s) _
  have h := h0.trans (State.sameBooks_onCurrent _ fun n ls => ls.close n)
  unfold State.lotOff
  dsimp only
  refine State.SameBooks.keep (State.SameBooks.setClock (.onClock h _) _ _) rfl rfl rfl rfl

theorem State.sameBooks_insertPress (s : State) (x : Contender) : s.SameBooks (s.insertPress x) := by
  unfold State.insertPress
  dsimp only
  split
  · exact .onClock (.refl s) _
  · exact .answer (.onClock (.refl s) _) _ _ _

theorem State.SameBooks.carried (h : s.SameBooks t) (x : Option Nat) (a b : Sec) : s.SameBooks (t.carried x a b) := by
  unfold State.carried
  cases x with
  | none => exact h.keep rfl rfl rfl rfl
  | some n => dsimp only; split <;> exact h.keep rfl rfl rfl rfl

theorem State.SameBooks.intakeEmptied (h : s.SameBooks t) : s.SameBooks t.intakeEmptied := by
  unfold State.intakeEmptied
  dsimp only
  split <;> exact h.keep rfl rfl rfl rfl

theorem State.sameBooks_decideAdmission (s : State) (tag : Nat) : s.SameBooks (s.decideAdmission tag) := by
  unfold State.decideAdmission
  dsimp only
  split <;> exact .of_eq rfl rfl rfl rfl

/-! ## The log and the buyers after a deed -/

/-- What a deed can do to the log, the buyers and the bindings. -/
inductive BooksDeed (s t : State) : Prop
  | same (h : s.SameBooks t)
  | posted (r : Purchase) (rest : List Purchase) (hr : s.log.records = r :: rest)
      (hl : t.log = { s.log with records := rest }) (hb : t.accounts.buyers = (s.settleRecord r).accounts.buyers)
      (hs : t.scan = s.scan) (hq : t.pending = s.pending)
  | voided (r : Purchase) (n : BitVec 32) (hr : s.log.find n = some r) (hp : r.state = .pending)
      (hl : t.log = s.log.markVoid r.seq)
      (hb : t.accounts.buyers = s.accounts.buyers.modify r.buyer fun b => b.lowerPending r.total) (hs : t.scan = s.scan) (hq : t.pending = s.pending)
  | opened (n limit fee : Nat) (hn : s.accounts.buyers.get n = none) (hl : t.log = s.log)
      (hb : t.accounts.buyers = s.accounts.buyers.put n (Buyer.opened limit fee)) (hs : t.scan = s.scan) (hq : t.pending = s.pending)
  | closed (n : Nat) (b : Buyer) (hn : s.accounts.buyers.get n = some b) (hp : b.pendingSum = 0) (hseat : b.seat = none)
      (hl : t.log = s.log) (hb : t.accounts.buyers = s.accounts.buyers.erase n) (hs : t.scan = s.scan) (hq : t.pending = s.pending)
  | buyer (n : Nat) (f : Buyer → Buyer) (hseat : ∀ b, (f b).seat = b.seat) (hp : ∀ b, (f b).pendingSum = b.pendingSum)
      (ho : ∀ b, (f b).owed ≤ b.owed) (hlim : ∀ b, (f b).limit = b.limit ∨ (f b).limit ≤ Config.maxLimit)
      (hl : t.log = s.log) (hb : t.accounts.buyers = s.accounts.buyers.modify n f) (hs : t.scan = s.scan) (hq : t.pending = s.pending)
  | unbind (a : SeatAddr) (b : Nat) (hn : s.scan.seats[a].buyer = some b) (h : t = s.unbindSeat a b)
  | bind (a : SeatAddr) (b : Nat) (acc : Accounts) (hr : s.accounts.seatRequest a b s.scan.seats[a].buyer = some acc)
      (h : t = ({ s with accounts := acc } : State).onSeat a fun x => { x with buyer := some b, quantity := 1 })
  | sold (n : Nat) (l : Lot) (x : Contender) (u p : Nat) (a : Amounts) (hc : s.clock.state = .contest)
      (ht : t.clock.state = .showing) (hw : s.examine l x = .won u p a)
      (hl : t.log = { records := s.log.records ++ [purchaseOf s.clock n x u p a s.log.nextSeq],
                      nextSeq := s.log.nextSeq + 1 })
      (hb : t.accounts.buyers = s.accounts.buyers.modify x.buyer fun b => b.raisePending a.total)
      (hs : ∀ k : SeatAddr, t.scan.seats[k].buyer = s.scan.seats[k].buyer) (hq : t.pending = s.pending)

@[simp] theorem State.append_log (s : State) (r : BitVec 32 → Purchase) :
    (s.append r).log = { records := s.log.records ++ [r s.log.nextSeq], nextSeq := s.log.nextSeq + 1 } := by
  unfold State.append State.raiseLogFull
  dsimp only
  split_ifs <;> rfl
@[simp] theorem State.append_accounts (s : State) (r : BitVec 32 → Purchase) : (s.append r).accounts = s.accounts := by
  unfold State.append State.raiseLogFull
  dsimp only
  split_ifs <;> rfl
@[simp] theorem State.append_scan (s : State) (r : BitVec 32 → Purchase) : (s.append r).scan = s.scan := by
  unfold State.append State.raiseLogFull
  dsimp only
  split_ifs <;> rfl

@[simp] theorem State.append_pending (s : State) (r : BitVec 32 → Purchase) : (s.append r).pending = s.pending := by
  unfold State.append State.raiseLogFull
  dsimp only
  split_ifs <;> rfl

@[simp] theorem State.settleRecord_pending (s : State) (r : Purchase) : (s.settleRecord r).pending = s.pending := by
  rw [State.settleRecord_eq]
@[simp] theorem State.dropHead_pending (s : State) : s.dropHead.pending = s.pending := by rw [State.dropHead_eq]
@[simp] theorem State.voidRecord_pending (s : State) (r : Purchase) : (s.voidRecord r).pending = s.pending := by
  unfold State.voidRecord; dsimp only; split <;> rfl
@[simp] theorem State.voidRecord_log (s : State) (r : Purchase) : (s.voidRecord r).log = s.log.markVoid r.seq := by
  unfold State.voidRecord; dsimp only; split <;> rfl
@[simp] theorem State.voidRecord_accounts (s : State) (r : Purchase) :
    (s.voidRecord r).accounts = s.accounts.onBuyer r.buyer fun b => b.lowerPending r.total := by
  unfold State.voidRecord; dsimp only; split <;> rfl
@[simp] theorem State.voidRecord_scan (s : State) (r : Purchase) : (s.voidRecord r).scan = s.scan := by
  unfold State.voidRecord; dsimp only; split <;> rfl

/-- A winner's close, after its record, its buyer's pending and its lot's counts, touches no book (R146). -/
theorem State.sameBooks_closeWon (s : State) (n : Nat) (x : Contender) (after : List Contender) (u p : Nat) (a : Amounts) :
    State.SameBooks ((s.append (purchaseOf s.clock n x u p a)).onBuyer x.buyer fun b => b.raisePending a.total)
      (s.closeWon n x after u p a) := by
  have h := (State.SameBooks.onLots (.refl ((s.append (purchaseOf s.clock n x u p a)).onBuyer x.buyer fun b => b.raisePending a.total))
    fun ls => ls.strike n u p x.buyer)
  have h3 := (h.answer x.seat .won u).answerLate after
  unfold State.closeWon
  dsimp only
  exact .keep (.trans (h3.onClock _) (State.sameBooks_enterShowing _ _)) rfl rfl rfl rfl

/-- The accounts with the seat's former buyer `c` cleared, unless it is the buyer who logs in (R80). -/
def Accounts.formerCleared (a : Accounts) (b : Nat) (c : Option Nat) : Accounts :=
  match c with
  | some c' => if c' = b then a else a.clearSeat c'
  | none => a

theorem Accounts.get_formerCleared (a : Accounts) (b : Nat) (c : Option Nat) (n : Nat) :
    (a.formerCleared b c).buyers.get n = if n = b then a.buyers.get b else
      (a.buyers.get n).map fun e => if c = some n then { e with seat := none } else e := by
  unfold Accounts.formerCleared
  cases c with
  | none => by_cases hn : n = b <;> simp [hn]
  | some c' =>
    by_cases hc : c' = b
    · by_cases hn : n = b
      · simp [hc, hn]
      · simp [hc, hn, Ne.symm hn]
    · by_cases hn : n = b
      · simp [hn, hc, Ne.symm hc, Accounts.clearSeat, Accounts.onBuyer, Tbl.get_modify]
      · by_cases hn' : n = c'
        · subst hn'; simp [hn, Accounts.clearSeat, Accounts.onBuyer]
        · simp [hc, hn, hn', Ne.symm hn', Accounts.clearSeat, Accounts.onBuyer, Tbl.get_modify]

/-- The accounts that a taken LOGIN leaves (R80, R163): the buyer at the seat, and the seat's former buyer without one. -/
theorem Accounts.get_seatRequest {a acc : Accounts} {x : SeatAddr} {b : Nat} {c : Option Nat}
    (h : a.seatRequest x b c = some acc) : ∃ r, a.buyers.get b = some r ∧ (∀ y, r.seat = some y → y = x) ∧
      ∀ n, acc.buyers.get n = if n = b then some { r with seat := some x } else
        (a.buyers.get n).map fun e => if c = some n then { e with seat := none } else e := by
  unfold Accounts.seatRequest at h
  split_ifs at h
  cases hb : a.buyers.get b with
  | none => rw [hb] at h; cases h
  | some r =>
    rw [hb] at h
    dsimp only at h
    split_ifs at h
    change (match r.seat with
      | some y => if y = x then some (a.formerCleared b c) else none
      | none => some ((a.formerCleared b c).onBuyer b fun r' => { r' with seat := some x })) = some acc at h
    have hget := a.get_formerCleared b c
    rw [hb] at hget
    refine ⟨r, rfl, ?_⟩
    cases hs : r.seat with
    | none =>
      simp only [hs] at h
      injection h with h
      refine ⟨nofun, fun n => ?_⟩
      rw [← h, Accounts.onBuyer, Tbl.get_modify, hget]
      by_cases hn : n = b <;> simp [hn]
    | some y =>
      simp only [hs] at h
      split_ifs at h with hy
      injection h with h
      refine ⟨fun z hz => by injection hz with hz; exact hz ▸ hy, fun n => ?_⟩
      rw [← h, hget]
      by_cases hn : n = b
      · rw [if_pos hn, if_pos hn, ← hy, ← hs]
      · rw [if_neg hn, if_neg hn]

/-- Deeds that are not bindings, settlements, accounts or sales touch no book. -/
theorem Deed.books (h : Deed s t) : BooksDeed s t := by
  have r := State.SameBooks.refl s
  cases h with
  | post x rest hr =>
    exact .posted x rest hr (by rw [State.dropHead_log, State.settleRecord_log, hr]; rfl) (by rw [State.dropHead_accounts])
      (by rw [State.dropHead_scan, State.settleRecord_scan]) (by simp)
  | void x n hr hp =>
    exact .voided x n hr hp (s.voidRecord_log x) (by rw [State.voidRecord_accounts]; rfl) (s.voidRecord_scan x)
      (s.voidRecord_pending x)
  | openAccount n limit fee hn hc => exact .opened n limit fee hn rfl rfl rfl rfl
  | closeAccount n b hb hp ho hs => exact .closed n b hb hp hs rfl rfl rfl rfl
  | buyer n f hs hp ho hl => exact .buyer n f hs hp ho hl rfl rfl rfl rfl
  | seat a x hb hq hl => exact .same (r.onSeat a _ hb)
  | scan sc hs hc hn hb => exact .same ⟨rfl, rfl, fun a => by rw [hs], rfl⟩
  | adopt n hn =>
    refine .same ⟨rfl, rfl, fun a => ?_, rfl⟩
    rw [Scanner.adopt_seat]
    split <;> rfl
  | nextCount n h8 hn => exact .same ⟨rfl, rfl, fun _ => rfl, rfl⟩
  | unbind a b hb => exact .unbind a b hb rfl
  | bind a b acc hr => exact .bind a b acc hr rfl
  | load n hs hn =>
    exact .same (.of_eq (s.loadLot_log n) (by rw [State.loadLot_accounts]) (s.loadLot_scan n)
      (by simp [State.loadLot]))
  | segment k hs hf ht => exact .same (s.sameBooks_beginSegment k)
  | haltDesk hs ht => exact .same (r.setClock _ _)
  | haltFull hs ht => exact .same (r.setClock _ _)
  | haltAfter l x hl hs ht hw => exact .same (.setClock (r.onClock _) _ _)
  | restart l hl hs ht hr hf => exact .same (s.sameBooks_restart l)
  | tick l hl hs =>
    unfold State.tickTaken
    split
    · exact .same (r.onClock _)
    · exact .same (s.sameBooks_enterShowing _)
  | closeLot hs hc => exact .same s.sameBooks_lotOff
  | openContest x hs ht => exact .same (.setClock (r.onClock _) _ _)
  | insertPress x hs ha hb ht => exact .same (s.sameBooks_insertPress x)
  | closeNone hs => exact .same (.onClock (.setClock (r.onClock _) _ _) _)
  | closeWon n l x after u p a hs hn hl hw =>
    have h := s.sameBooks_closeWon n x after u p a
    refine .sold n l x u p a hs (by rw [State.closeWon_clock]; rfl) hw ?_ ?_ (fun k => ?_) ?_
    · rw [h.log, State.onBuyer_log, State.append_log]
    · rw [h.buyers, ← s.append_accounts (purchaseOf s.clock n x u p a)]; rfl
    · rw [h.seats, State.onBuyer_scan, State.append_scan]
    · rw [h.queue]; exact s.append_pending _
  | arriveMove k b st hk hd hl hj =>
    have h : s.SameBooks (s.mapRail fun r => r.dropStall k) := .of_eq rfl rfl rfl rfl
    exact .same (h.carried _ _ _)
  | emptyEject k st hk hd he =>
    have h : s.SameBooks (s.mapRail fun r => r.dropStall 0) := .of_eq rfl rfl rfl rfl
    exact .same h.intakeEmptied
  | decide tag h => exact .same (s.sameBooks_decideAdmission tag)
  | moved i m b hm hd =>
    have h : s.SameBooks (s.onRail fun w => w.haltAll m.chans) := .of_eq rfl rfl rfl rfl
    exact .same (.mapRail (h.carried m.train m.source b) fun r => r.freeMove i)
  | ejected i m hm hd =>
    have h : s.SameBooks (s.onRail fun w => w.haltAll m.chans) := .of_eq rfl rfl rfl rfl
    exact .same (.mapRail h.intakeEmptied fun r => r.freeMove i)
  | relatch =>
    have h : s.SameBooks { s with drive := s.drive.relatchAll s.inputs } := .of_eq rfl rfl rfl rfl
    exact .same (h.onRail fun w => w.reportLatched allChans)
  | _ => exact .same (.of_eq rfl rfl rfl rfl)

end

end Sys2Proof.Machine

/-!
The log's numbering, the sums of the PENDING records and the bindings, kept by whatever a deed can do to them.
-/

namespace Sys2Proof.Machine

/-! ## The numbering of the log (R168) -/

/-- The log's capacity and numbering, without the clock (R168). -/
def Log.Ok (l : Log) : Prop :=
  l.records.length ≤ Config.logCapacity ∧
  l.records.map (·.seq) =
    (List.range l.records.length).map fun i => l.nextSeq - BitVec.ofNat 32 (l.records.length - i)

theorem State.logOk_iff (s : State) : s.LogOk ↔
    s.log.Ok ∧ (s.clock.state = .running ∨ s.clock.state = .contest → s.logFree = true) := by
  unfold State.LogOk Log.Ok State.logFree
  simp only [and_assoc, decide_eq_true_eq]

theorem Log.Ok.same {l l' : Log} (h : l.Ok) (hs : l'.records.map (·.seq) = l.records.map (·.seq))
    (hn : l'.nextSeq = l.nextSeq) : l'.Ok := by
  have hl : l'.records.length = l.records.length := by simpa using congrArg List.length hs
  obtain ⟨h1, h2⟩ := h
  exact ⟨hl ▸ h1, by rw [hs, hl, hn]; exact h2⟩

theorem Log.Ok.empty (n : BitVec 32) : Log.Ok { records := [], nextSeq := n } := ⟨Nat.zero_le _, rfl⟩

theorem Log.Ok.append {l : Log} (h : l.Ok) (hl : l.records.length < Config.logCapacity) {r : Purchase}
    (hr : r.seq = l.nextSeq) : Log.Ok { records := l.records ++ [r], nextSeq := l.nextSeq + 1 } := by
  obtain ⟨-, h2⟩ := h
  refine ⟨by simpa using hl, ?_⟩
  simp only [List.map_append, h2, List.length_append, List.length_singleton, List.map_cons, List.map_nil,
    List.range_succ, hr]
  congr 1
  · refine List.map_congr_left fun i hi => ?_
    have hi := List.mem_range.mp hi
    rw [show l.records.length + 1 - i = (l.records.length - i) + 1 by omega, BitVec.ofNat_add]
    bv_omega
  · simp

theorem Log.Ok.tail {l : Log} (h : l.Ok) {r : Purchase} {rest : List Purchase} (hr : l.records = r :: rest) :
    Log.Ok { l with records := rest } := by
  obtain ⟨h1, h2⟩ := h
  rw [hr] at h1 h2
  refine ⟨Nat.le_of_succ_le h1, ?_⟩
  simp only [List.map_cons, List.length_cons, List.range_succ_eq_map, List.map_cons, List.map_map] at h2
  injection h2 with _ h2
  rw [h2]
  refine List.map_congr_left fun i _ => ?_
  simp

/-- No two records of the log have one number. -/
theorem Log.Ok.nodup {l : Log} (h : l.Ok) : (l.records.map (·.seq)).Nodup := by
  obtain ⟨h1, h2⟩ := h
  rw [h2]
  refine List.Nodup.map_on (fun i hi j hj he => ?_) List.nodup_range
  have hi := List.mem_range.mp hi
  have hj := List.mem_range.mp hj
  have h1 : l.records.length ≤ 128 := h1
  have he : BitVec.ofNat 32 (l.records.length - i) = BitVec.ofNat 32 (l.records.length - j) := by bv_omega
  have := congrArg BitVec.toNat he
  simp only [BitVec.toNat_ofNat] at this
  omega

section
variable {s t : State}

@[simp] theorem Log.length_markVoid (l : Log) (n : BitVec 32) : (l.markVoid n).records.length = l.records.length := by
  simp [Log.markVoid]

theorem Log.seqs_markVoid (l : Log) (n : BitVec 32) : (l.markVoid n).records.map (·.seq) = l.records.map (·.seq) := by
  simp only [Log.markVoid, List.map_map]
  refine List.map_congr_left fun r _ => ?_
  dsimp only [Function.comp]
  split <;> rfl

/-- A record joins the log only as a contest's close leaves SHOWING; no other deed makes it longer. -/
theorem BooksDeed.logOk (h : BooksDeed s t) (hs : s.LogOk) :
    t.log.Ok ∧ (t.log.records.length ≤ s.log.records.length ∨ t.clock.state = .showing) := by
  obtain ⟨hok, hf⟩ := s.logOk_iff.mp hs
  cases h with
  | same h => rw [h.log]; exact ⟨hok, .inl (Nat.le_refl _)⟩
  | posted r rest hr hl hb hs hq => rw [hl]; exact ⟨hok.tail hr, .inl (by simp [hr])⟩
  | voided r n hr hp hl hb hs hq =>
    rw [hl]; exact ⟨hok.same (s.log.seqs_markVoid _) rfl, .inl (s.log.length_markVoid _).le⟩
  | opened n limit fee hn hl hb hs hq => rw [hl]; exact ⟨hok, .inl (Nat.le_refl _)⟩
  | closed n b hn hp hseat hl hb hs hq => rw [hl]; exact ⟨hok, .inl (Nat.le_refl _)⟩
  | buyer n f hseat hp ho hlim hl hb hs hq => rw [hl]; exact ⟨hok, .inl (Nat.le_refl _)⟩
  | unbind a b hn h => rw [h]; exact ⟨hok, .inl (Nat.le_refl _)⟩
  | bind a b acc hr h => rw [h]; exact ⟨hok, .inl (Nat.le_refl _)⟩
  | sold n lot x u p a hc ht hw hl hb hs hq =>
    rw [hl]; exact ⟨hok.append (of_decide_eq_true (hf (.inr hc))) rfl, .inr ht⟩

/-- The clock descends or gathers contenders only where it did, or where a free entry was found as the segment began (R114). -/
theorem ClockDeed.free {c : Clock} (h : ClockDeed s c) (hc : c.state = .running ∨ c.state = .contest) :
    s.logFree = true ∨ s.clock.state = .running ∨ s.clock.state = .contest := by
  cases h with
  | load n e hs he => simp [Clock.loadedAt] at hc
  | segment k hs ht hf => exact .inl hf
  | setting c e => rw [e] at hc; exact .inr hc
  | haltDesk hs ht => simp at hc
  | haltFull hs ht => simp at hc
  | haltAfter l r hl hs ht hw => simp at hc
  | restart l hl hs ht hf => exact .inl hf
  | floor hs => simp [Clock.shown] at hc
  | closed hs hn => simp [Clock.emptied] at hc
  | contest x hs ht => exact .inr (.inl hs)
  | unsold hs => exact .inr (.inr hs)
  | sold hs => simp [Clock.shown] at hc
  | _ => exact .inr hc

theorem Deed.logOk (h : Deed s t) (hs : s.LogOk) : t.LogOk := by
  obtain ⟨hl, hlen⟩ := h.books.logOk hs
  refine t.logOk_iff.mpr ⟨hl, fun hc => decide_eq_true ?_⟩
  rcases hlen with hlen | ht
  · have hf : s.logFree = true := (h.clock.free hc).elim id (s.logOk_iff.mp hs).2
    exact hlen.trans_lt (of_decide_eq_true hf)
  · simp [ht] at hc

/-! ## The sums of the PENDING records (R157, R158) -/

/-- A buyer's record, or none, under the sum of the PENDING records that name it (R157, R158). -/
def Buyer.carries (total : Nat) : Option Buyer → Prop
  | some b => total = b.pendingSum ∧ b.pendingSum + b.owed ≤ Config.maxLimit ∧ b.limit ≤ Config.maxLimit
  | none => total = 0

theorem State.moneyOk_iff (s : State) :
    s.MoneyOk ↔ ∀ n, Buyer.carries (s.log.pendingTotal n) (s.accounts.buyers.get n) := by
  unfold State.MoneyOk
  refine ⟨fun ⟨h1, h2⟩ n => ?_, fun h => ⟨fun n => ?_, fun n b hb => ?_⟩⟩
  · have h1 := h1 n
    cases hb : s.accounts.buyers.get n with
    | none => rw [hb] at h1; exact h1
    | some b => rw [hb] at h1; exact ⟨h1, h2 n b hb⟩
  · have h := h n
    cases hb : s.accounts.buyers.get n with
    | none => rw [hb] at h; exact h
    | some b => rw [hb] at h; exact h.1
  · have h := h n
    rw [hb] at h
    exact h.2

/-- What the condition on money reads of a buyer record. -/
def Buyer.sums (b : Buyer) : Nat × Nat × Nat := (b.pendingSum, b.owed, b.limit)

theorem Accounts.sums_seatRequest {a acc : Accounts} {x : SeatAddr} {b : Nat} {c : Option Nat}
    (h : a.seatRequest x b c = some acc) (n : Nat) :
    (acc.buyers.get n).map Buyer.sums = (a.buyers.get n).map Buyer.sums := by
  obtain ⟨r, hr, -, hget⟩ := Accounts.get_seatRequest h
  rw [hget]
  split
  · next hn => rw [hn, hr]; rfl
  · rw [Option.map_map]
    congr 1
    funext e
    dsimp only [Function.comp]
    split <;> rfl

theorem Accounts.sums_clearSeat (a : Accounts) (b n : Nat) :
    ((a.clearSeat b).buyers.get n).map Buyer.sums = (a.buyers.get n).map Buyer.sums := by
  rw [Accounts.clearSeat, Accounts.onBuyer, Tbl.get_modify]
  split
  · rw [Option.map_map]; rfl
  · rfl

theorem Buyer.carries_sums {n : Nat} {x y : Option Buyer} (h : x.map Buyer.sums = y.map Buyer.sums) (hy : Buyer.carries n y) :
    Buyer.carries n x := by
  cases x with
  | none => cases y with
    | none => exact hy
    | some b => simp at h
  | some a => cases y with
    | none => simp at h
    | some b =>
      simp only [Option.map_some, Option.some.injEq, Buyer.sums, Prod.mk.injEq] at h
      obtain ⟨h1, h2, h3⟩ := h
      obtain ⟨c1, c2, c3⟩ := hy
      exact ⟨c1.trans h1.symm, by omega, by omega⟩

/-- The sum under a buyer's number of one record. -/
def Purchase.pendingFor (r : Purchase) (n : Nat) : Nat := if r.state = .pending ∧ r.buyer = n then r.total else 0

theorem Log.pendingTotal_eq (l : Log) (n : Nat) : l.pendingTotal n = (l.records.map fun r => r.pendingFor n).sum := by
  unfold Log.pendingTotal
  induction l.records with
  | nil => rfl
  | cons r rest ih =>
    by_cases h : r.state = .pending ∧ r.buyer = n
    · simp [Purchase.pendingFor, h, ih]
    · simp [Purchase.pendingFor, h, ih]

theorem Log.pendingTotal_append (rs : List Purchase) (r : Purchase) (m q : BitVec 32) (n : Nat) :
    Log.pendingTotal { records := rs ++ [r], nextSeq := m } n =
      Log.pendingTotal { records := rs, nextSeq := q } n + r.pendingFor n := by
  simp [Log.pendingTotal_eq]

theorem Log.pendingTotal_tail {l : Log} {r : Purchase} {rest : List Purchase} (h : l.records = r :: rest) (n : Nat) :
    l.pendingTotal n = r.pendingFor n + Log.pendingTotal { l with records := rest } n := by
  simp [Log.pendingTotal_eq, h]

/-- A record marked VOID leaves the sum, its number being that of no other. -/
theorem sum_markVoid {rs : List Purchase} {r : Purchase} (hn : (rs.map (·.seq)).Nodup) (hr : r ∈ rs) (n : Nat) :
    (rs.map fun r => r.pendingFor n).sum =
      ((rs.map fun x => if x.seq = r.seq then { x with state := .void } else x).map fun r => r.pendingFor n).sum +
        r.pendingFor n := by
  induction rs with
  | nil => cases hr
  | cons x xs ih =>
    obtain ⟨hx, hxs⟩ := List.nodup_cons.mp hn
    have hv : Purchase.pendingFor { x with state := .void } n = 0 := by simp [Purchase.pendingFor]
    rcases List.mem_cons.mp hr with rfl | hr
    · have hrest : xs.map (fun x => if x.seq = r.seq then { x with state := .void } else x) = xs :=
        (List.map_congr_left fun y hy => if_neg fun e => hx (List.mem_map.mpr ⟨y, hy, e⟩)).trans xs.map_id'
      simp only [List.map_cons, List.sum_cons, if_pos, hrest, hv]
      omega
    · have hne : x.seq ≠ r.seq := fun e => hx (List.mem_map.mpr ⟨r, hr, e.symm⟩)
      simp only [List.map_cons, List.sum_cons, if_neg hne, ih hxs hr]
      omega

theorem Log.Ok.pendingTotal_markVoid {l : Log} (h : l.Ok) {r : Purchase} {m : BitVec 32} (hr : l.find m = some r) (n : Nat) :
    l.pendingTotal n = (l.markVoid r.seq).pendingTotal n + r.pendingFor n := by
  rw [Log.pendingTotal_eq, Log.pendingTotal_eq]
  exact sum_markVoid h.nodup (List.mem_of_find?_eq_some hr) n

theorem Buyer.carries_posted {total : Nat} {r : Purchase} {n : Nat} {x : Option Buyer}
    (h : Buyer.carries (r.pendingFor n + total) x) :
    Buyer.carries total (x.map fun b => if r.state = .pending ∧ r.buyer = n then b.posted r.total else b) := by
  cases x with
  | none => exact Nat.eq_zero_of_add_eq_zero_left h
  | some b =>
    obtain ⟨h1, h2, h3⟩ := h
    unfold Purchase.pendingFor at h1
    simp only [Option.map_some]
    by_cases hp : r.state = .pending ∧ r.buyer = n
    · rw [if_pos hp] at h1 ⊢
      exact ⟨show total = b.pendingSum - r.total by omega, show b.pendingSum - r.total + (b.owed + r.total) ≤ _ by omega, h3⟩
    · rw [if_neg hp] at h1 ⊢
      exact ⟨by omega, h2, h3⟩

theorem Buyer.carries_lowered {total x : Nat} {y : Option Buyer} (h : Buyer.carries (total + x) y) :
    Buyer.carries total (y.map fun b => b.lowerPending x) := by
  cases y with
  | none => exact Nat.eq_zero_of_add_eq_zero_right h
  | some b =>
    obtain ⟨h1, h2, h3⟩ := h
    exact ⟨show total = b.pendingSum - x by omega, show b.pendingSum - x + b.owed ≤ _ by omega, h3⟩

/-- The buyer of a contender that wins is there, with room for the line total (R128, R141). -/
theorem State.examine_won {l : Lot} {x : Contender} {u p : Nat} {a : Amounts} (h : s.examine l x = .won u p a) :
    ∃ b, s.accounts.buyers.get x.buyer = some b ∧ b.pendingSum + b.owed + a.total ≤ b.limit := by
  unfold State.examine at h
  cases hb : s.accounts.buyers.get x.buyer with
  | none => simp [hb] at h
  | some b =>
    simp only [hb] at h
    split_ifs at h with h1 h2 h3
    injection h with _ _ e
    rw [← e]
    exact ⟨b, rfl, of_decide_eq_true h3⟩

theorem BooksDeed.moneyOk (h : BooksDeed s t) (hlog : s.LogOk) (hm : s.MoneyOk) : t.MoneyOk := by
  refine t.moneyOk_iff.mpr fun n => ?_
  have hn := s.moneyOk_iff.mp hm n
  cases h with
  | same h => rw [h.log, h.buyers]; exact hn
  | posted r rest hr hl hb hs hq =>
    rw [Log.pendingTotal_tail hr] at hn
    rw [hl, hb, State.get_settleRecord_buyers]
    exact Buyer.carries_posted hn
  | voided r m hr hp hl hb hs hq =>
    rw [(s.logOk_iff.mp hlog).1.pendingTotal_markVoid hr] at hn
    rw [hl, hb, Tbl.get_modify]
    split
    · next e =>
      rw [Purchase.pendingFor, if_pos ⟨hp, e.symm⟩] at hn
      exact Buyer.carries_lowered hn
    · next e =>
      rw [Purchase.pendingFor, if_neg fun h => e h.2.symm] at hn
      exact hn
  | opened m limit fee hm hl hb hs hq =>
    rw [hl, hb]
    by_cases e : n = m
    · subst e
      rw [hm] at hn
      rw [Tbl.get_put_self]
      exact ⟨hn, by simp [Buyer.opened], Nat.min_le_right _ _⟩
    · rw [Tbl.get_put_ne _ _ e]; exact hn
  | closed m b hm hp hseat hl hb hs hq =>
    rw [hl, hb, Tbl.get_erase]
    split
    · next e =>
      rw [e, hm] at hn
      rw [e]
      exact hn.1.trans hp
    · exact hn
  | buyer m f hseat hp ho hlim hl hb hs hq =>
    rw [hl, hb, Tbl.get_modify]
    split
    · cases hb : s.accounts.buyers.get n with
      | none => rw [hb] at hn; exact hn
      | some b =>
        rw [hb] at hn
        obtain ⟨h1, h2, h3⟩ := hn
        have ho := ho b
        have hp := hp b
        refine ⟨h1.trans hp.symm, by omega, ?_⟩
        rcases hlim b with e | e
        · exact e.trans_le h3
        · exact e
    · exact hn
  | unbind a b hb h => rw [h]; exact Buyer.carries_sums (s.accounts.sums_clearSeat b n) hn
  | bind a b acc hr h => rw [h]; exact Buyer.carries_sums (Accounts.sums_seatRequest hr n) hn
  | sold m lot x u p am hc ht hw hl hb hs hq =>
    obtain ⟨b, hbuyer, hlim⟩ := State.examine_won hw
    rw [hl, hb, Log.pendingTotal_append _ _ _ s.log.nextSeq, Tbl.get_modify]
    split
    · next e =>
      rw [e, hbuyer] at hn
      obtain ⟨h1, h2, h3⟩ := hn
      rw [e, hbuyer, Purchase.pendingFor, if_pos ⟨rfl, rfl⟩]
      exact ⟨congrArg (· + am.total) h1, show b.pendingSum + am.total + b.owed ≤ _ by omega, h3⟩
    · next e =>
      rw [Purchase.pendingFor, if_neg fun h => e h.2.symm]
      exact hn

/-! ## The bindings (R71, R163) -/

/-- The seat that a buyer's record names. -/
def seatOf (t : Tbl Buyer) (b : Nat) : Option SeatAddr := (t.get b).bind (·.seat)

theorem State.seatsOk_iff (s : State) :
    s.SeatsOk ↔ ∀ (a : SeatAddr) (b : Nat), s.scan.seats[a].buyer = some b ↔ seatOf s.accounts.buyers b = some a := by
  unfold State.SeatsOk seatOf
  simp only [Option.bind_eq_some_iff]

/-- No binding changed, on either side. -/
theorem State.SeatsOk.same (hs : s.SeatsOk) (hseat : ∀ a : SeatAddr, t.scan.seats[a].buyer = s.scan.seats[a].buyer)
    (hb : ∀ b, seatOf t.accounts.buyers b = seatOf s.accounts.buyers b) : t.SeatsOk :=
  t.seatsOk_iff.mpr fun a b => by rw [hseat, hb]; exact s.seatsOk_iff.mp hs a b

theorem seatOf_modify (t : Tbl Buyer) (n : Nat) {f : Buyer → Buyer} (hf : ∀ b, (f b).seat = b.seat) (b : Nat) :
    seatOf (t.modify n f) b = seatOf t b := by
  unfold seatOf
  rw [Tbl.get_modify]
  split
  · cases t.get b with
    | none => rfl
    | some r => exact hf r
  · rfl

theorem seatOf_clearSeat (a : Accounts) (n b : Nat) :
    seatOf (a.clearSeat n).buyers b = if b = n then none else seatOf a.buyers b := by
  unfold seatOf Accounts.clearSeat Accounts.onBuyer
  rw [Tbl.get_modify]
  split
  · cases a.buyers.get b <;> rfl
  · rfl

theorem seatOf_settleRecord (s : State) (r : Purchase) (b : Nat) :
    seatOf (s.settleRecord r).accounts.buyers b = seatOf s.accounts.buyers b := by
  unfold seatOf
  rw [State.get_settleRecord_buyers]
  cases s.accounts.buyers.get b with
  | none => rfl
  | some e => simp only [Option.map_some, Option.bind_some]; split <;> rfl

/-- A record without a seat comes and goes without a binding. -/
theorem seatOf_put {t : Tbl Buyer} {n : Nat} {r : Buyer} (hn : t.get n = none) (hr : r.seat = none) (b : Nat) :
    seatOf (t.put n r) b = seatOf t b := by
  unfold seatOf
  by_cases h : b = n
  · rw [h, Tbl.get_put_self, hn]; exact hr
  · rw [Tbl.get_put_ne _ _ h]

theorem seatOf_erase {t : Tbl Buyer} {n : Nat} {r : Buyer} (hn : t.get n = some r) (hr : r.seat = none) (b : Nat) :
    seatOf (t.erase n) b = seatOf t b := by
  unfold seatOf
  rw [Tbl.get_erase]
  split
  · next h => rw [h, hn]; exact hr.symm
  · rfl

theorem State.SeatsOk.unbind (hs : s.SeatsOk) {a : SeatAddr} {b : Nat} (hb : s.scan.seats[a].buyer = some b) :
    (s.unbindSeat a b).SeatsOk := by
  have hs := s.seatsOk_iff.mp hs
  refine (State.seatsOk_iff _).mpr fun x n => ?_
  rw [show (s.unbindSeat a b).accounts = s.accounts.clearSeat b from rfl, seatOf_clearSeat]
  by_cases hx : x = a
  · subst hx
    have hself : (s.unbindSeat x b).scan.seats[x].buyer = none := by rw [State.unbindSeat, State.onSeat_seat]
    rw [hself]
    refine ⟨nofun, fun h => ?_⟩
    split_ifs at h with hn
    have := hb.symm.trans ((hs x n).mpr h)
    injection this with this
    exact absurd this.symm hn
  · rw [State.unbindSeat_seat_ne _ _ hx, hs x n]
    split_ifs with hn
    · refine ⟨fun h => ?_, nofun⟩
      rw [hn, (hs a b).mp hb] at h
      injection h with h
      exact absurd h.symm hx
    · rfl

theorem State.SeatsOk.bind (hs : s.SeatsOk) {a : SeatAddr} {b : Nat} {acc : Accounts}
    (hr : s.accounts.seatRequest a b s.scan.seats[a].buyer = some acc) :
    (({ s with accounts := acc } : State).onSeat a fun x => { x with buyer := some b, quantity := 1 }).SeatsOk := by
  have hs := s.seatsOk_iff.mp hs
  obtain ⟨r, hb, hy, hget⟩ := Accounts.get_seatRequest hr
  have hacc (n : Nat) : seatOf acc.buyers n =
      if n = b then some a else if s.scan.seats[a].buyer = some n then none else seatOf s.accounts.buyers n := by
    unfold seatOf
    rw [hget]
    split_ifs with h1 h2
    · rfl
    · cases s.accounts.buyers.get n <;> simp
    · cases s.accounts.buyers.get n <;> simp
  have hseat : seatOf s.accounts.buyers b = none ∨ seatOf s.accounts.buyers b = some a := by
    rw [seatOf, hb, Option.bind_some]
    cases e : r.seat with
    | none => exact .inl rfl
    | some y => exact .inr (congrArg some (hy y e))
  refine (State.seatsOk_iff _).mpr fun x n => ?_
  rw [State.onSeat_accounts, hacc]
  by_cases hx : x = a
  · subst hx
    rw [State.onSeat_seat]
    by_cases hn : n = b
    · simp [hn]
    · rw [if_neg hn]
      refine ⟨fun h => absurd (Option.some.inj h).symm hn, fun h => ?_⟩
      split_ifs at h with hc
      exact absurd ((hs x n).mpr h) hc
  · rw [State.onSeat_seat_ne _ _ hx]
    rw [show ({ s with accounts := acc } : State).scan = s.scan from rfl, hs x n]
    split_ifs with hn hc
    · rw [hn]
      rcases hseat with e | e
      · rw [e]; exact ⟨nofun, fun h => absurd (Option.some.inj h).symm hx⟩
      · rw [e]
    · rw [(hs a n).mp hc]
      exact ⟨fun h => absurd (Option.some.inj h).symm hx, nofun⟩
    · rfl

theorem BooksDeed.seatsOk (h : BooksDeed s t) (hs : s.SeatsOk) : t.SeatsOk := by
  cases h with
  | same h => exact hs.same h.seats fun b => by rw [h.buyers]
  | posted r rest hr hl hb hscan hq => exact hs.same (fun a => by rw [hscan]) fun b => by rw [hb, seatOf_settleRecord]
  | voided r n hr hp hl hb hscan hq =>
    exact hs.same (fun a => by rw [hscan]) fun b => by rw [hb]; exact seatOf_modify _ _ (by intro _; rfl) b
  | opened n limit fee hn hl hb hscan hq =>
    exact hs.same (fun a => by rw [hscan]) fun b => by rw [hb]; exact seatOf_put hn rfl b
  | closed n b hn hp hseat hl hb hscan hq =>
    exact hs.same (fun a => by rw [hscan]) fun b => by rw [hb]; exact seatOf_erase hn hseat b
  | buyer n f hseat hp ho hlim hl hb hscan hq =>
    exact hs.same (fun a => by rw [hscan]) fun b => by rw [hb]; exact seatOf_modify _ _ hseat b
  | unbind a b hn h => rw [h]; exact hs.unbind hn
  | bind a b acc hr h => rw [h]; exact hs.bind hr
  | sold n l x u p a hc ht hw hl hb hseats hq =>
    exact hs.same hseats fun b => by rw [hb]; exact seatOf_modify _ _ (by intro _; rfl) b

end

/-! ## Every step -/

theorem Kept.logOk : Kept State.LogOk :=
  .of_deeds (fun _ _ _ h => h) (fun _ _ h => h) (fun hd h => hd.logOk h) (fun _ h => h)
    (fun s b h => by
      unfold State.LogOk
      rw [State.railDone_log, State.railDone_clock]
      exact h)
    (fun _ _ => (State.logOk_iff _).mpr ⟨.empty 1, nofun⟩)
    fun s h => (State.logOk_iff _).mpr
      ⟨((State.logOk_iff _).mp h).1.same (by simp [State.resetWith_eq, Log.carryAll, Function.comp_def]) rfl, nofun⟩

theorem Log.pendingTotal_carryAll (l : Log) (n : Nat) : l.carryAll.pendingTotal n = l.pendingTotal n := by
  simp [Log.pendingTotal_eq, Log.carryAll, Purchase.pendingFor, Function.comp_def]

theorem Kept.moneyOk : Kept fun s => s.LogOk ∧ s.MoneyOk :=
  .of_deeds (fun _ _ _ h => h) (fun _ _ h => h) (fun hd ⟨hl, hm⟩ => ⟨hd.logOk hl, hd.books.moneyOk hl hm⟩) (fun _ h => h)
    (fun s b ⟨hl, hm⟩ => ⟨Kept.logOk.change (.railDone .refl b) hl, by
      unfold State.MoneyOk
      rw [State.railDone_log, State.railDone_accounts]
      exact hm⟩)
    (fun s h => ⟨Kept.logOk.power s h.1, (State.moneyOk_iff _).mpr fun _ => rfl⟩)
    fun s ⟨hl, hm⟩ => ⟨Kept.logOk.pin s hl, (State.moneyOk_iff _).mpr fun n => by
      obtain ⟨-, -, -, ha, hlog, -⟩ := s.resetWith_eq .pin { s.accounts.clearSeats with lastRefusal := none } s.log.carryAll
      rw [ha, hlog, Log.pendingTotal_carryAll]
      refine Buyer.carries_sums ?_ (s.moneyOk_iff.mp hm n)
      simp only [Accounts.clearSeats, Tbl.get_mapAll, Option.map_map]
      rfl⟩

theorem Scanner.reset_unbound (a : SeatAddr) : Scanner.reset.seats[a].buyer = none := by
  have h : Scanner.reset.seats[a] = Seat.reset := by simp [Scanner.reset]
  rw [h]; rfl

theorem State.resetWith_seatsOk (s : State) (c : ResetCause) (a : Accounts) (l : Log) (h : ∀ b, seatOf a.buyers b = none) :
    (s.resetWith c a l).SeatsOk := by
  obtain ⟨-, -, hs, ha, -⟩ := s.resetWith_eq c a l
  refine (State.seatsOk_iff _).mpr fun x b => ?_
  rw [hs, ha, h, Scanner.reset_unbound]
  exact ⟨nofun, nofun⟩

theorem Kept.seatsOk : Kept State.SeatsOk :=
  .of_deeds (fun _ _ _ h => h) (fun _ _ h => h) (fun hd h => hd.books.seatsOk h) (fun _ h => h)
    (fun s b h => h.same (fun a => by rw [State.railDone_scan]) fun n => by rw [State.railDone_accounts])
    (fun s _ => s.resetWith_seatsOk _ _ _ fun _ => rfl)
    fun s _ => s.resetWith_seatsOk _ _ _ fun b => by
      simp only [seatOf, Accounts.clearSeats, Tbl.get_mapAll]
      cases s.accounts.buyers.get b <;> rfl

/-- Settles O56: a record joins the log at a sale, where an entry was free, and each binding changes on both sides at once. -/
theorem everyStepKeepsLogMoneyAndBindings : Obligations.EveryStepKeepsLogMoneyAndBindings := fun _ _ hs =>
  ⟨fun hl => ⟨Kept.logOk.step hs hl, fun hm => (Kept.moneyOk.step hs ⟨hl, hm⟩).2⟩, Kept.seatsOk.step hs⟩

end Sys2Proof.Machine

/-!
The machine: a step, the answer of every command and event, and the state after a reset.
-/

namespace Sys2Proof.Machine

/-- Settles O1, case by case along the step and the idle step. -/
theorem stepTakesFrontOrIdles : Obligations.StepTakesFrontOrIdles := by
  refine ⟨fun c s => rfl, fun s hp => ⟨fun hn => ?_, fun hn => ⟨fun i hi => ?_, fun hd => ?_⟩⟩⟩
  · simp only [step, hp, State.idle, hn, if_true]
  · simp [step, hp, State.idle, hn, hi]
  · simp [step, hp, State.idle, hn, hd]

/-! ## The commands that wait -/

theorem BooksDeed.pending {s t : State} (h : BooksDeed s t) : t.pending = s.pending := by
  cases h with
  | same h => exact h.queue
  | unbind a b hn h => rw [h]; rfl
  | bind a b acc hr h => rw [h]; rfl
  | _ => assumption

theorem Changes.pending {s t : State} (h : Changes s t) : t.pending = s.pending :=
  Changes.keeps (P := fun x => x.pending = s.pending)
    (Change.keeps (fun hd h => hd.books.pending.trans h) (fun _ h => h) fun x b h => (x.railDone_pending b).trans h) h rfl

/-- Every row of the table is answered with a next state. -/
theorem exec_answers (i : Instr) (s : State) : ∃ t, exec i s = .next t := by
  cases i <;> exact ⟨_, rfl⟩

theorem exec_pending (i : Instr) {s t : State} (h : exec i s = .next t) : t.pending = s.pending := by
  refine exec_keeps (P := fun x => x.pending = s.pending) (fun _ _ _ h => h)
    (fun i x hx => ((takeCommand_changes i x).pending).trans hx) (fun i x t hb hx he => ?_) i rfl h
  by_cases h1 : i = .powerOnReset
  · subst h1; injection he with he; exact he ▸ hx
  by_cases h2 : i = .pinReset
  · subst h2; injection he with he; exact he ▸ hx
  exact (execBlock_changes i x t hb h1 h2 he).pending.trans hx

/-- Settles O2: no deed reaches the queue. -/
theorem execAnswersAndKeepsQueue : Obligations.ExecAnswersAndKeepsQueue := fun i s => by
  obtain ⟨t, ht⟩ := exec_answers i s
  exact ⟨t, ht, exec_pending i ht⟩

/-! ## The state after reset -/

theorem Rail.reset_slot (i : Fin 3) : Rail.reset.slots[i] = none := by simp [Rail.reset]
theorem Rail.reset_stall (k : Sec) : Rail.reset.stalls[k] = none := by simp [Rail.reset]

theorem Rail.reset_noMove {i : Fin 3} {m : Move} (h : Rail.reset.slots[i] = some m) : False := by
  rw [Rail.reset_slot] at h; cases h
theorem Rail.reset_noStall {k : Sec} {st : Stall} (h : Rail.reset.stalls[k] = some st) : False := by
  rw [Rail.reset_stall] at h; cases h

theorem State.reset_railOk : State.reset.RailOk where
  apart := ⟨fun _ _ h => (Rail.reset_noMove h).elim, fun _ _ _ _ h => (Rail.reset_noMove h).elim⟩
  carries := fun _ _ h => (Rail.reset_noMove h).elim
  emptied := by decide
  reserved := by decide
  stalled := fun _ _ h => (Rail.reset_noStall h).elim
  unnamed := by decide
  gate := by decide
  hold := by decide
  unknown := by decide
  eject := by decide
  admission := by decide
  trains := nofun
  occupants := by decide

theorem State.reset_gateOk : State.reset.GateOk where
  energised := by decide
  opened := nofun
  jogged := nofun

theorem State.reset_lotsOk : State.reset.LotsOk := ⟨nofun, nofun, nofun, nofun, nofun⟩

theorem State.reset_contestOk : State.reset.ContestOk := (State.contestOk_iff _).mpr (Clock.contestOk_empty nofun rfl rfl)

theorem State.reset_imageOk : State.reset.ImageOk := by unfold State.ImageOk; decide

theorem State.reset_portsOk : State.reset.PortsOk := fun p => by
  have h : Port.Ok p Port.reset := by
    refine ⟨by decide, by decide, by decide, ?_, ?_, by decide, by decide, nofun⟩ <;> simp [Port.reset]
  cases p <;> exact h

theorem State.reset_rangesOk : State.reset.RangesOk := (State.rangesOk_iff _).mpr
  ⟨Clock.reset_ranged, ⟨by decide, by decide, by decide⟩, Scanner.reset_ranged⟩

theorem State.reset_seatsOk : State.reset.SeatsOk := (State.seatsOk_iff _).mpr fun a b => by
  rw [show State.reset.scan = Scanner.reset from rfl, Scanner.reset_unbound]
  exact ⟨nofun, nofun⟩

/-- With the input levels of the reset state the survey finds nothing, and nothing becomes eligible (R36, R53, R68). -/
theorem State.reset_reset : exec .powerOnReset State.reset = .next State.reset := by
  have hr : Rail.surveyed Inputs.reset = Rail.reset := by decide
  have hd : Drive.reset.relatchAll Inputs.reset = Drive.reset := by decide
  have hs : RailWork.settle State.reset.lots { rail := Rail.reset, drive := Drive.reset, raised := 0 } =
    { rail := Rail.reset, drive := Drive.reset, raised := 0 } := by decide
  have h : State.reset.resetWith .power { buyers := [], lastRefusal := none } { records := [], nextSeq := 1 } =
      State.reset.settle := by
    unfold State.resetWith
    rw [show State.reset.inputs = Inputs.reset from rfl, hr, hd]
    rfl
  have hq : State.reset.settle = State.reset := by
    unfold State.settle State.onRail
    rw [show State.reset.rail = Rail.reset from rfl, show State.reset.drive = Drive.reset from rfl]
    dsimp only
    rw [hs]
    rfl
  exact congrArg Host.Outcome.next (h.trans hq)

/-- Settles O54, invariant by invariant on the empty state. -/
theorem resetMeetsEveryInvariant : Obligations.ResetMeetsEveryInvariant :=
  ⟨⟨rfl, rfl, rfl⟩, ⟨Nat.zero_le _, Nat.zero_le _, Nat.zero_le _, Nat.zero_le _, Nat.zero_le _⟩,
    (State.logOk_iff _).mpr ⟨.empty 1, nofun⟩, (State.moneyOk_iff _).mpr fun _ => rfl, State.reset_seatsOk,
    State.reset_contestOk, Clock.reset_ok, Clock.historyOk_outside nofun nofun, State.reset_railOk, State.reset_gateOk,
    State.reset_lotsOk, ⟨nofun, fun _ h => absurd rfl h⟩, ⟨.nil, fun t => ⟨nofun, by rintro (h | h) <;> cases h⟩⟩,
    State.reset_imageOk, Drive.reset_ok, State.reset_portsOk, State.reset_rangesOk, State.reset_reset⟩

end Sys2Proof.Machine

/-!
The station ports: select, words, frames and replies, word by word, and the reading of a frame back into its command.
-/

namespace Sys2Proof.Machine

/-! ## Select (R193, R203) -/

theorem exec_selectFall {s : State} {p : Role} (h : (s.port p).selectLow = false) :
    exec (.selectFall p) s = .next (s.onPort p Port.openWindow) := by
  change Host.Outcome.next _ = _
  rw [h]; rfl

theorem exec_selectRise {s : State} {p : Role} (h : (s.port p).selectLow = true) :
    exec (.selectRise p) s = .next (s.onPort p Port.closeWindow) := by
  change Host.Outcome.next _ = _
  rw [h]; rfl

/-- Settles O5: each edge is one change of the port record. -/
theorem selectOpensAndClosesWindow : Obligations.SelectOpensAndClosesWindow := by
  refine fun p s => ⟨fun h => ⟨_, exec_selectFall h, ?_⟩, fun h => ⟨_, exec_selectRise h, ?_⟩⟩
  · rw [State.listens_iff]
    simp [State.onPort, Port.openWindow, Port.cleared]
  · cases hr : (s.port p).resetPending <;>
      simp [State.onPort, State.attention, Port.closeWindow, Port.carryOutReset, Port.cleared, hr]

/-! ## Words that touch the port alone -/

/-- A run of words takes a port record from `r` to `r'`, each of them changing that record and nothing else of the part. -/
inductive Walks (p : Role) : Port → List LinkWord → Port → Prop
  | nil (r : Port) : Walks p r [] r
  | cons {r r' r'' : Port} {w : LinkWord} {ws : List LinkWord}
      (h : ∀ x : State, x.port p = r → x.clockWord p w = x.setPort p r') (t : Walks p r' ws r'') : Walks p r (w :: ws) r''

theorem Walks.append {p : Role} {r r' r'' : Port} {us ws : List LinkWord} (h : Walks p r us r') (h' : Walks p r' ws r'') :
    Walks p r (us ++ ws) r'' := by
  induction h with
  | nil r => exact h'
  | cons hw _ ih => exact .cons hw (ih h')

theorem Walks.clockWords {p : Role} {r r' : Port} {ws : List LinkWord} (h : Walks p r ws r') (x : State) (hx : x.port p = r) :
    x.clockWords p ws = x.setPort p r' := by
  induction h generalizing x with
  | nil r => rw [← hx]; simp
  | cons hw _ ih =>
    rw [State.clockWords_cons, hw x hx, ih _ (by simp)]
    cases p <;> rfl

/-- The steps over queued words are the words clocked. -/
theorem run_wordClocked (x : State) (p : Role) (w : LinkWord) (l : List Instr) (n : Nat) :
    Sys2Proof.core.run (n + 1) { x with pending := Instr.wordClocked p w :: l } =
      Sys2Proof.core.run n (({ x with pending := l } : State).clockWord p w) := rfl

theorem Walks.run {p : Role} {r r' : Port} {ws : List LinkWord} (h : Walks p r ws r') (x : State) (hx : x.port p = r)
    (l : List Instr) (n : Nat) :
    Sys2Proof.core.run (n + ws.length) { x with pending := ws.map (Instr.wordClocked p) ++ l } =
      Sys2Proof.core.run n (({ x with pending := l } : State).setPort p r') := by
  induction h generalizing x with
  | nil r =>
    rw [← hx]
    congr 1
    cases p <;> rfl
  | @cons r r' r'' w ws hw _ ih =>
    have hport : ({ x with pending := ws.map (Instr.wordClocked p) ++ l } : State).port p = r := by
      rw [← hx]; cases p <;> rfl
    rw [List.map_cons, List.cons_append, List.length_cons, ← Nat.add_assoc, run_wordClocked, hw _ hport]
    have e : ({ x with pending := ws.map (Instr.wordClocked p) ++ l } : State).setPort p r' =
        { x.setPort p r' with pending := ws.map (Instr.wordClocked p) ++ l } := by cases p <;> rfl
    rw [e, ih _ (by simp)]
    congr 1
    cases p <;> rfl

/-! ## A reply carried out (R195) -/

/-- During a reply each word carries out the next reply word, and the last one ends the reply. -/
theorem Walks.reply (p : Role) (ws : List LinkWord) (r : Port) (h0 : ws ≠ []) (hw : r.window = .opened) (hp : r.phase = .reply)
    (hl : ws.length ≤ r.replyLeft.length) : ∃ r', Walks p r ws r' ∧
      (r.replyLeft.take ws.length).getLast? = some r'.out ∧ r'.replyLeft = r.replyLeft.drop ws.length ∧
      (r'.phase = .frame ↔ ws.length = r.replyLeft.length) ∧ r'.events = r.events ∧ r'.mask = r.mask := by
  induction ws generalizing r with
  | nil => exact absurd rfl h0
  | cons w ws ih =>
    cases hr : r.replyLeft with
    | nil => simp [hr] at hl
    | cons x rest =>
      have hstep : ∀ s : State, s.port p = r → s.clockWord p w = s.setPort p r.replyWord := fun s hs => by
        rw [s.clockWord_reply p w (by rw [hs]; exact hw) (by rw [hs]; exact hp), ← hs]; rfl
      have hword : r.replyWord = { r with out := x, replyLeft := rest, phase := if rest = [] then .frame else .reply } := by
        simp [Port.replyWord, hr]
      by_cases hws : ws = []
      · subst hws
        refine ⟨_, .cons hstep (.nil _), ?_⟩
        rw [hword]
        cases rest <;> simp
      · have hrest : rest ≠ [] := by
          rintro rfl
          simp only [hr, List.length_cons, List.length_nil] at hl
          exact hws (List.length_eq_zero_iff.mp (by omega))
        obtain ⟨r', hwalk, hout, hleft, hphase, hev, hm⟩ := ih r.replyWord hws (by rw [hword]; exact hw)
          (by rw [hword]; simp [hrest]) (by rw [hword]; simpa [hr] using hl)
        rw [hword] at hout hleft hphase hev hm
        refine ⟨r', .cons hstep hwalk, ?_, hleft, by simpa using hphase, hev, hm⟩
        obtain ⟨y, ys, rfl⟩ := List.exists_cons_of_ne_nil hrest
        obtain ⟨v, vs, rfl⟩ := List.exists_cons_of_ne_nil hws
        simpa using hout

theorem State.clockWord_idle {s : State} {p : Role} (h : (s.port p).ready = true) {w : LinkWord} (hw : w.isIdle = true) :
    s.clockWord p w = s.onPort p fun r => { r with out := LinkWord.idle } := by
  simp only [Port.ready, Bool.and_eq_true, decide_eq_true_eq] at h
  obtain ⟨⟨hopen, hphase⟩, hframe⟩ := h
  rw [s.clockWord_frame p w hopen hphase, State.frameWord]
  simp [hframe, hw, State.onPort]

/-- Settles O6: the first two are single words, and a reply is carried out word by word. -/
theorem replyIsClockedOutInOrder : Obligations.ReplyIsClockedOutInOrder := by
  refine fun p s => ⟨fun h w => ?_, fun h w hw => ?_, fun hw hp ws h0 hl => ?_⟩
  · exact congrArg Host.Outcome.next (s.clockWord_closed p w h)
  · exact congrArg Host.Outcome.next (State.clockWord_idle h hw)
  · obtain ⟨r', hwalk, hrest⟩ := Walks.reply p ws (s.port p) h0 hw hp hl
    have hrun := hwalk.run s rfl [] 0
    rw [List.append_nil, Nat.zero_add] at hrun
    refine ⟨_, hrun, ?_⟩
    rw [State.port_setPort_self]
    exact ⟨rfl, hrest⟩

/-! ## A frame received (R193, R194) -/

/-- A port record that has received the words `u`, at least one and no check word among them. -/
def Port.holding (r : Port) (u : List LinkWord) : Port :=
  { r with out := LinkWord.idle, frame := u.take 66, discarded := u.length - 66, crc := crc8 (u.map LinkWord.data),
           parityBad := u.any fun w => !w.parityGood }

/-- A port record that has received the words `u` and then a check word. -/
def Port.checked (r : Port) (u : List LinkWord) (w : LinkWord) : Port :=
  { r.holding u with frame := u.take 66 ++ [w], parityBad := (u ++ [w]).any fun w => !w.parityGood }

theorem crc8_append (l : Bytes) (b : Byte) : crc8 (l ++ [b]) = crcByte (crc8 l) b := by simp [crc8]

theorem Port.receive_first {r : Port} (h : r.frame = []) (w : LinkWord) :
    ({ r with out := LinkWord.idle } : Port).receive w = r.holding [w] := by
  simp [Port.receive, Port.holding, h, Port.cleared, Port.beyond, Port.atCheck, Port.received, Port.lengthWord, crc8]

section
variable {r : Port} {u : List LinkWord} (hu : u ≠ [])
include hu

theorem Port.holding_frame_ne : (r.holding u).frame ≠ [] := by
  simp [Port.holding, hu]

omit hu in
theorem Port.holding_received : (r.holding u).received = u.length := by
  simp only [Port.received, Port.holding, List.length_take]
  omega

omit hu in
theorem Port.holding_lengthWord : (r.holding u).lengthWord = (u[1]?).map fun l => l.data.toNat := by
  unfold Port.lengthWord Port.holding
  rcases u with _ | ⟨a, _ | ⟨b, l⟩⟩ <;> rfl

omit hu in
theorem Port.holding_complete : (r.holding u).complete = true ↔
    ∃ l, u[1]? = some l ∧ 2 + l.data.toNat + r.checkNow.toNat = u.length := by
  simp only [Port.complete, decide_eq_true_eq, Port.extent, Port.holding_lengthWord, Port.holding_received,
    Option.map_eq_some_iff, exists_exists_and_eq_and]
  rfl

/-- A word that is not the check word is kept, or discarded beyond the 66th. -/
theorem Port.receive_more (hl : ∀ l, u[1]? = some l → u.length < 2 + l.data.toNat) (w : LinkWord) :
    ({ r.holding u with out := LinkWord.idle } : Port).receive w = r.holding (u ++ [w]) := by
  have hat : (r.holding u).atCheck = false := by
    rw [Port.atCheck, Port.holding_lengthWord, Port.holding_received]
    cases h : u[1]? with
    | none => rfl
    | some l => simpa using (hl l h).ne
  have hbe : (r.holding u).beyond = decide (66 ≤ u.length) := by
    rw [Port.beyond, Port.holding_lengthWord, Port.holding_received]
    cases h : u[1]? with
    | none =>
      have : u.length ≤ 1 := List.getElem?_eq_none_iff.mp h
      simp
      omega
    | some l => rw [Option.map_some, Option.any_some, decide_eq_true (hl l h), Bool.and_true]; rfl
  have hne := Port.holding_frame_ne (r := r) hu
  rw [show ({ r.holding u with out := LinkWord.idle } : Port) = r.holding u from rfl]
  unfold Port.receive
  simp only [if_neg hne, hat, hbe]
  simp only [Port.holding]
  by_cases h66 : 66 ≤ u.length
  · simp [h66, crc8_append, List.take_append_of_le_length h66]
    omega
  · have h1 : u.take 66 = u := List.take_of_length_le (by omega)
    have h2 : (u ++ [w]).take 66 = u ++ [w] := List.take_of_length_le (by simp; omega)
    simp [h66, crc8_append, h1, h2]
    omega

/-- The check word is kept, and left out of the sum (R194). -/
theorem Port.receive_check {l : LinkWord} (h1 : u[1]? = some l) (hl : u.length = 2 + l.data.toNat) (w : LinkWord) :
    ({ r.holding u with out := LinkWord.idle } : Port).receive w = r.checked u w := by
  have hat : (r.holding u).atCheck = true := by
    rw [Port.atCheck, Port.holding_lengthWord, Port.holding_received, h1]
    simpa using hl
  have hbe : (r.holding u).beyond = false := by
    rw [Port.beyond, Port.holding_lengthWord, Port.holding_received, h1]
    simp [hl]
  have hne := Port.holding_frame_ne (r := r) hu
  rw [show ({ r.holding u with out := LinkWord.idle } : Port) = r.holding u from rfl]
  unfold Port.receive
  simp only [if_neg hne, hat, hbe]
  simp [Port.holding, Port.checked]

/-- A word after `u` that does not complete the frame. -/
theorem Walks.frame_more {p : Role} (ho : r.window = .opened) (hp : r.phase = .frame) {w : LinkWord}
    (hl : ∀ l, u[1]? = some l → u.length < 2 + l.data.toNat) (hc : (r.holding (u ++ [w])).complete = false) :
    Walks p (r.holding u) [w] (r.holding (u ++ [w])) := by
  refine .cons (fun x hx => ?_) (.nil _)
  rw [x.clockWord_frame p w (by rw [hx]; exact ho) (by rw [hx]; exact hp), State.frameWord]
  dsimp only
  rw [hx, Port.receive_more hu hl, if_neg fun h => Port.holding_frame_ne hu h.1, hc]
  rfl

end

/-- The first word of a frame. -/
theorem Walks.frame_first {p : Role} {r : Port} (hr : r.ready = true) {w : LinkWord} (hw : w.isIdle = false) :
    Walks p r [w] (r.holding [w]) := by
  simp only [Port.ready, Bool.and_eq_true, decide_eq_true_eq] at hr
  obtain ⟨⟨ho, hp⟩, hf⟩ := hr
  refine .cons (fun x hx => ?_) (.nil _)
  have hc : (r.holding [w]).complete = false := Bool.eq_false_iff.mpr fun h => by
    obtain ⟨l, h1, -⟩ := Port.holding_complete.mp h
    simp at h1
  rw [x.clockWord_frame p w (by rw [hx]; exact ho) (by rw [hx]; exact hp), State.frameWord]
  dsimp only
  rw [hx, Port.receive_first hf, hw, hc]
  simp

/-- The port record that has received a whole frame. -/
def Port.framed (r : Port) (ws : List LinkWord) : Port :=
  if r.checkNow then r.checked ws.dropLast (ws.getLast?.getD 0) else r.holding ws

theorem Port.checked_complete {r : Port} {u : List LinkWord} {l : LinkWord} (h1 : u[1]? = some l)
    (hl : u.length = 2 + l.data.toNat) (hc : r.checkNow = true) (w : LinkWord) : (r.checked u w).complete = true := by
  rcases u with _ | ⟨a, _ | ⟨b, v⟩⟩
  · simp at h1
  · simp at h1
  · obtain rfl : b = l := by simpa using h1
    simp only [List.length_cons] at hl
    simp [Port.complete, Port.extent, Port.lengthWord, Port.received, Port.checked, Port.holding, hc]
    omega

theorem wholeFrame_iff (check : Bool) (ws : List LinkWord) : wholeFrame check ws = true ↔
    ∃ c l rest, ws = c :: l :: rest ∧ c.isIdle = false ∧ rest.length = l.data.toNat + check.toNat := by
  rcases ws with _ | ⟨c, _ | ⟨l, rest⟩⟩ <;> simp [wholeFrame]

section
variable {r : Port} {ws : List LinkWord} {c l : LinkWord} {rest : List LinkWord} (hr : r.ready = true)
  (hws : ws = c :: l :: rest) (hc : c.isIdle = false) (hl : rest.length = l.data.toNat + r.checkNow.toNat)
include hr hws hc hl

/-- The words of a whole frame before its last touch the port record alone. -/
theorem Walks.prefix (p : Role) (u : List LinkWord) (h0 : u ≠ []) (hu : u <+: ws) (hlt : u.length < ws.length) :
    Walks p r u (r.holding u) := by
  have hready := hr
  simp only [Port.ready, Bool.and_eq_true, decide_eq_true_eq] at hready
  obtain ⟨⟨ho, hp⟩, -⟩ := hready
  have hlen : ws.length = 2 + l.data.toNat + r.checkNow.toNat := by rw [hws, List.length_cons, List.length_cons, hl]; omega
  have hck : r.checkNow.toNat ≤ 1 := by cases r.checkNow <;> simp
  have hsecond (v : List LinkWord) (hv : v <+: ws) (x : LinkWord) (hx : v[1]? = some x) : x = l := by
    obtain ⟨t, rfl⟩ := hv
    have : (v ++ t)[1]? = some x := by rw [List.getElem?_append_left (List.getElem?_eq_some_iff.mp hx).1]; exact hx
    rw [hws] at this
    simpa using this.symm
  induction u using List.reverseRecOn with
  | nil => exact absurd rfl h0
  | append_singleton v w ih =>
    by_cases hv : v = []
    · subst hv
      obtain ⟨t, ht⟩ := hu
      rw [hws] at ht
      injection ht with e _
      exact Walks.frame_first hr (e ▸ hc)
    · have hvws : v <+: ws := (List.prefix_append v [w]).trans hu
      rw [List.length_append, List.length_singleton] at hlt
      refine .append (ih hv hvws (by omega)) (Walks.frame_more hv ho hp (fun x hx => ?_) (Bool.eq_false_iff.mpr fun h => ?_))
      · rw [hsecond v hvws x hx]; omega
      · obtain ⟨x, hx, e⟩ := Port.holding_complete.mp h
        rw [hsecond _ hu x hx, List.length_append, List.length_singleton] at e
        omega

omit hc in
/-- The last word of a whole frame hands the frame over to be verified. -/
theorem State.clockWord_last (p : Role) {u : List LinkWord} {w : LinkWord} (hu : ws = u ++ [w]) (x : State)
    (hx : x.port p = r.holding u) :
    x.clockWord p w = (x.setPort p { r.cleared with out := LinkWord.idle }).frameDone p (r.framed ws) := by
  have hready := hr
  simp only [Port.ready, Bool.and_eq_true, decide_eq_true_eq] at hready
  obtain ⟨⟨ho, hp⟩, -⟩ := hready
  have hlen : ws.length = 2 + l.data.toNat + r.checkNow.toNat := by rw [hws, List.length_cons, List.length_cons, hl]; omega
  have hulen : u.length + 1 = ws.length := by rw [hu]; simp
  have hne : u ≠ [] := by rintro rfl; simp at hulen; omega
  have hws1 : ws[1]? = some l := by rw [hws]; rfl
  rw [x.clockWord_frame p w (by rw [hx]; exact ho) (by rw [hx]; exact hp), State.frameWord]
  dsimp only
  rw [hx, if_neg fun h => Port.holding_frame_ne hne h.1]
  cases hck : r.checkNow with
  | false =>
    have hless : ∀ y, u[1]? = some y → u.length < 2 + y.data.toNat := fun y hy => by
      have : ws[1]? = some y := by
        rw [hu, List.getElem?_append_left (List.getElem?_eq_some_iff.mp hy).1]; exact hy
      obtain rfl : l = y := Option.some.inj (hws1.symm.trans this)
      rw [hck] at hlen; simp at hlen; omega
    have hcomp : (r.holding ws).complete = true := Port.holding_complete.mpr ⟨l, hws1, hlen.symm⟩
    rw [Port.receive_more hne hless, ← hu, hcomp, Port.framed, hck]
    rfl
  | true =>
    rw [hck] at hlen
    simp only [Bool.toNat_true] at hlen
    have hu1 : u[1]? = some l := by
      rw [hu, List.getElem?_append_left (by omega)] at hws1; exact hws1
    have hul : u.length = 2 + l.data.toNat := by omega
    rw [Port.receive_check hne hu1 hul, Port.checked_complete hu1 hul hck, Port.framed, hck, hu]
    simp
    rfl

end

/-- A whole frame clocked on a ready port is received there and verified. -/
theorem State.clockWords_frame {s : State} {p : Role} {ws : List LinkWord} (hr : (s.port p).ready = true)
    (hw : wholeFrame (s.port p).checkNow ws = true) :
    s.clockWords p ws = (s.frameTaken p).frameDone p ((s.port p).framed ws) := by
  obtain ⟨c, l, rest, hws, hc, hl⟩ := (wholeFrame_iff _ _).mp hw
  obtain ⟨u, w, hu⟩ : ∃ u w, ws = u ++ [w] := ⟨_, _, (List.dropLast_concat_getLast (hws ▸ nofun : ws ≠ [])).symm⟩
  have h0 : u ≠ [] := by rintro rfl; rw [hu] at hws; cases hws
  have hwalk := Walks.prefix hr hws hc hl p u h0 (hu ▸ List.prefix_append u [w]) (by rw [hu]; simp)
  rw [hu, State.clockWords_append, hwalk.clockWords s rfl, State.clockWords_cons, State.clockWords_nil,
    State.clockWord_last hr hws hl p hu _ (by simp), ← hu]
  congr 1
  cases p <;> rfl

/-- The steps over a frame's queued words, with nothing else waiting, are the words clocked. -/
theorem run_frame {s : State} {p : Role} {ws : List LinkWord} (hr : (s.port p).ready = true)
    (hw : wholeFrame (s.port p).checkNow ws = true) (hp : s.pending = []) :
    Sys2Proof.core.run ws.length { s with pending := ws.map (Instr.wordClocked p) } = .next (s.clockWords p ws) := by
  obtain ⟨c, l, rest, hws, hc, hl⟩ := (wholeFrame_iff _ _).mp hw
  obtain ⟨u, w, hu⟩ : ∃ u w, ws = u ++ [w] := ⟨_, _, (List.dropLast_concat_getLast (hws ▸ nofun : ws ≠ [])).symm⟩
  have h0 : u ≠ [] := by rintro rfl; rw [hu] at hws; cases hws
  have hwalk := Walks.prefix hr hws hc hl p u h0 (hu ▸ List.prefix_append u [w]) (by rw [hu]; simp)
  have hrun := hwalk.run s rfl [Instr.wordClocked p w] 1
  rw [hu, List.length_append, List.length_singleton, Nat.add_comm, List.map_append, List.map_cons, List.map_nil, hrun,
    State.clockWords_append, hwalk.clockWords s rfl]
  have e : ({ s with pending := [Instr.wordClocked p w] } : State).setPort p ((s.port p).holding u) =
      { s.setPort p ((s.port p).holding u) with pending := [Instr.wordClocked p w] } := by cases p <;> rfl
  have e' : ({ s.setPort p ((s.port p).holding u) with pending := [] } : State) = s.setPort p ((s.port p).holding u) := by
    rw [← hp]; cases p <;> rfl
  rw [e, run_wordClocked, e']
  rfl

/-! ## A whole frame verified (R196) -/

/-- Whether a whole frame has a parity error or a wrong check word. -/
abbrev lineBad (check : Bool) (ws : List LinkWord) : Prop :=
  (∃ w ∈ ws, w.parityGood = false) ∨
    (check = true ∧ (ws.getLast?.map LinkWord.data) ≠ some (crc8 (ws.dropLast.map LinkWord.data)))

theorem Port.framed_bad (r : Port) {ws : List LinkWord} (h : ws ≠ []) :
    ((r.framed ws).parityBad || (r.framed ws).checkBad) = true ↔ lineBad r.checkNow ws := by
  obtain ⟨u, w, rfl⟩ : ∃ u w, ws = u ++ [w] := ⟨_, _, (List.dropLast_concat_getLast h).symm⟩
  unfold lineBad Port.framed
  cases hc : r.checkNow with
  | false => simp [Port.checkBad, Port.holding, hc]
  | true =>
    simp only [if_true, Port.checkBad, Port.checked, Port.holding, hc, Bool.true_and, List.getLast?_concat,
      List.dropLast_concat, Option.getD_some]
    simp

section
variable (r : Port) {ws : List LinkWord} {c l : LinkWord} {rest : List LinkWord} (hws : ws = c :: l :: rest)
  (hl : rest.length = l.data.toNat + r.checkNow.toNat)
include hws hl

/-- The frame kept of a whole frame is all of it, but for payload words beyond the 64th. -/
theorem Port.framed_frame : ∃ kept, (r.framed ws).frame = c :: l :: kept ∧
    (l.data.toNat ≤ 64 → kept.take l.data.toNat = rest.take l.data.toNat) := by
  subst hws
  unfold Port.framed
  cases hc : r.checkNow with
  | false => exact ⟨rest.take 64, rfl, fun h => by rw [List.take_take]; congr 1; omega⟩
  | true =>
    have hne : rest ≠ [] := by rintro rfl; simp [hc] at hl
    obtain ⟨u, w, rfl⟩ : ∃ u w, rest = u ++ [w] := ⟨_, _, (List.dropLast_concat_getLast hne).symm⟩
    have hu : u.length = l.data.toNat := by simpa [hc] using hl
    have e : (c :: l :: (u ++ [w])).dropLast = c :: l :: u := by
      rw [← List.cons_append, ← List.cons_append, List.dropLast_concat]
    refine ⟨u.take 64 ++ [w], ?_, fun h => ?_⟩
    · simp only [if_true, Port.checked, e]
      rw [← List.cons_append, ← List.cons_append, List.getLast?_concat]
      rfl
    · rw [← hu, List.take_of_length_le (by omega : u.length ≤ 64), List.take_left]

/-- What the port does with a whole frame (R196). -/
theorem State.frameDone_framed (t : State) (p : Role) :
    t.frameDone p (r.framed ws) =
      if r.poisoned then t.giveReply p (Reply.bare .linkError)
      else if lineBad r.checkNow ws then t.lineError p .linkError
      else if 64 < l.data.toNat then t.lineError p .length
      else t.passFrame p c.data ((rest.take l.data.toNat).map LinkWord.data) := by
  obtain ⟨kept, hf, hk⟩ := r.framed_frame hws hl
  have hp : (r.framed ws).poisoned = r.poisoned := by unfold Port.framed; split <;> rfl
  unfold State.frameDone
  rw [hp, hf]
  by_cases hpo : r.poisoned = true
  · rw [if_pos hpo, if_pos hpo]
  rw [if_neg hpo, if_neg hpo]
  by_cases hb : lineBad r.checkNow ws
  · rw [if_pos hb, if_pos ((r.framed_bad (hws ▸ nofun)).mpr hb)]
  rw [if_neg hb, if_neg fun h => hb ((r.framed_bad (hws ▸ nofun)).mp h)]
  by_cases h64 : 64 < l.data.toNat
  · rw [if_pos h64]; exact if_pos h64
  · rw [if_neg h64, ← hk (by omega)]; exact if_neg h64

end

/-- Settles O7: a whole frame is received, and the verification's tests are those of R196 in their order. -/
theorem lineErrorsPoisonTheWindow : Obligations.LineErrorsPoisonTheWindow := by
  intro p s ws hr hw
  obtain ⟨c, l, rest, hws, hc, hl⟩ := (wholeFrame_iff _ _).mp hw
  change Host.Outcome.next (s.clockWords p ws) = _
  congr 1
  by_cases hpo : (s.port p).poisoned = true
  · rw [s.clockWords_frame hr hw, State.frameDone_framed _ hws hl, if_pos hpo, if_pos hpo]; rfl
  have h64 : (ws.map LinkWord.data)[1]?.any (fun l => decide (64 < l.toNat)) = true ↔ 64 < l.data.toNat := by simp [hws]
  rw [if_neg hpo]
  by_cases hb : lineBad (s.port p).checkNow ws
  · rw [s.clockWords_frame hr hw, State.frameDone_framed _ hws hl, if_neg hpo, if_pos hb]
    exact (if_pos hb).symm
  refine Eq.trans ?_ (if_neg hb).symm
  by_cases hlong : 64 < l.data.toNat
  · rw [if_pos (h64.mpr hlong), s.clockWords_frame hr hw, State.frameDone_framed _ hws hl, if_neg hpo, if_neg hb, if_pos hlong]
    rfl
  · rw [if_neg (mt h64.mp hlong)]

/-! ## A sound frame (R194, R197) -/

/-- The parity bit lies below the data bits. -/
theorem LinkWord.getLsbD_append (b : Byte) (x : BitVec 1) (i : Nat) :
    (b ++ x : LinkWord).getLsbD i = if i < 1 then x.getLsbD i else b.getLsbD (i - 1) := BitVec.getLsbD_append

theorem LinkWord.data_append (b : Byte) (x : BitVec 1) : LinkWord.data (b ++ x) = b := by
  unfold LinkWord.data
  ext i hi
  rw [BitVec.getElem_extractLsb', LinkWord.getLsbD_append, if_neg (by omega), Nat.add_sub_cancel_left,
    BitVec.getLsbD_eq_getElem hi]

@[simp] theorem LinkWord.data_sound (b : Byte) : (LinkWord.sound b).data = b := by
  unfold LinkWord.sound
  dsimp only
  split <;> exact LinkWord.data_append b _

/-- The parity bit turns the count of ones. -/
theorem LinkWord.parityGood_turn (b : Byte) : LinkWord.parityGood (b ++ 1#1) = !LinkWord.parityGood (b ++ 0#1) := by
  have h : onesBelow (b ++ 1#1) 9 = onesBelow (b ++ 0#1) 9 + 1 := by
    simp only [onesBelow, LinkWord.getLsbD_append]
    simp
    omega
  unfold LinkWord.parityGood
  rw [h]
  rcases Nat.mod_two_eq_zero_or_one (onesBelow (b ++ 0#1) 9) with e | e <;> simp [Nat.add_mod, e]

@[simp] theorem LinkWord.parityGood_sound (b : Byte) : (LinkWord.sound b).parityGood = true := by
  unfold LinkWord.sound
  dsimp only
  split
  · assumption
  · next h => rw [LinkWord.parityGood_turn, Bool.eq_false_iff.mpr h]; rfl

theorem map_data_sound (l : Bytes) : (l.map LinkWord.sound).map LinkWord.data = l := by
  rw [List.map_map, funext LinkWord.data_sound (f := LinkWord.data ∘ LinkWord.sound) (g := id), List.map_id]

theorem frameWords_eq (check : Bool) (code : Byte) (payload : Bytes) : frameWords check code payload =
    LinkWord.sound code :: LinkWord.sound (BitVec.ofNat 8 payload.length) ::
      (payload ++ if check then [crc8 (frameBytes code payload)] else []).map LinkWord.sound := by
  unfold frameWords
  cases check <;> simp [frameBytes]

section
variable {code : Byte} {payload : Bytes} (hl : payload.length ≤ 64)
include hl

theorem toNat_payloadLength : (BitVec.ofNat 8 payload.length).toNat = payload.length := by
  rw [BitVec.toNat_ofNat]
  omega

theorem wholeFrame_frameWords (check : Bool) (hc : code ≠ 0xFF) : wholeFrame check (frameWords check code payload) = true := by
  rw [frameWords_eq]
  simp only [wholeFrame, LinkWord.data_sound, toNat_payloadLength hl, LinkWord.isIdle]
  cases check <;> simp <;> exact hc

omit hl in
theorem not_lineBad_frameWords (check : Bool) (code : Byte) (payload : Bytes) :
    ¬ lineBad check (frameWords check code payload) := by
  rintro (⟨w, hw, hbad⟩ | ⟨rfl, hbad⟩)
  · obtain ⟨b, -, rfl⟩ := List.mem_map.mp hw
    simp at hbad
  · refine hbad ?_
    unfold frameWords
    simp [Function.comp_def]

/-- A sound frame clocked on a ready port is tested for its code, role and length there (R197), but for a poisoned window. -/
theorem State.clockWords_sound {s : State} {p : Role} (hr : (s.port p).ready = true) (hc : code ≠ 0xFF) :
    s.clockWords p (frameWords (s.port p).checkNow code payload) =
      if (s.port p).poisoned then (s.frameTaken p).giveReply p (Reply.bare .linkError)
      else (s.frameTaken p).passFrame p code payload := by
  have hw := wholeFrame_frameWords hl (s.port p).checkNow hc
  have hlen := toNat_payloadLength hl
  have hrest : ((payload ++ if (s.port p).checkNow then [crc8 (frameBytes code payload)] else []).map
      LinkWord.sound).length = (LinkWord.sound (BitVec.ofNat 8 payload.length)).data.toNat + (s.port p).checkNow.toNat := by
    rw [LinkWord.data_sound, hlen]
    cases (s.port p).checkNow <;> simp
  rw [s.clockWords_frame hr hw, State.frameDone_framed _ (frameWords_eq _ _ _) hrest,
    if_neg (not_lineBad_frameWords _ _ _), LinkWord.data_sound, LinkWord.data_sound, hlen, ← List.map_take, List.take_left,
    map_data_sound, if_neg (Nat.not_lt.mpr hl)]

end

/-! ## Reading a frame (R194) -/

theorem join2_extract (v : BitVec 16) : join2 (v.extractLsb' 8 8) (v.extractLsb' 0 8) = v :=
  (BitVec.extractLsb'_append_extractLsb'_eq_extractLsb' (by rfl : 8 = 0 + 8)).trans BitVec.extractLsb'_eq_self

theorem join4_extract (v : BitVec 32) :
    join4 (v.extractLsb' 24 8) (v.extractLsb' 16 8) (v.extractLsb' 8 8) (v.extractLsb' 0 8) = v := by
  rw [join4, BitVec.extractLsb'_append_extractLsb'_eq_extractLsb' (by rfl : 24 = 16 + 8),
    BitVec.extractLsb'_append_extractLsb'_eq_extractLsb' (by rfl : 8 = 0 + 8)]
  exact (BitVec.extractLsb'_append_extractLsb'_eq_extractLsb' (by rfl : 16 = 0 + 16)).trans BitVec.extractLsb'_eq_self

@[simp] theorem read2_split2 (f : BitVec 16 → Instr) (v : BitVec 16) : read2 f (split2 v) = some (f v) :=
  congrArg (some ∘ f) (join2_extract v)

@[simp] theorem read4_split4 (f : BitVec 32 → Instr) (v : BitVec 32) : read4 f (split4 v) = some (f v) :=
  congrArg (some ∘ f) (join4_extract v)

@[simp] theorem read21_split2 (f : BitVec 16 → Byte → Instr) (v : BitVec 16) (b : Byte) :
    read21 f (split2 v ++ [b]) = some (f v b) := congrArg (fun v => some (f v b)) (join2_extract v)

@[simp] theorem read24_split (f : BitVec 16 → BitVec 32 → Instr) (v : BitVec 16) (w : BitVec 32) :
    read24 f (split2 v ++ split4 w) = some (f v w) :=
  congrArg₂ (fun v w => some (f v w)) (join2_extract v) (join4_extract w)

@[simp] theorem read241_split (f : BitVec 16 → BitVec 32 → Byte → Instr) (v : BitVec 16) (w : BitVec 32) (b : Byte) :
    read241 f (split2 v ++ split4 w ++ [b]) = some (f v w b) :=
  congrArg₂ (fun v w => some (f v w b)) (join2_extract v) (join4_extract w)

@[simp] theorem readDecl_declBytes (f : LotDecl → Instr) (d : LotDecl) : readDecl f (declBytes d) = some (f d) := by
  simp only [readDecl, declBytes, split2, split4, List.cons_append, List.nil_append, join2_extract, join4_extract]

theorem bytesLots_lotsBytes (ls : List (BitVec 16)) : bytesLots (lotsBytes ls) = some ls := by
  induction ls with
  | nil => rfl
  | cons l ls ih => simp [lotsBytes, split2, bytesLots, ih, join2_extract]

theorem bytesBands_bandsBytes (bs : List BandDecl) : bytesBands (bandsBytes bs) = some bs := by
  induction bs with
  | nil => rfl
  | cons b bs ih => simp [bandsBytes, split2, bytesBands, ih, join2_extract]

theorem length_lotsBytes (ls : List (BitVec 16)) : (lotsBytes ls).length = 2 * ls.length := by
  induction ls with
  | nil => rfl
  | cons l ls ih => simp [lotsBytes, split2, ih]; omega

theorem length_bandsBytes (bs : List BandDecl) : (bandsBytes bs).length = 3 * bs.length := by
  induction bs with
  | nil => rfl
  | cons b bs ih => simp [bandsBytes, split2, ih]; omega

@[simp] theorem readAnnounce_bytes (f : BitVec 16 → Byte → List (BitVec 16) → Instr) (t : BitVec 16) (k : Byte)
    (ls : List (BitVec 16)) : readAnnounce f (split2 t ++ [k] ++ lotsBytes ls) = some (f t k ls) := by
  simp only [readAnnounce, split2, List.cons_append, List.nil_append, bytesLots_lotsBytes, join2_extract, Option.map_some]

theorem readBands_bytes (f : List BandDecl → Instr) {bs : List BandDecl} (h : bs.length = 8) :
    readBands f (bandsBytes bs) = some (f bs) := by
  rw [readBands, length_bandsBytes, h, if_pos rfl, bytesBands_bandsBytes, Option.map_some]

/-- Reading a command's frame gives the command back. -/
theorem decode_frameOf {i : Instr} {p : Role} {code : Byte} {payload : Bytes} (hw : i.wellFormed = true)
    (hf : frameOf i = some (p, code, payload)) : decodeCommand p code payload = some i := by
  cases i <;> cases hf
  case stepTable bs => exact readBands_bytes _ (by simpa [Instr.wellFormed] using hw)
  case announceTrain t k ls => exact readAnnounce_bytes _ t k ls
  case openAccount b l f => exact read241_split _ b l f
  all_goals simp [decodeCommand, read0, read1, read11, read111, read1111]

/-- Every command's code is in the catalogue and is none of an idle word's. -/
theorem code_frameOf {i : Instr} {p : Role} {code : Byte} {payload : Bytes} (hf : frameOf i = some (p, code, payload)) :
    (rolesOf code).isSome ∧ code ≠ 0xFF := by
  cases i <;> cases hf <;> exact ⟨rfl, by decide⟩

theorem length_frameOf {i : Instr} {p : Role} {code : Byte} {payload : Bytes} (hw : i.wellFormed = true)
    (hf : frameOf i = some (p, code, payload)) : payload.length ≤ 64 := by
  cases i <;> cases hf
  case stepTable bs =>
    have h : bs.length = 8 := by simpa [Instr.wellFormed] using hw
    rw [length_bandsBytes, h]
    decide
  case announceTrain t k ls =>
    have h : ls.length ≤ 30 := by simpa [Instr.wellFormed] using hw
    simp [length_lotsBytes, split2]
    omega
  all_goals simp [split2, split4, declBytes]

/-- Settles O3: each payload is read back field by field. -/
theorem decodeReadsEveryFrame : Obligations.DecodeReadsEveryFrame := fun _ _ _ _ hw hf =>
  ⟨decode_frameOf hw hf, (code_frameOf hf).1, length_frameOf hw hf, (code_frameOf hf).2⟩

/-! ## Commands as words (R197) -/

/-- Settles O4: on a ready port the words of a frame end in the tests that the command meets, and elsewhere a command is its
words. -/
theorem commandIsItsFrameOfWords : Obligations.CommandIsItsFrameOfWords := by
  intro i s p code payload hw hf
  rw [exec_command i s _ hf]
  unfold State.commanded
  simp only [hf, hw, and_true]
  by_cases hr : (s.port p).ready = true
  · obtain ⟨hroles, hcode⟩ := code_frameOf hf
    obtain ⟨roles, hroles⟩ := Option.isSome_iff_exists.mp hroles
    rw [if_pos hr, State.clockWords_sound (length_frameOf hw hf) hr hcode, State.passFrame, decode_frameOf hw hf, hroles]
    rfl
  · rw [if_neg hr]

theorem State.clockWords_listening {s : State} {p : Role} {code : Byte} {payload : Bytes} (hl : s.listens p = true)
    (hlen : payload.length ≤ 64) (hc : code ≠ 0xFF) :
    s.clockWords p (frameWords (s.port p).checkNow code payload) = (s.frameTaken p).passFrame p code payload := by
  simp only [State.listens, Bool.and_eq_true, Bool.not_eq_true'] at hl
  rw [State.clockWords_sound hlen hl.1 hc, hl.2]
  simp

/-- Settles O8: a sound frame on a port that listens meets the three tests, on a command row and word by word. -/
theorem portTestsCodeRoleLength : Obligations.PortTestsCodeRoleLength := by
  refine ⟨fun p s code payload hl hw => ?_, fun i p code payload roles s hl hw hf hr hp => ?_,
    fun p code payload s hl hq hlen hc => ?_⟩
  · simp only [Instr.wellFormed, Bool.and_eq_true, decide_eq_true_eq, bne_iff_ne, Option.isNone_iff_eq_none] at hw
    obtain ⟨⟨hr, hlen⟩, hc⟩ := hw
    change Host.Outcome.next _ = _
    rw [State.clockWords_listening hl hlen hc, State.passFrame, hr]
    rfl
  · rw [exec_command i s _ hf, s.commanded_notPermitted i p code payload roles _ hf hr (by simpa using hp) hw hl]
  · have hready : (s.port p).ready = true := by
      simp only [State.listens, Bool.and_eq_true] at hl
      exact hl.1
    have hrun := run_frame hready (wholeFrame_frameWords hlen (s.port p).checkNow hc) hq
    rw [State.clockWords_listening hl hlen hc, State.passFrame] at hrun
    refine ⟨fun hr => ?_, fun roles hr hp => ?_, fun roles hr hp hd => ?_⟩
    · rw [hr] at hrun; exact hrun
    · rw [hr] at hrun
      simp only [List.contains_iff_mem, hp, if_false] at hrun
      exact hrun
    · rw [hr, hd] at hrun
      simp only [List.contains_iff_mem, hp, if_true] at hrun
      exact hrun

end Sys2Proof.Machine

/-!
The two resets of the whole part: the survey, and the gate that begins to close after it.
-/

namespace Sys2Proof.Machine

/-! ## An examination that finds nothing to move -/

theorem Rail.moveDue_occupied {r : Rail} {ls : LotStore} {a b : Sec} (h : r.moveDue ls a b = true) :
    r.secs[a].cond = .occupied := by
  simp only [Rail.moveDue, Bool.and_eq_true, decide_eq_true_eq] at h
  obtain ⟨⟨⟨⟨h, -⟩, -⟩, -⟩, -⟩ := h
  exact h

theorem Rail.nextMove_none {r : Rail} (ls : LotStore) (h : ∀ k : Sec, r.secs[k].cond ≠ .occupied) : r.nextMove ls = none :=
  List.find?_eq_none.mpr fun _ _ hm => h _ (Rail.moveDue_occupied hm)

theorem Rail.ejectDue_occupied {r : Rail} (h : r.ejectDue = true) : r.secs[(0 : Sec)].cond = .occupied := by
  simp only [Rail.ejectDue, Bool.and_eq_true, decide_eq_true_eq] at h
  obtain ⟨⟨-, h⟩, -⟩ := h
  exact h

/-- With nothing eligible the arbiter grants nothing. -/
theorem RailWork.arbitrate_idle {ls : LotStore} {w : RailWork} (hn : w.rail.nextMove ls = none) (he : w.rail.ejectDue = false)
    (n : Nat) : RailWork.arbitrate ls n w = w := by
  cases n with
  | zero => rfl
  | succ n =>
    unfold RailWork.arbitrate
    cases w.rail.freeSlot <;> simp [hn, he]

theorem RailWork.holdTest_none {w : RailWork} (h : w.rail.hold = .none) : w.holdTest = w := by
  simp [RailWork.holdTest, h]

/-! ## The survey (R53) -/

@[simp] theorem Rail.surveyed_sec (i : Inputs) (k : Sec) :
    (Rail.surveyed i).secs[k] = { SecRec.reset with cond := if i.presence[k] then .blocked else .clear } := by
  simp [Rail.surveyed]

theorem Rail.surveyed_unoccupied (i : Inputs) (k : Sec) : (Rail.surveyed i).secs[k].cond ≠ .occupied := by
  rw [Rail.surveyed_sec]
  split <;> nofun

theorem Rail.surveyed_findSlot (i : Inputs) (p : Move → Bool) : (Rail.surveyed i).findSlot p = none := by
  refine List.find?_eq_none.mpr fun j _ => ?_
  rw [show (Rail.surveyed i).slots = Rail.reset.slots from rfl, Rail.reset_slot]
  nofun

theorem Rail.surveyed_wanted (i : Inputs) (ls : LotStore) : (Rail.surveyed i).wanted ls = .closed :=
  if_neg fun h => Rail.surveyed_unoccupied i 5 h.1

theorem Rail.surveyed_gateDue (i : Inputs) (ls : LotStore) :
    (Rail.surveyed i).gateDue ls = (!i.gateClosed && !i.presence[(5 : Sec)]) := by
  unfold Rail.gateDue Rail.slotAt Rail.gateMoving
  rw [Rail.surveyed_wanted, Rail.surveyed_findSlot, Rail.surveyed_sec]
  cases hc : i.gateClosed <;> cases hp : i.presence[(5 : Sec)] <;> simp [Rail.surveyed, hc]

/-- A channel after a reset stays as it is under a stop. -/
theorem Drive.halt_fresh {d : Drive} {k : Chan} {f : Option FaultKind} (h : d.chans[k] = { Channel.reset with latch := f }) :
    d.halt k = d := by
  have hh : d.chans[k].halt = d.chans[k] := by
    rw [h]
    cases f with
    | none => rfl
    | some f => rfl
  unfold Drive.halt
  rw [hh]
  have hv : d.chans.set k d.chans[k] = d.chans := by
    ext i hi
    rw [Vector.getElem_set]
    split <;> simp_all
  rw [hv]

theorem Drive.reset_relatched (i : Inputs) (k : Chan) :
    (Drive.reset.relatchAll i).chans[k] = { Channel.reset with latch := i.fault k } := by
  rw [Drive.relatchAll_chan]
  have h : Drive.reset.chans[k] = Channel.reset := by simp [Drive.reset]
  rw [h]
  cases i.fault k <;> rfl

/-- The examination that ends a reset begins a closing, or does nothing (R36, R53). -/
theorem RailWork.settle_surveyed (i : Inputs) (ls : LotStore) :
    RailWork.settle ls { rail := Rail.surveyed i, drive := Drive.reset.relatchAll i, raised := 0 } =
      { rail := if !i.gateClosed && !i.presence[(5 : Sec)] then
          ({ Rail.surveyed i with gate := .closing } : Rail).startGateTimers else Rail.surveyed i,
        drive := Drive.reset.relatchAll i, raised := 0 } := by
  unfold RailWork.settle
  rw [RailWork.holdTest_none rfl]
  dsimp only
  rw [if_pos (show (Rail.surveyed i).hold = .none from rfl), Rail.surveyed_gateDue]
  split
  · rw [RailWork.beginGate, if_neg (by rw [Rail.surveyed_wanted]; nofun), RailWork.arbitrate_idle]
    · simp only [RailWork.haltAll, RailWork.onRail, Drive.halt_fresh (Drive.reset_relatched i 7)]
    · exact Rail.nextMove_none ls (Rail.surveyed_unoccupied i)
    · rfl
  · exact RailWork.arbitrate_idle (Rail.nextMove_none ls (Rail.surveyed_unoccupied i)) rfl 10

/-! ## The part after a reset -/


theorem State.resetWith_rail (s : State) (c : ResetCause) (a : Accounts) (l : Log) : (s.resetWith c a l).rail =
    if !s.inputs.gateClosed && !s.inputs.presence[(5 : Sec)] then
      ({ Rail.surveyed s.inputs with gate := .closing } : Rail).startGateTimers else Rail.surveyed s.inputs := by
  unfold State.resetWith State.settle
  rw [State.onRail_rail]
  exact congrArg RailWork.rail (RailWork.settle_surveyed s.inputs _)

theorem State.resetWith_drive (s : State) (c : ResetCause) (a : Accounts) (l : Log) :
    (s.resetWith c a l).drive = Drive.reset.relatchAll s.inputs := by
  unfold State.resetWith State.settle
  rw [State.onRail_drive]
  exact congrArg RailWork.drive (RailWork.settle_surveyed s.inputs _)

theorem State.resetWith_port (s : State) (c : ResetCause) (a : Accounts) (l : Log) (p : Role) :
    (s.resetWith c a l).port p = { Port.reset with selectLow := (s.port p).selectLow } := by
  have hr := congrArg RailWork.raised (RailWork.settle_surveyed s.inputs { lots := [], trains := [], queue := [] })
  cases p with
  | desk => rfl
  | accounts => rfl
  | yard =>
    change Port.raiseBits (Port.afterReset s.ports.yard) _ = Port.afterReset s.ports.yard
    exact (congrArg (Port.raiseBits (Port.afterReset s.ports.yard)) hr).trans (Port.raiseBits_zero _)

theorem Rail.surveyed_gateTimer (i : Inputs) : (Rail.surveyed i).startGateTimers.gateTimer = some 4000 := by
  simp [Rail.startGateTimers, Rail.surveyed, Rail.reset, Config.perMs]

theorem Rail.surveyed_confirmTimer (i : Inputs) : (Rail.surveyed i).startGateTimers.confirmTimer = some 24000 := by
  have h : 400 * Config.perMs + Config.confirmExtra = 24000 := by decide
  exact congrArg some h

theorem State.resetWith_fresh (s : State) (c : ResetCause) (a : Accounts) (l : Log) (ha : a.lastRefusal = none) :
    s.freshAfter (s.resetWith c a l) := by
  obtain ⟨hlots, hclock, hscan, hacc, -, hface, hp, hi⟩ := s.resetWith_eq c a l
  refine ⟨by rw [hlots], by rw [hlots], by rw [hlots], hclock, hscan, hface, by rw [hacc, ha], hi, hp,
    s.resetWith_port c a l, ?_⟩
  rw [State.resetWith_drive, State.resetWith_rail]
  have hdrive : (∀ k : Chan, (Drive.reset.relatchAll s.inputs).chans[k] = { Channel.reset with latch := s.inputs.fault k }) ∧
      (∀ g : Gen, (Drive.reset.relatchAll s.inputs).gens[g] = Generator.reset) ∧
      (Drive.reset.relatchAll s.inputs).reportOvercurrent = false ∧ (Drive.reset.relatchAll s.inputs).reportOpenLoad = false :=
    ⟨Drive.reset_relatched s.inputs, fun g => by simp [Drive.relatchAll, Drive.reset], rfl, rfl⟩
  have hsec := Rail.surveyed_sec s.inputs
  have hgate : (Rail.surveyed s.inputs).gate = if s.inputs.gateClosed then .closed else .unknown := rfl
  by_cases hc : (!s.inputs.gateClosed && !s.inputs.presence[(5 : Sec)]) = true
  · simp only [Bool.and_eq_true, Bool.not_eq_true'] at hc
    obtain ⟨h1, h2⟩ := hc
    rw [h1, h2]
    exact ⟨hsec, rfl, Rail.reset_slot, rfl, Rail.reset_stall, rfl, rfl, rfl, rfl, rfl, rfl, rfl,
      Rail.surveyed_gateTimer s.inputs, Rail.surveyed_confirmTimer s.inputs, hdrive⟩
  · rw [if_neg hc]
    have hg : (Rail.surveyed s.inputs).gate = if s.inputs.gateClosed then .closed else
        if s.inputs.presence[(5 : Sec)] then .unknown else .closing := by
      rw [hgate]
      cases h1 : s.inputs.gateClosed <;> cases h2 : s.inputs.presence[(5 : Sec)] <;> simp [h1, h2] at hc ⊢
    have hn : (Rail.surveyed s.inputs).gate ≠ .closing := by rw [hgate]; split <;> nofun
    exact ⟨hsec, rfl, Rail.reset_slot, rfl, Rail.reset_stall, rfl, rfl, rfl, rfl, rfl, rfl, hg, (if_neg hn).symm,
      (if_neg hn).symm, hdrive⟩

/-- Settles O10: what the examination after the survey does is said by `RailWork.settle_surveyed`. -/
theorem resetsEmptyThePart : Obligations.ResetsEmptyThePart := fun s => by
  obtain ⟨-, -, -, hacc, hlog, -⟩ := s.resetWith_eq .pin { s.accounts.clearSeats with lastRefusal := none } s.log.carryAll
  refine ⟨⟨_, rfl, s.resetWith_fresh .power _ _ rfl, rfl, rfl, rfl, rfl⟩,
    ⟨_, rfl, s.resetWith_fresh .pin _ _ rfl, rfl, fun n => ?_, ?_, ?_, ?_⟩⟩
  · rw [hacc]; exact Tbl.get_mapAll s.accounts.buyers (fun _ r => { r with seat := none }) n
  · rw [hacc]; exact Tbl.length_mapAll s.accounts.buyers fun _ r => { r with seat := none }
  · rw [hlog]; rfl
  · rw [hlog]; rfl

end Sys2Proof.Machine

/-!
The reads: each changes nothing but its port's framing, and answers the fields of its record in the order of its rule.
-/

namespace Sys2Proof.Machine

/-! ## A command that changes no record -/

/-- A command whose owner changes nothing answers alone. -/
theorem exec_read (i : Instr) {s : State} {p : Role} {code : Byte} {payload : Bytes} {roles : List Role} {x : Reply}
    (hf : frameOf i = some (p, code, payload)) (hr : rolesOf code = some roles) (hp : roles.contains p = true)
    (hw : i.wellFormed = true) (hl : s.listens p = true) (ht : takeCommand i (s.frameTaken p) = (s.frameTaken p, x)) :
    exec i s = .next (s.replied p x) := by
  rw [exec_taken i s p code payload roles hf hr hp hw hl, ht]
  rfl

theorem exec_readAll (i : Instr) {s : State} {p : Role} {code : Byte} {payload : Bytes} {x : Reply}
    (hf : frameOf i = some (p, code, payload)) (hr : rolesOf code = some allRoles) (hw : i.wellFormed = true)
    (hl : s.listens p = true) (ht : takeCommand i (s.frameTaken p) = (s.frameTaken p, x)) :
    exec i s = .next (s.replied p x) := exec_read i hf hr (allRoles_contains p) hw hl ht

/-! ## The encodings -/

theorem yesNo_eq (b : Bool) : yesNo b = [if b then 1 else 0] := by cases b <;> rfl

theorem counted_map {α β : Type} (f : β → Bytes) (g : α → β) (l : List α) : counted f (l.map g) = counted (fun x => f (g x)) l := by
  simp [counted, List.flatMap_map]

theorem Rail.heldDests_codes (r : Rail) (ls : LotStore) : (r.heldDests ls).map Dest.code =
    (forwardMoves.reverse.filter fun m => decide (r.hold ≠ .none) && r.moveDue ls m.1 m.2).map (fun m => m.2.val) ++
      if (decide (r.hold ≠ .none) && r.ejectDue) then [7] else [] := by
  unfold Rail.heldDests
  by_cases h : r.hold = .none
  · simp [h]
  · have hd : decide (r.hold ≠ .none) = true := decide_eq_true h
    simp only [h, hd, Rail.heldMoves, if_false, Bool.true_and, List.filter_reverse, List.map_append, List.map_map,
      List.map_reverse]
    cases r.ejectDue <;> simp [Function.comp_def, Dest.code]

theorem State.secBytes_eq (s : State) : s.secBytes = fun k : Sec =>
    num1 s.rail.secs[k].cond.code ++ optional 2 num2 s.rail.secs[k].occupant ++
      (if k = 0 then optional 2 num2 s.rail.unknownTag else []) ++ [if s.inputs.presence[k] then 1 else 0] ++
      num1 s.rail.secs[k].moveLimit := by
  funext k
  rw [State.secBytes, yesNo_eq]

theorem State.chanBytes_eq (s : State) : s.chanBytes = fun k : Chan =>
    num1 s.drive.chans[k].output.code ++ num1 s.drive.chans[k].rest.code ++
      optional 1 (fun d : Dir => num1 d.code) s.drive.chans[k].turn ++ num1 s.drive.chans[k].mode.code ++
      num1 s.drive.chans[k].gen.val ++ num1 s.drive.chans[k].stop.code ++ num1 (latchCode s.drive.chans[k].latch) ++
      [if s.inputs.overcurrent[k] then 1 else 0] ++ [if s.inputs.openLoad[k] then 1 else 0] := by
  funext k
  rw [State.chanBytes, yesNo_eq, yesNo_eq]

theorem Generator.bytes_eq : Generator.bytes = fun g =>
    [if g.enabled then 1 else 0] ++ num1 g.period.code ++ num1 g.duty := by
  funext g
  rw [Generator.bytes, yesNo_eq]

theorem BeaconRec.bytes_eq : BeaconRec.bytes = fun b =>
    [b.number, b.segment] ++ num4 b.runTime ++ [if b.running then 1 else 0] := by
  funext b
  rw [BeaconRec.bytes, yesNo_eq]

theorem Rail.heldDests_bytes (r : Rail) (ls : LotStore) : counted (fun d : Dest => num1 d.code) (r.heldDests ls) =
    counted num1 ((r.heldDests ls).map Dest.code) := (counted_map _ _ _).symm

section
variable {s : State} {p : Role} (hl : s.listens p = true)
include hl

theorem exec_readLot (n : BitVec 16) : exec (.readLot p n) s = match s.lots.lots.get n.toNat with
    | some l => .next (s.replied p (Reply.done (l.bytes n.toNat)))
    | none => .next (s.rejected p .notFound) := by
  cases h : s.lots.lots.get n.toNat with
  | some l => exact exec_readAll _ rfl rfl rfl hl (by simp [takeCommand, takeReadLot, h])
  | none => exact exec_readAll _ rfl rfl rfl hl (by simp [takeCommand, takeReadLot, h]; rfl)

theorem exec_readBuyer (n : BitVec 16) : exec (.readBuyer p n) s =
    if n = 0 then .next (s.replied p (Reply.done (num2 s.accounts.buyers.length ++ num2 (512 - s.accounts.buyers.length) ++
      optional 10 (Refused.bytes p) s.accounts.lastRefusal)))
    else match s.accounts.buyers.get n.toNat with
      | some b => .next (s.replied p (Reply.done (b.bytes p n.toNat)))
      | none => .next (s.rejected p .notFound) := by
  by_cases h0 : n = 0
  · subst h0
    exact exec_readAll _ rfl rfl rfl hl rfl
  · have hn : n.toNat ≠ 0 := fun e => h0 (BitVec.eq_of_toNat_eq e)
    rw [if_neg h0]
    cases h : s.accounts.buyers.get n.toNat with
    | some b => exact exec_readAll _ rfl rfl rfl hl (by simp [takeCommand, takeReadBuyer, hn, h])
    | none => exact exec_readAll _ rfl rfl rfl hl (by simp [takeCommand, takeReadBuyer, hn, h]; rfl)

theorem exec_readLog (hp : p ≠ .yard) (i n : Byte) : exec (.readLog p i n) s =
    if n = 1 ∨ n = 2 then .next (s.replied p (Reply.done (num1 s.log.records.length ++ split4 s.log.nextSeq ++
      counted (Purchase.bytes p) ((s.log.records.drop i.toNat).take n.toNat))))
    else .next (s.rejected p .range) := by
  have hr : [Role.desk, .accounts].contains p = true := by revert hp; cases p <;> decide
  have h12 : (n.toNat = 1 ∨ n.toNat = 2) ↔ (n = 1 ∨ n = 2) :=
    or_congr ⟨fun e => BitVec.eq_of_toNat_eq e, fun e => by rw [e]; rfl⟩
      ⟨fun e => BitVec.eq_of_toNat_eq e, fun e => by rw [e]; rfl⟩
  by_cases h : n = 1 ∨ n = 2
  · rw [if_pos h]
    exact exec_read _ rfl rfl hr rfl hl (if_pos (h12.mpr h))
  · rw [if_neg h]
    exact exec_read _ rfl rfl hr rfl hl (if_neg (mt h12.mp h))

theorem exec_readRail_bytes : exec (.readRail p) s = .next (s.replied p (takeReadRail s).2) :=
  exec_readAll _ rfl rfl rfl hl rfl

end

theorem index_lt {n : Nat} (x : Fin n) : index n x.val = some x := dif_pos x.isLt

/-- Settles O11: what each read answers, its encodings written out. -/
theorem readsChangeNoRecord : Obligations.ReadsChangeNoRecord := by
  intro p s hl
  refine ⟨fun n => exec_readLot hl n, fun n => ?_, ?_, ?_, ?_, fun hp => ?_, fun n => ?_, fun a x ha => ?_, ?_, fun a ha => ?_,
    fun hp i n => ?_⟩
  · by_cases h0 : n = 0
    · subst h0
      exact exec_readAll _ rfl rfl rfl hl rfl
    · have hn : n.toNat ≠ 0 := fun e => h0 (BitVec.eq_of_toNat_eq e)
      rw [if_neg h0]
      cases h : s.lots.trains.get n.toNat with
      | some tr => exact exec_readAll _ rfl rfl rfl hl (by simp [takeCommand, takeReadTrain, hn, h])
      | none => exact exec_readAll _ rfl rfl rfl hl (by simp [takeCommand, takeReadTrain, hn, h]; rfl)
  · refine (exec_readRail_bytes hl).trans (congrArg (fun x => Host.Outcome.next (s.replied p (Reply.done x))) ?_)
    simp only [fixed, yesNo_eq, State.secBytes_eq, Rail.heldDests_bytes, Rail.heldDests_codes]
    rfl
  · refine exec_readAll _ rfl rfl rfl hl (Prod.ext rfl (congrArg Reply.done ?_))
    simp only [State.frameTaken_clock, yesNo_eq]
    rfl
  · refine exec_readAll _ rfl rfl rfl hl (Prod.ext rfl (congrArg Reply.done ?_))
    simp only [State.frameTaken_clock, State.frameTaken_face]
    cases s.clock.state <;> cases s.face.image.price <;> rfl
  · have hr : [Role.desk, .yard].contains p = true := by revert hp; cases p <;> decide
    refine exec_read _ rfl rfl hr rfl hl (Prod.ext rfl (congrArg Reply.done ?_))
    simp only [fixed, yesNo_eq, State.chanBytes_eq, Generator.bytes_eq]
    rfl
  · exact exec_readBuyer hl n
  · refine exec_readAll _ rfl rfl rfl hl (x := Reply.done (s.scan.seats[x].bytes (x.val < s.scan.scanCount))) ?_ |>.trans ?_
    · simp only [takeCommand, takeReadSeat, ha, index_lt x]
      rfl
    · simp only [Seat.bytes, yesNo_eq]
      rfl
  · refine exec_readAll _ rfl rfl rfl hl (Prod.ext rfl (congrArg Reply.done ?_))
    simp only [State.frameTaken_scan, BeaconRec.bytes_eq]
    cases s.scan.pos <;> rfl
  · have h1 : index 256 a.toNat = none := dif_neg (by omega)
    refine exec_readAll _ rfl rfl rfl hl ?_
    simp only [takeCommand, takeReadSeat, h1, if_neg ha.ne']
    rfl
  · exact exec_readLog hl hp i n

/-! ## What the desk is told (R164, R165, R178) -/

theorem Buyer.bytes_desk (n : Nat) (b : Buyer) : b.bytes .desk n = b.unpriced.bytes .desk n := by
  simp [Buyer.bytes, Buyer.unpriced, money, signedMoney]

theorem Purchase.bytes_desk (x : Purchase) : x.bytes .desk = x.unpriced.bytes .desk := by
  simp [Purchase.bytes, Purchase.unpriced, money]

theorem Refused.bytes_desk (x : Refused) : x.bytes .desk = num2 x.buyer ++ num4 0 ++ signed4 0 := by
  simp [Refused.bytes, money, signedMoney]

section
variable {s s' : State} (h : s.sameButMoney s')
include h

theorem State.sameButMoney.port_eq (p : Role) : s'.port p = s.port p := by
  obtain ⟨-, -, -, e⟩ := h
  rw [e]
  cases p <;> rfl

theorem State.sameButMoney.length_buyers : s'.accounts.buyers.length = s.accounts.buyers.length := by
  obtain ⟨hb, -, -, -⟩ := h
  simpa using (congrArg List.length hb).symm

theorem State.sameButMoney.get_buyer (n : Nat) :
    (s'.accounts.buyers.get n).map Buyer.unpriced = (s.accounts.buyers.get n).map Buyer.unpriced := by
  obtain ⟨hb, -, -, -⟩ := h
  have hb : s.accounts.buyers.mapAll (fun _ => Buyer.unpriced) = s'.accounts.buyers.mapAll fun _ => Buyer.unpriced := hb
  rw [← Tbl.get_mapAll _ (fun _ => Buyer.unpriced), ← hb, Tbl.get_mapAll]

theorem State.sameButMoney.refusal_bytes :
    optional 10 (Refused.bytes .desk) s'.accounts.lastRefusal = optional 10 (Refused.bytes .desk) s.accounts.lastRefusal := by
  obtain ⟨-, hr, -, -⟩ := h
  cases e : s.accounts.lastRefusal with
  | none => cases e' : s'.accounts.lastRefusal with
    | none => rfl
    | some y => simp [e, e'] at hr
  | some x => cases e' : s'.accounts.lastRefusal with
    | none => simp [e, e'] at hr
    | some y =>
      have hxy : x.buyer = y.buyer := by simpa [e, e'] using hr
      simp only [optional, Refused.bytes_desk, hxy]

theorem State.sameButMoney.records_bytes (i n : Nat) :
    counted (Purchase.bytes .desk) ((s'.log.records.drop i).take n) =
      counted (Purchase.bytes .desk) ((s.log.records.drop i).take n) := by
  obtain ⟨-, -, hr, -⟩ := h
  have e (l : List Purchase) : counted (Purchase.bytes .desk) ((l.drop i).take n) =
      counted (Purchase.bytes .desk) (((l.map Purchase.unpriced).drop i).take n) := by
    rw [← List.map_drop, ← List.map_take, counted_map, ← funext Purchase.bytes_desk]
  rw [e, ← hr, ← e]

/-- Equal replies leave equal port records. -/
theorem State.sameButMoney.replied_port {x x' : Reply} (hx : x' = x) : (s.replied .desk x).port .desk = (s'.replied .desk x').port .desk := by
  rw [hx]
  simp only [State.replied, State.giveReply, State.frameTaken, State.port_onPort_self, h.port_eq]

end

/-- Settles O12: each amount is read as 0 on the desk port, whatever it is. -/
theorem deskReadsShowNoMoney : Obligations.DeskReadsShowNoMoney := by
  intro s s' h hl
  have hl' : s'.listens .desk = true := by
    unfold State.listens at *
    rw [h.port_eq]; exact hl
  refine ⟨fun n => ?_, fun i n => ?_⟩
  · rw [exec_readBuyer hl, exec_readBuyer hl']
    have hn := h.get_buyer n.toNat
    split
    · exact ⟨_, _, rfl, rfl, h.replied_port (by rw [h.length_buyers, h.refusal_bytes])⟩
    · cases e : s.accounts.buyers.get n.toNat with
      | none => cases e' : s'.accounts.buyers.get n.toNat with
        | none => exact ⟨_, _, rfl, rfl, h.replied_port rfl⟩
        | some b => simp [e, e'] at hn
      | some a => cases e' : s'.accounts.buyers.get n.toNat with
        | none => simp [e, e'] at hn
        | some b =>
          have hab : b.unpriced = a.unpriced := by simpa [e, e'] using hn
          exact ⟨_, _, rfl, rfl, h.replied_port (by rw [Buyer.bytes_desk, hab, ← Buyer.bytes_desk])⟩
  · rw [exec_readLog hl nofun, exec_readLog hl' nofun]
    have hlog : s'.log.nextSeq = s.log.nextSeq := by obtain ⟨-, -, -, e⟩ := h; rw [e]
    have hlen : s'.log.records.length = s.log.records.length := by
      obtain ⟨-, -, hr, -⟩ := h
      simpa using (congrArg List.length hr).symm
    split
    · exact ⟨_, _, rfl, rfl, h.replied_port (by rw [h.records_bytes, hlog, hlen])⟩
    · exact ⟨_, _, rfl, rfl, h.replied_port rfl⟩

end Sys2Proof.Machine

/-!
The move arbiter: which slot and which move it takes, what one grant leaves, and what it does not touch.
-/

namespace Sys2Proof.Machine

/-! ## Rows of a fixed table -/

theorem get_set {α : Type} {n : Nat} (v : Vector α n) (i j : Fin n) (x : α) : (v.set i x)[j] = if j = i then x else v[j] := by
  simp only [Fin.getElem_fin, Vector.getElem_set, Fin.ext_iff, eq_comm]

@[simp] theorem get_set_self {α : Type} {n : Nat} (v : Vector α n) (i : Fin n) (x : α) : (v.set i x)[i] = x := by
  rw [get_set, if_pos rfl]

theorem get_set_ne {α : Type} {n : Nat} (v : Vector α n) {i j : Fin n} (x : α) (h : j ≠ i) : (v.set i x)[j] = v[j] := by
  rw [get_set, if_neg h]

theorem vector_ext {α : Type} {n : Nat} {v w : Vector α n} (h : ∀ i : Fin n, v[i] = w[i]) : v = w :=
  Vector.ext fun i hi => h ⟨i, hi⟩

/-! ## Slots -/

theorem Rail.findSlot_some {r : Rail} {p : Move → Bool} {i : Fin 3} (h : r.findSlot p = some i) :
    ∃ m, r.slots[i] = some m ∧ p m = true := by
  have h := List.find?_some h
  cases e : r.slots[i] with
  | none => simp [e] at h
  | some m => exact ⟨m, rfl, by simpa [e] using h⟩

theorem mem_allSlots (i : Fin 3) : i ∈ allSlots := by revert i; decide

theorem Rail.findSlot_none {r : Rail} {p : Move → Bool} :
    r.findSlot p = none ↔ ∀ (i : Fin 3) (m : Move), r.slots[i] = some m → p m = false := by
  refine List.find?_eq_none.trans ⟨fun h i m hm => ?_, fun h i _ => ?_⟩
  · have := h i (mem_allSlots i)
    rw [hm] at this
    exact Bool.not_eq_true _ ▸ this
  · cases e : r.slots[i] with
    | none => nofun
    | some m => simp [h i m e]

theorem Rail.findSlot_isSome {r : Rail} {p : Move → Bool} :
    (r.findSlot p).isSome = true ↔ ∃ (i : Fin 3) (m : Move), r.slots[i] = some m ∧ p m = true := by
  constructor
  · intro h
    obtain ⟨i, hi⟩ := Option.isSome_iff_exists.mp h
    obtain ⟨m, hm, hp⟩ := Rail.findSlot_some hi
    exact ⟨i, m, hm, hp⟩
  · rintro ⟨i, m, hm, hp⟩
    by_contra hn
    have := Rail.findSlot_none.mp (Option.not_isSome_iff_eq_none.mp hn) i m hm
    simp [hp] at this

theorem Rail.freeSlot_some {r : Rail} {i : Fin 3} (h : r.freeSlot = some i) :
    r.slots[i] = none ∧ ∀ j : Fin 3, j < i → r.slots[j] ≠ none := by
  unfold Rail.freeSlot at h
  refine ⟨by simpa using List.find?_some h, fun j hj hn => ?_⟩
  simp only [allSlots, List.find?] at h
  cases h0 : r.slots[(0 : Fin 3)] with
  | none =>
    simp only [h0, Option.isNone_none] at h
    cases h
    exact absurd hj (Fin.not_lt_zero j)
  | some a =>
    cases h1 : r.slots[(1 : Fin 3)] with
    | none =>
      simp only [h0, h1, Option.isNone_none, Option.isNone_some] at h
      cases h
      have : j = 0 := by omega
      subst this; rw [h0] at hn; cases hn
    | some b =>
      have hj2 : j = 0 ∨ j = 1 := by omega
      rcases hj2 with rfl | rfl
      · rw [h0] at hn; cases hn
      · rw [h1] at hn; cases hn

theorem Rail.freeSlot_none {r : Rail} : r.freeSlot = none ↔ ∀ j : Fin 3, r.slots[j] ≠ none := by
  refine List.find?_eq_none.trans ⟨fun h j => ?_, fun h j _ => ?_⟩
  · simpa using h j (mem_allSlots j)
  · simpa using h j

/-! ## The next move (R31) -/

theorem mem_forwardMoves {a b : Sec} : (a, b) ∈ forwardMoves ↔ b.val = a.val + 1 := by revert a b; decide

theorem Rail.nextMove_some {r : Rail} {ls : LotStore} {a b : Sec} (h : r.nextMove ls = some (a, b)) :
    r.moveDue ls a b = true ∧ b.val = a.val + 1 ∧
      ∀ c d : Sec, b < d → d.val = c.val + 1 → r.moveDue ls c d = false := by
  obtain ⟨hdue, as, bs, hl, hbefore⟩ := List.find?_eq_some_iff_append.mp h
  have hb : b.val = a.val + 1 := mem_forwardMoves.mp (List.mem_of_find?_eq_some h)
  refine ⟨hdue, hb, fun c d hd hdc => ?_⟩
  have hmem : (c, d) ∈ as ++ (a, b) :: bs := hl ▸ mem_forwardMoves.mpr hdc
  have hsorted : (as ++ (a, b) :: bs).Pairwise fun x y => y.2 < x.2 := hl ▸ by decide
  rcases List.mem_append.mp hmem with hm | hm
  · simpa using hbefore (c, d) hm
  · rcases List.mem_cons.mp hm with e | hm
    · cases e; exact absurd hd (lt_irrefl _)
    · have := List.rel_of_pairwise_cons (List.pairwise_append.mp hsorted).2.1 hm
      exact absurd hd (lt_asymm this)

theorem Rail.nextMove_eq_none {r : Rail} {ls : LotStore} :
    r.nextMove ls = none ↔ ∀ a b : Sec, b.val = a.val + 1 → r.moveDue ls a b = false := by
  refine List.find?_eq_none.trans ⟨fun h a b hb => ?_, fun h m hm => ?_⟩
  · simpa using h (a, b) (mem_forwardMoves.mpr hb)
  · simp [h m.1 m.2 (mem_forwardMoves.mp hm)]

/-- What makes a forward move eligible (R30). -/
theorem Rail.moveDue_iff {r : Rail} {ls : LotStore} {a b : Sec} : r.moveDue ls a b = true ↔
    r.secs[a].cond = .occupied ∧ (∀ (i : Fin 3) (m : Move), r.slots[i] = some m → m.source ≠ a) ∧
    (if a = 5 then r.holdsTrain ls a .done = true ∧ r.gate = .opened else r.holdsTrain ls a .onRail = true) ∧
    r.secs[b].cond = .clear ∧ (b = 5 → r.gate = .closed) := by
  unfold Rail.moveDue
  simp only [Bool.and_eq_true, decide_eq_true_eq, Option.isNone_iff_eq_none, Rail.findSlot_none, decide_eq_false_iff_not,
    Bool.or_eq_true, ← imp_iff_not_or, and_assoc, ne_eq]
  split <;> simp

theorem Rail.ejectDue_iff {r : Rail} : r.ejectDue = true ↔ r.ejectPending = true ∧ r.secs[(0 : Sec)].cond = .occupied ∧
    ∀ (i : Fin 3) (m : Move), r.slots[i] = some m → m.source ≠ 0 := by
  unfold Rail.ejectDue
  simp only [Bool.and_eq_true, decide_eq_true_eq, Option.isNone_iff_eq_none, Rail.findSlot_none, decide_eq_false_iff_not,
    and_assoc, ne_eq]

end Sys2Proof.Machine

/-!
The Account Store's OPEN ACCOUNT and CLOSE ACCOUNT (R152, R153) and the Purchase Log's VOID (R175).
-/

namespace Sys2Proof.Machine

/-! ## A command on a port of one role that listens -/

theorem exec_desk (i : Instr) {s : State} {code : Byte} {payload : Bytes} (hf : frameOf i = some (.desk, code, payload))
    (hr : rolesOf code = some [.desk]) (hw : i.wellFormed = true) (hl : s.listens .desk = true) :
    exec i s = .next ((s.frameTaken .desk).takeOn .desk (takeCommand i)) :=
  exec_taken i s .desk code payload [.desk] hf hr rfl hw hl

theorem exec_yard (i : Instr) {s : State} {code : Byte} {payload : Bytes} (hf : frameOf i = some (.yard, code, payload))
    (hr : rolesOf code = some [.yard]) (hw : i.wellFormed = true) (hl : s.listens .yard = true) :
    exec i s = .next ((s.frameTaken .yard).takeOn .yard (takeCommand i)) :=
  exec_taken i s .yard code payload [.yard] hf hr rfl hw hl

/-- What an owner answers goes out on the port. -/
theorem State.takeOn_answer (s : State) (p : Role) {take : State → Taken} {t : State} {x : Reply}
    (h : take s = (t, x)) : s.takeOn p take = t.giveReply p x := by rw [State.takeOn, h]

/-! ## OPEN ACCOUNT and CLOSE ACCOUNT -/

/-- The reply to OPEN ACCOUNT counts the record just created among those taken. -/
theorem free_after_open (t : Tbl Buyer) (n : Nat) (b : Buyer) (h : t.get n = none) :
    Config.buyerCapacity - (t.put n b).length = 511 - t.length := by
  rw [Tbl.length_put t n b h, Config.buyerCapacity]; omega

theorem takeOpenAccount_opens {n limit fee : Nat} {s : State} (hn : n ≠ 0) (ha : s.accounts.buyers.get n = none)
    (hc : s.accounts.buyers.length < 512) :
    takeOpenAccount n limit fee s = (s.onBuyers fun t => t.put n (Buyer.opened limit fee),
      Reply.done (num4 (Buyer.opened limit fee).limit ++ num1 (Buyer.opened limit fee).fee ++
        num2 (511 - s.accounts.buyers.length))) := by
  have hc' : ¬ Config.buyerCapacity ≤ s.accounts.buyers.length := Nat.not_le.mpr hc
  simp [takeOpenAccount, hn, ha, hc', State.onBuyers, free_after_open _ _ _ ha]

theorem takeCloseAccount_closes {n : Nat} {s : State} {b : Buyer} (hb : s.accounts.buyers.get n = some b)
    (h : b.pendingSum = 0 ∧ b.owed = 0 ∧ b.seat = none) :
    takeCloseAccount n s = (s.onBuyers fun t => t.erase n, Reply.done (num4 b.dayTotal ++ num2 b.dayCount)) := by
  obtain ⟨hp, ho, hs⟩ := h
  simp [takeCloseAccount, hb, hp, ho, hs]

theorem takeCloseAccount_stands {n : Nat} {s : State} {b : Buyer} (hb : s.accounts.buyers.get n = some b)
    (h : ¬ (b.pendingSum = 0 ∧ b.owed = 0 ∧ b.seat = none)) :
    takeCloseAccount n s = (s, { status := .state, payload := num4 b.pendingSum ++ num4 b.owed ++ (match b.seat with
      | some a => [1, BitVec.ofNat 8 a.val]
      | none => [0, 0]) }) := by
  have hstands : 0 < b.pendingSum ∨ 0 < b.owed ∨ b.seat.isSome := by
    simp only [Nat.pos_iff_ne_zero, Option.isSome_iff_ne_none]
    tauto
  have hseat : optional 1 (fun a : SeatAddr => num1 a.val) b.seat = (match b.seat with
      | some a => [1, BitVec.ofNat 8 a.val]
      | none => [0, 0]) := by cases b.seat <;> rfl
  simp only [takeCloseAccount, hb, hstands, if_true, hseat]

/-- Settles O50: the tests of the two commands branch by branch, in the order of R152 and R153. -/
theorem accountsOpenAndClose : Obligations.AccountsOpenAndClose := by
  intro s hl
  refine ⟨fun n l f => ?_, fun n => ?_⟩
  · rw [exec_accounts (.openAccount .accounts n l f) rfl rfl rfl hl]
    congr 1
    have hzero : n = 0 ↔ n.toNat = 0 := by simp [← BitVec.toNat_inj]
    split_ifs with h0 hused hfull
    · exact s.takeOn_refuse _ _ _ (if_pos (hzero.mp h0))
    all_goals have hn : n.toNat ≠ 0 := mt hzero.mpr h0
    · exact s.takeOn_refuse _ _ _ (by simp [takeCommand, takeOpenAccount, hn, hused])
    · exact s.takeOn_refuse _ _ _ (by simp [takeCommand, takeOpenAccount, hn, hused, Config.buyerCapacity, hfull])
    · exact State.takeOn_answer _ _
        (takeOpenAccount_opens hn (Option.not_isSome_iff_eq_none.mp hused) (Nat.not_le.mp hfull))
  · rw [exec_accounts (.closeAccount .accounts n) rfl rfl rfl hl]
    congr 1
    cases hb : s.accounts.buyers.get n.toNat with
    | none => exact s.takeOn_refuse _ _ _ (by simp [takeCommand, takeCloseAccount, hb])
    | some b =>
      have hb' : (s.frameTaken .accounts).accounts.buyers.get n.toNat = some b := hb
      dsimp only
      split_ifs with h
      · exact State.takeOn_answer _ _ (takeCloseAccount_closes hb' h)
      · exact State.takeOn_answer _ _ (takeCloseAccount_stands hb' h)

/-! ## VOID -/

/-- The voiding of a record reaches its lot unless the record is carried. -/
@[simp] theorem State.voidRecord_lots (s : State) (r : Purchase) :
    (s.voidRecord r).lots = if r.carried then s.lots else s.lots.giveBack r.lot r.units := by
  unfold State.voidRecord
  cases r.carried <;> rfl
@[simp] theorem State.voidRecord_port (s : State) (r : Purchase) (p : Role) : (s.voidRecord r).port p = s.port p := by
  unfold State.voidRecord
  cases r.carried <;> rfl
@[simp] theorem State.voidRecord_holds (s : State) (r : Purchase) (e : Event) : (s.voidRecord r).holds e = s.holds e := by
  rw [State.holds, State.voidRecord_port, State.holds]
@[simp] theorem State.voidRecord_rail (s : State) (r : Purchase) : (s.voidRecord r).rail = s.rail := by
  unfold State.voidRecord
  cases r.carried <;> rfl
@[simp] theorem State.voidRecord_drive (s : State) (r : Purchase) : (s.voidRecord r).drive = s.drive := by
  unfold State.voidRecord
  cases r.carried <;> rfl
@[simp] theorem State.voidRecord_inputs (s : State) (r : Purchase) : (s.voidRecord r).inputs = s.inputs := by
  unfold State.voidRecord
  cases r.carried <;> rfl

/-- The total of a voided record leaves its buyer's pending, and no other record of the table changes. -/
theorem State.get_voidRecord_buyers (s : State) (r : Purchase) (n : Nat) :
    (s.voidRecord r).accounts.buyers.get n = (s.accounts.buyers.get n).map fun b =>
      if r.buyer = n then b.lowerPending r.total else b := by
  rw [State.voidRecord_accounts, Accounts.onBuyer, Tbl.get_modify]
  by_cases h : n = r.buyer
  · simp [h]
  · simp [h, Ne.symm h]

@[simp] theorem LotStore.giveBack_trains (ls : LotStore) (n u : Nat) : (ls.giveBack n u).trains = ls.trains := by
  simp [LotStore.giveBack]
@[simp] theorem LotStore.giveBack_queue (ls : LotStore) (n u : Nat) : (ls.giveBack n u).queue = ls.queue :=
  LotStore.freeTest_queue ..

theorem LotStore.get_giveBack_ne (ls : LotStore) {n m : Nat} (u : Nat) (h : m ≠ n) :
    (ls.giveBack n u).lots.get m = ls.lots.get m := by
  rw [LotStore.giveBack, LotStore.get_freeTest_ne _ h, LotStore.onLot_lots, Tbl.get_modify_ne _ _ h]

/-- The units of a voided record return to remaining or, once the lot is CLOSED, to withdrawn with the outcome set anew, and a
CLOSED lot off the rail that no other record holds is freed (R17, R19). -/
theorem LotStore.get_giveBack_self {ls : LotStore} {n : Nat} {l : Lot} (u : Nat) (h : ls.lots.get n = some l) :
    (ls.giveBack n u).lots.get n =
      if l.state = .closed then
        let sold := l.sold - u
        if l.train = none ∧ l.pendingCount - 1 = 0 then none
        else some { l with sold := sold, withdrawn := l.withdrawn + u, pendingCount := l.pendingCount - 1,
                           outcome := some (if sold = l.unitsTotal then .soldOut else if sold = 0 then .noSale
                             else .part) }
      else some { l with sold := l.sold - u, remaining := l.remaining + u, pendingCount := l.pendingCount - 1 } := by
  have hg : (ls.onLot n fun l => l.giveBack u).lots.get n = some (l.giveBack u) := by
    rw [LotStore.onLot_lots, Tbl.get_modify_self, h, Option.map_some]
  rw [LotStore.giveBack, LotStore.get_freeTest_self _ hg]
  simp only [Lot.freeable_iff]
  by_cases hc : l.state = .closed
  · simp [Lot.giveBack, hc, Lot.outcomeOf]
  · simp [Lot.giveBack, hc]

theorem takeVoid_voids {q : BitVec 32} {s : State} {r : Purchase} (hr : s.log.find q = some r) (hp : r.state = .pending) :
    takeVoid q s = ((s.voidRecord r).reface,
      Reply.done (split4 q ++ num2 r.lot ++ num2 r.buyer ++ num1 r.units ++ [if r.carried then 0 else 1])) := by
  have hq : r.seq = q := by simpa using List.find?_some hr
  simp only [takeVoid, hr, hp, hq]
  cases r.carried <;> rfl

/-- Settles O53: the refusals of R175 in order, and the taken form read off the one operation that voids a record. -/
theorem voidReturnsUnits : Obligations.VoidReturnsUnits := by
  intro s q hl
  rw [exec_desk (.void .desk q) rfl rfl rfl hl]
  cases hr : s.log.records.find? fun r => r.seq = q with
  | none => exact s.takeOn_rejected .desk (by simp only [takeCommand, takeVoid, Log.find, State.frameTaken_log, hr])
  | some r =>
    have hr' : (s.frameTaken .desk).log.find q = some r := hr
    dsimp only
    by_cases hv : r.state = .void
    · rw [if_pos hv]
      exact s.takeOn_rejected .desk (by simp only [takeCommand, takeVoid, hr', hv])
    have hp : r.state = .pending := by cases h : r.state with
      | pending => rfl
      | void => exact absurd h hv
    have hq : r.seq = q := by simpa using List.find?_some hr
    rw [if_neg hv, takeCommand, State.takeOn_answer _ _ (takeVoid_voids hr' hp)]
    refine ⟨_, rfl, ?_, ?_, ?_, fun k => ?_, ?_, fun n => ?_, fun n hn => ?_, fun hc l hlot => ?_, ?_⟩
    · simp [Log.markVoid]
    · simp [Log.markVoid, hq]
    · simp
    · simp
    · simp [Accounts.onBuyer]
    · exact State.get_voidRecord_buyers ..
    · simp only [State.giveReply_lots, State.reface_lots, State.voidRecord_lots, State.frameTaken_lots]
      split_ifs with hc
      · rfl
      · exact LotStore.get_giveBack_ne _ _ (hn.resolve_right hc)
    · simpa [hc] using LotStore.get_giveBack_self r.units hlot
    · simp only [State.giveReply_lots, State.reface_lots, State.voidRecord_lots, State.frameTaken_lots]
      refine ⟨?_, ?_, ?_⟩
      · split_ifs <;> simp
      · split_ifs <;> simp
      · simp

end Sys2Proof.Machine

/-!
The settings of the Rail Controller and the Drive Unit (R34, R37, R56, R62, R65), the channels' turns and the generators'
phases (R58, R60 to R62), and EJECT (R28).
-/

namespace Sys2Proof.Machine

/-! ## Operands within their ranges -/

theorem index_some {n v : Nat} {x : Fin n} (h : v = x.val) : index n v = some x := h ▸ index_lt x

theorem index_none {n v : Nat} (h : n ≤ v) : index n v = none := dif_neg (Nat.not_lt.mpr h)

theorem index_eq_none_iff {n v : Nat} : index n v = none ↔ n ≤ v := by
  unfold index
  split <;> simp <;> omega

theorem onOffOf_eq {b : Byte} (h : b.toNat ≤ 1) : onOffOf b = some (decide (b = 1)) := by
  have hb : b = 0 ∨ b = 1 := by bv_omega
  obtain rfl | rfl := hb <;> rfl

theorem onOffOf_none {b : Byte} (h : 1 < b.toNat) : onOffOf b = none := by
  have h0 : b ≠ 0 := by rintro rfl; simp at h
  have h1 : b ≠ 1 := by rintro rfl; simp at h
  simp only [onOffOf, h0, h1, if_false]

theorem driveModeOf_eq {b : Byte} (h : b.toNat ≤ 1) :
    driveModeOf b = some (if b = 0 then .continuous else .pulsed) := by
  have hb : b = 0 ∨ b = 1 := by bv_omega
  obtain rfl | rfl := hb <;> rfl

theorem driveModeOf_none {b : Byte} (h : 1 < b.toNat) : driveModeOf b = none := by
  have h0 : b ≠ 0 := by rintro rfl; simp at h
  have h1 : b ≠ 1 := by rintro rfl; simp at h
  simp only [driveModeOf, h0, h1, if_false]

theorem stopModeOf_eq {b : Byte} (h : b.toNat ≤ 1) : stopModeOf b = some (if b = 0 then .coast else .brake) := by
  have hb : b = 0 ∨ b = 1 := by bv_omega
  obtain rfl | rfl := hb <;> rfl

theorem stopModeOf_none {b : Byte} (h : 1 < b.toNat) : stopModeOf b = none := by
  have h0 : b ≠ 0 := by rintro rfl; simp at h
  have h1 : b ≠ 1 := by rintro rfl; simp at h
  simp only [stopModeOf, h0, h1, if_false]

theorem periodOf_some {b : Byte} (h : b.toNat ≤ 3) : ∃ pd, periodOf b = some pd ∧ pd.code = b.toNat := by
  have hb : b = 0 ∨ b = 1 ∨ b = 2 ∨ b = 3 := by bv_omega
  obtain rfl | rfl | rfl | rfl := hb
  · exact ⟨.us50, rfl, rfl⟩
  · exact ⟨.ms1, rfl, rfl⟩
  · exact ⟨.ms250, rfl, rfl⟩
  · exact ⟨.s1, rfl, rfl⟩

theorem periodOf_none {b : Byte} (h : 3 < b.toNat) : periodOf b = none := by
  have h0 : b ≠ 0 := by rintro rfl; simp at h
  have h1 : b ≠ 1 := by rintro rfl; simp at h
  have h2 : b ≠ 2 := by rintro rfl; simp at h
  have h3 : b ≠ 3 := by rintro rfl; simp at h
  simp only [periodOf, h0, h1, h2, h3, if_false]

theorem Period.code_inj {a b : Period} : a.code = b.code ↔ a = b := by
  cases a <;> cases b <;> decide

theorem clamp_byte {lo : Nat} (v : Byte) (h : lo ≤ 255) : clamp lo 255 v.toNat = max lo v.toNat := by
  have := v.isLt
  simp only [clamp]
  omega

/-! ## The generators (R61, R62) -/

section
variable (g : Generator) (pd : Period) (duty : Nat)

theorem Generator.write_off : g.write false pd duty =
    { g with enabled := false, period := pd, duty := duty, dutyNow := duty, on := false } := rfl

theorem Generator.write_new (h : g.enabled = false ∨ g.period ≠ pd) : g.write true pd duty =
    { g with enabled := true, period := pd, duty := duty, dutyNow := duty, on := decide (0 < duty) } := by
  have hnew : ¬ g.enabled = true ∨ g.period ≠ pd := h.imp_left Bool.eq_false_iff.mp
  simp only [Generator.write, Generator.beginPeriod, not_true_eq_false, if_false, if_pos hnew]

theorem Generator.write_kept (h : g.enabled = true) (hp : g.period = pd) : g.write true pd duty =
    { g with enabled := true, period := pd, duty := duty } := by
  simp [Generator.write, h, hp]

theorem Generator.write_fields (en : Bool) : (g.write en pd duty).enabled = en ∧ (g.write en pd duty).period = pd ∧
    (g.write en pd duty).duty = duty := by
  cases en with
  | false => exact ⟨rfl, rfl, rfl⟩
  | true =>
    by_cases h : g.enabled = false ∨ g.period ≠ pd
    · rw [Generator.write_new g pd duty h]; exact ⟨rfl, rfl, rfl⟩
    · obtain ⟨he, hp⟩ := not_or.mp h
      rw [Generator.write_kept g pd duty (by simpa using he) (not_not.mp hp)]; exact ⟨rfl, rfl, rfl⟩

end

/-- The reply to SET GENERATOR: the fields as written, the enable as 0 or 1. -/
theorem Generator.write_bytes (g : Generator) (e d : Byte) {c : Byte} {pd : Period} (hc : pd.code = c.toNat) :
    (g.write (e != 0) pd d.toNat).bytes = [if e = 0 then 0 else 1, c, d] := by
  obtain ⟨he, hp, hd⟩ := g.write_fields pd d.toNat (e != 0)
  simp only [Generator.bytes, he, hp, hd, hc, yesNo_eq, num1]
  by_cases h : e = 0 <;> simp [h]

theorem exec_setGenerator (x e c d : Byte) {s : State} (hl : s.listens .yard = true) :
    exec (.setGenerator .yard x e c d) s =
      .next ((s.frameTaken .yard).takeOn .yard (takeCommand (.setGenerator .yard x e c d))) :=
  exec_taken (.setGenerator .yard x e c d) s .yard 0x37 [x, e, c, d] [.desk, .yard] rfl rfl rfl rfl hl

/-! ## A setting out of its range -/

theorem takeSetChannel_range {x m g st : Byte} (s : State)
    (h : chanOf x = none ∨ driveModeOf m = none ∨ genOf g = none ∨ stopModeOf st = none) :
    takeSetChannel x m g st s = refuse s .range := by
  unfold takeSetChannel
  split
  next hc hm hg hst => simp [hc, hm, hg, hst] at h
  next => rfl

theorem takeSetFaultReport_range {a b : Byte} (s : State) (h : onOffOf a = none ∨ onOffOf b = none) :
    takeSetFaultReport a b s = refuse s .range := by
  unfold takeSetFaultReport
  split
  next ha hb => simp [ha, hb] at h
  next => rfl

theorem takeSetGenerator_range {x e c d : Byte} (s : State) (h : genOf x = none ∨ periodOf c = none) :
    takeSetGenerator x e c d s = refuse s .range := by
  unfold takeSetGenerator
  split
  next hx hc => simp [hx, hc] at h
  next => rfl

/-- Settles O28: each setting with its fields in range, and the refusal of any field that is not. -/
theorem railAndDriveSettings : Obligations.RailAndDriveSettings := by
  intro s hl t
  refine ⟨fun x v k hx => ?_, fun x v hx => ?_, fun v => ?_, fun x m g st c n hx hg hm hst => ?_,
    fun x m g st h => ?_, fun a b => ?_, fun x e c d g hx hc => ?_, fun x e c d h => ?_⟩
  · rw [exec_yard (.setMoveLimit .yard x v) rfl rfl rfl hl]
    refine congrArg _ (State.takeOn_answer _ _ ?_)
    simp only [takeCommand, takeSetMoveLimit, secOf, index_some hx, clamp_byte v (show 5 ≤ 255 by decide)]
    rfl
  · rw [exec_yard (.setMoveLimit .yard x v) rfl rfl rfl hl]
    exact s.takeOn_rejected .yard (by simp only [takeCommand, takeSetMoveLimit, secOf, index_none hx])
  · rw [exec_yard (.setGateTime .yard v) rfl rfl rfl hl]
    refine congrArg _ (State.takeOn_answer _ _ ?_)
    have hv : clamp 100 2550 (10 * v.toNat) = max 100 (10 * v.toNat) := by
      have := v.isLt
      simp only [clamp]
      omega
    simp only [takeCommand, takeSetGateTime, hv]
    rfl
  · rw [exec_yard (.setChannel .yard x m g st) rfl rfl rfl hl]
    refine congrArg _ (State.takeOn_answer _ _ ?_)
    simp only [takeCommand, takeSetChannel, chanOf, genOf, index_some hx, index_some hg, driveModeOf_eq hm,
      stopModeOf_eq hst]
    rfl
  · rw [exec_yard (.setChannel .yard x m g st) rfl rfl rfl hl]
    exact s.takeOn_rejected .yard (takeSetChannel_range _ (h.imp index_none (Or.imp driveModeOf_none
      (Or.imp index_none stopModeOf_none))))
  · rw [exec_yard (.setFaultReport .yard a b) rfl rfl rfl hl]
    congr 1
    split_ifs with h
    · exact State.takeOn_answer _ _ (by
        simp only [takeCommand, takeSetFaultReport, onOffOf_eq h.1, onOffOf_eq h.2]; rfl)
    · refine s.takeOn_refuse .yard _ _ (takeSetFaultReport_range _ ?_)
      exact (not_and_or.mp h).imp (fun h => onOffOf_none (Nat.not_le.mp h)) fun h => onOffOf_none (Nat.not_le.mp h)
  · obtain ⟨pd, hpd, hcode⟩ := periodOf_some hc
    have htake : takeCommand (.setGenerator .yard x e c d) t =
        (t.onGen g fun y => y.write (e != 0) pd d.toNat, Reply.done (t.drive.gens[g].write (e != 0) pd d.toNat).bytes) := by
      simp only [takeCommand, takeSetGenerator, genOf, index_some hx, hpd, looseOnOf, State.onGen]
    rw [exec_setGenerator x e c d hl, State.takeOn_answer _ _ htake]
    refine ⟨_, rfl, rfl, ?_, rfl, fun h hh => get_set_ne _ _ hh, ?_⟩
    · exact congrArg (fun b => (s.replied .yard (Reply.done b)).ports) (Generator.write_bytes _ e d hcode)
    · obtain ⟨he, hp, hd⟩ := (s.drive.gens[g]).write_fields pd d.toNat (e != 0)
      have hg : (t.onGen g fun y => y.write (e != 0) pd d.toNat).drive.gens[g] = s.drive.gens[g].write (e != 0) pd d.toNat :=
        get_set_self ..
      simp only [State.giveReply_drive, hg]
      refine ⟨he, hp.symm ▸ hcode, hd, ?_, ?_, ?_⟩
      · rintro rfl; rfl
      · intro he h
        have he' : (e != 0) = true := by simpa using he
        rw [he', Generator.write_new _ _ _ (h.imp_right fun h hp => h (hp ▸ hcode))]
        exact ⟨rfl, rfl⟩
      · intro he h hp
        have he' : (e != 0) = true := by simpa using he
        rw [he', Generator.write_kept _ _ _ h (Period.code_inj.mp (hp.trans hcode.symm))]
        exact ⟨rfl, rfl⟩
  · rw [exec_setGenerator x e c d hl]
    exact s.takeOn_rejected .yard (takeSetGenerator_range _ (h.imp index_none periodOf_none))

/-! ## Turns and phases (R58, R60 to R62) -/

/-- A timer's expiry on a running timer: the time left passes first. -/
theorem State.expire_of_eq_some (s : State) {t : Timer} {n : Nat} (f : State → State) (h : t = some n) :
    s.expire t f = f (s.elapse n) := by rw [h]; rfl

theorem State.expire_of_eq_none (s : State) {t : Timer} (f : State → State) (h : t = none) : s.expire t f = s := by rw [h]; rfl

/-- A pulsed channel's bridge, while it is energised, follows its generator (R60). -/
theorem Drive.driven_pulsed {d : Drive} {c : Chan} (h : d.chans[c].mode = .pulsed) :
    d.driven c = d.gens[d.chans[c].gen].on := by simp only [Drive.driven, h]

theorem Drive.bridge_forward {d : Drive} {c : Chan} (h : d.chans[c].output = .forward) :
    d.bridge c = if d.driven c then .forward else .opened := by simp only [Drive.bridge, h]

theorem Drive.bridge_reverse {d : Drive} {c : Chan} (h : d.chans[c].output = .reverse) :
    d.bridge c = if d.driven c then .reverse else .opened := by simp only [Drive.bridge, h]

/-- An energised channel that is not driven is open. -/
theorem Drive.bridge_open {d : Drive} {c : Chan} (h : d.chans[c].output ≠ .off) (hd : d.driven c = false) :
    d.bridge c = .opened := by
  cases ho : d.chans[c].output with
  | off => exact absurd ho h
  | forward => rw [Drive.bridge_forward ho, hd]; rfl
  | reverse => rw [Drive.bridge_reverse ho, hd]; rfl

theorem State.onGen_self {s : State} {g : Gen} {f : Generator → Generator} (h : f s.drive.gens[g] = s.drive.gens[g]) :
    s.onGen g f = s := by
  have hv : s.drive.gens.set g (f s.drive.gens[g]) = s.drive.gens := vector_ext fun i => by
    rw [get_set, h]; split_ifs with hi <;> simp [hi]
  simp only [State.onGen, hv]

theorem State.onGen_get (s : State) (g : Gen) (f : Generator → Generator) :
    (s.onGen g f).drive.gens[g] = f s.drive.gens[g] := get_set_self ..

theorem Generator.periodStart_held {g : Generator} (h : ¬ (g.enabled = true ∧ ¬ (g.on = true ∧ g.dutyNow < 255))) :
    g.periodStart = g := if_neg h

theorem Generator.periodStart_begins {g : Generator} (he : g.enabled = true) (h : ¬ (g.on = true ∧ g.dutyNow < 255)) :
    g.periodStart = { g with dutyNow := g.duty, on := 0 < g.duty } := if_pos ⟨he, h⟩

theorem Generator.offPhase_ends {g : Generator} (h : g.enabled = true ∧ g.on = true ∧ g.dutyNow < 255) :
    g.offPhase = { g with on := false } := if_pos h

theorem Generator.offPhase_held {g : Generator} (h : ¬ (g.enabled = true ∧ g.on = true ∧ g.dutyNow < 255)) :
    g.offPhase = g := if_neg h

/-- A pulsed channel's bridge after its generator's record changes. -/
theorem State.onGen_driven {s : State} {c : Chan} {g : Gen} (f : Generator → Generator)
    (hm : s.drive.chans[c].mode = .pulsed) (hg : s.drive.chans[c].gen = g) :
    (s.onGen g f).drive.driven c = (f s.drive.gens[g]).on := by
  rw [Drive.driven_pulsed (d := (s.onGen g f).drive) hm, ← State.onGen_get s g f]
  subst hg; rfl

theorem Drive.after_chan (d : Drive) (n : Nat) (c : Chan) :
    (d.after n).chans[c] = { d.chans[c] with deadTime := d.chans[c].deadTime.after n } := by
  simp [Drive.after]

/-- Settles O29: the end of a dead time is the channel's turn, and the two phases are the generator's record alone, which the
bridges of its pulsed channels follow. -/
theorem turnsAndPulses : Obligations.TurnsAndPulses := by
  intro s
  refine ⟨fun c n hd => ?_, fun c hd => ?_, fun g => ?_, fun g => ?_⟩
  · refine ⟨_, congrArg Host.Outcome.next (s.expire_of_eq_some _ hd), rfl, rfl, fun e he => get_set_ne _ _ he, ?_⟩
    have ht : (s.elapse n).drive.chans[c].turn = s.drive.chans[c].turn := by
      rw [State.elapse_drive, Drive.after_chan]
    simp only [get_set_self, ← ht]
    cases hturn : (s.elapse n).drive.chans[c].turn with
    | none =>
      rw [Channel.turnOver_still hturn]
      exact ⟨rfl, hturn, nofun⟩
    | some d =>
      rw [Channel.turnOver_turning hturn]
      refine ⟨rfl, rfl, fun e he => ?_⟩
      obtain rfl : d = e := Option.some.inj he
      exact ⟨rfl, by cases d <;> rfl⟩
  · exact congrArg _ (s.expire_of_eq_none _ hd)
  · refine ⟨_, rfl, rfl, fun h hh => get_set_ne _ _ hh, fun he => ?_, fun ho hd => ?_, fun he hn => ⟨?_, ?_⟩⟩
    · rw [s.onGen_get g, Generator.periodStart_held fun h => Bool.false_ne_true (he ▸ h.1)]
    · exact State.onGen_self (Generator.periodStart_held fun h => h.2 ⟨ho, hd⟩)
    · exact (s.onGen_get g _).trans (Generator.periodStart_begins he hn)
    · intro c hm hg hduty
      have hdriven : (s.onGen g Generator.periodStart).drive.driven c = true := by
        rw [State.onGen_driven _ hm hg, Generator.periodStart_begins he hn]
        exact decide_eq_true hduty
      refine ⟨fun ho => ?_, fun ho => ?_⟩
      · rw [Drive.bridge_forward (d := (s.onGen g Generator.periodStart).drive) ho, hdriven]; rfl
      · rw [Drive.bridge_reverse (d := (s.onGen g Generator.periodStart).drive) ho, hdriven]; rfl
  · refine ⟨_, rfl, rfl, fun h hh => get_set_ne _ _ hh, fun he ho hd => ⟨?_, ?_⟩, fun hn => ?_⟩
    · exact (s.onGen_get g _).trans (Generator.offPhase_ends ⟨he, ho, hd⟩)
    · intro c hm hg hoff
      refine Drive.bridge_open (d := (s.onGen g Generator.offPhase).drive) hoff ?_
      rw [State.onGen_driven _ hm hg, Generator.offPhase_ends ⟨he, ho, hd⟩]
    · exact State.onGen_self (Generator.offPhase_held hn)

/-! ## EJECT (R28) -/

theorem Rail.holdsTrain_iff {r : Rail} {ls : LotStore} {k : Sec} {st : TrainState} :
    r.holdsTrain ls k st = true ↔ ∃ t, r.secs[k].occupant = some t ∧ ls.trainState t = some st := by
  unfold Rail.holdsTrain
  cases r.secs[k].occupant <;> simp

theorem State.intakeEjectable_iff {s : State} : s.intakeEjectable = true ↔
    (∃ t, s.rail.secs[(0 : Sec)].occupant = some t ∧ s.lots.trainState t = some .misorder) ∨
      (s.rail.secs[(0 : Sec)].occupant = none ∧ s.rail.unknownTag.isSome) := by
  simp [State.intakeEjectable, Rail.holdsTrain_iff]

/-- Settles O17: STATE, then BUSY, then the eject pends. -/
theorem ejectPends : Obligations.EjectPends := by
  intro s hl intake misorder unknown t
  have hiff : t.rail.secs[(0 : Sec)].cond = .occupied ∧ t.intakeEjectable = true ↔
      intake.cond = .occupied ∧ (misorder ∨ unknown) := and_congr Iff.rfl State.intakeEjectable_iff
  rw [exec_yard (.eject .yard) rfl rfl rfl hl]
  refine ⟨fun h => congrArg _ ?_, fun h => s.takeOn_rejected .yard (if_pos (mt hiff.mp h))⟩
  have hok : ¬ ¬ (t.rail.secs[(0 : Sec)].cond = .occupied ∧ t.intakeEjectable = true) := not_not.mpr (hiff.mpr h)
  split_ifs with hb
  · exact s.takeOn_refuse .yard _ _ ((if_neg hok).trans (if_pos hb))
  · exact State.takeOn_answer _ _ ((if_neg hok).trans (if_neg hb))

end Sys2Proof.Machine

/-!
The Clock Engine's run segments: START, RESUME and the auto delay's end (R95, R96, R103, R112), the tick (R97 to R100) and the
end of a showing (R107, R108).
-/

namespace Sys2Proof.Machine

/-! ## A run segment begun (R95) -/

section
variable (s : State) (k : SegmentKind)

@[simp] theorem State.beginSegment_lots : (s.beginSegment k).lots = s.clock.lot.elim s.lots s.lots.toClock := by
  unfold State.beginSegment
  cases s.clock.lot <;> simp
@[simp] theorem State.beginSegment_scan : (s.beginSegment k).scan = { s.scan with beacons := [] } := by
  unfold State.beginSegment
  cases s.clock.lot <;> simp
@[simp] theorem State.beginSegment_rail : (s.beginSegment k).rail = s.rail := by
  unfold State.beginSegment
  cases s.clock.lot <;> simp
@[simp] theorem State.beginSegment_drive : (s.beginSegment k).drive = s.drive := by
  unfold State.beginSegment
  cases s.clock.lot <;> simp
@[simp] theorem State.beginSegment_accounts : (s.beginSegment k).accounts = s.accounts := by
  unfold State.beginSegment
  cases s.clock.lot <;> simp
@[simp] theorem State.beginSegment_log : (s.beginSegment k).log = s.log := by
  unfold State.beginSegment
  cases s.clock.lot <;> simp
@[simp] theorem State.beginSegment_inputs : (s.beginSegment k).inputs = s.inputs := by
  unfold State.beginSegment
  cases s.clock.lot <;> simp

/-- A segment's beginning touches the ports by CLOCK alone. -/
theorem State.beginSegment_port (p : Role) : (s.beginSegment k).port p =
    if s.clock.state = .running ∧ s.clock.halt = none then s.port p else (s.raise .clock).port p := by
  unfold State.beginSegment
  cases s.clock.lot <;> exact State.setClock_port ..

theorem State.beginSegment_checkNow (p : Role) : ((s.beginSegment k).port p).checkNow = (s.port p).checkNow := by
  rw [State.beginSegment_port]
  split_ifs
  · rfl
  · exact s.raise_checkNow .clock p

theorem State.beginSegment_holds_clock (h : s.clock.state ≠ .running) : (s.beginSegment k).holds .clock = true := by
  rw [State.holds, State.beginSegment_port, if_neg fun hc => h hc.1]
  exact s.holds_raise_self .clock

end

theorem LotStore.get_toClock (ls : LotStore) (n m : Nat) : (ls.toClock n).lots.get m =
    (ls.lots.get m).map fun l => if n = m ∧ l.state = .loaded then { l with state := .onClock } else l := by
  rw [LotStore.toClock, LotStore.onLot_lots, Tbl.get_modify]
  by_cases h : m = n
  · subst h; simp
  · simp [h, Ne.symm h]

/-- The segment's beginning is the one the rules describe. -/
theorem State.beginSegment_segmentBegun {s : State} (k : SegmentKind) (h : s.clock.state ≠ .running) :
    s.segmentBegun (s.beginSegment k) k := by
  have hlots (n : Nat) : (s.beginSegment k).lots.lots.get n = (s.lots.lots.get n).map fun l =>
      if s.clock.lot = some n ∧ l.state = .loaded then { l with state := .onClock } else l := by
    rw [State.beginSegment_lots]
    cases hc : s.clock.lot with
    | none => simp
    | some m =>
      rw [Option.elim_some, LotStore.get_toClock]
      simp only [Option.some_inj]
  have htrains : (s.beginSegment k).lots.trains = s.lots.trains ∧ (s.beginSegment k).lots.queue = s.lots.queue := by
    rw [State.beginSegment_lots]
    cases s.clock.lot <;> exact ⟨rfl, rfl⟩
  obtain ⟨htr, hq⟩ := htrains
  refine ⟨?_, ?_, ?_, ?_, ?_, ?_, ?_, ?_, ?_, ?_, ?_, ?_, ?_, ?_, ?_, ?_, ?_, s.beginSegment_holds_clock k h, hlots, htr, hq,
    ?_⟩
  all_goals simp [Clock.begun, Clock.tickStart, Config.perMs]

/-- A segment's beginning is told from the lots, the clock, the scan, the accounts, the log and CLOCK alone, and nothing is
told of the auto timer. -/
theorem State.segmentBegun.of_sameSale {s t t' : State} {k : SegmentKind} (h : s.segmentBegun t k) (ht : t.SameSale t')
    (he : t'.holds .clock = t.holds .clock) : s.segmentBegun t' k := by
  obtain ⟨hl, hc, hscan, hacc, hlog, hin⟩ := ht
  simpa only [State.segmentBegun, hl, hc, hscan, hacc, hlog, hin, he] using h

theorem State.sameSale_reface (s : State) : s.SameSale s.reface := ⟨rfl, rfl, rfl, rfl, rfl, rfl⟩
theorem State.sameSale_reface_giveReply (s : State) (p : Role) (x : Reply) : s.SameSale (s.reface.giveReply p x) :=
  ⟨rfl, rfl, rfl, rfl, rfl, rfl⟩

theorem State.logFree_iff (s : State) : s.logFree = true ↔ s.log.records.length < 128 := decide_eq_true_iff

theorem takeStart_loaded {s : State} (h : s.clock.state = .loaded) (hf : s.log.records.length < 128) :
    takeStart s = (((s.onClock fun c => { c with autoTimer := none }).beginSegment .first).reface, Reply.done []) := by
  simp only [takeStart, h, s.logFree_iff.mpr hf, if_true]

theorem takeStart_full {s : State} (h : s.clock.state = .loaded) (hf : ¬ s.log.records.length < 128) :
    takeStart s = refuse s .full := by
  simp only [takeStart, h, s.logFree_iff, hf, if_false]

theorem takeResume_halted {s : State} (h : s.clock.state = .halted) (hf : s.log.records.length < 128) :
    takeResume s = ((s.beginSegment .restarted).reface, Reply.done []) := by
  simp only [takeResume, h, s.logFree_iff.mpr hf, if_true]

theorem takeResume_full {s : State} (h : s.clock.state = .halted) (hf : ¬ s.log.records.length < 128) :
    takeResume s = refuse s .full := by
  simp only [takeResume, h, s.logFree_iff, hf, if_false]

theorem State.autoOver_begins {s : State} (h : s.clock.state = .loaded) (hf : s.log.records.length < 128) :
    s.autoOver = (s.onClock fun c => { c with autoTimer := none }).beginSegment .first := by
  have hfree : (s.onClock fun c => { c with autoTimer := none }).logFree = true := s.logFree_iff.mpr hf
  simp only [State.autoOver, State.onClock_clock, h, hfree, if_true]

theorem State.autoOver_full {s : State} (h : s.clock.state = .loaded) (hf : ¬ s.log.records.length < 128) :
    s.autoOver = (s.onClock fun c => { c with autoTimer := none }).setClock .halted (some .logFull) := by
  have hfree : ¬ (s.onClock fun c => { c with autoTimer := none }).logFree = true := mt s.logFree_iff.mp hf
  simp only [State.autoOver, State.onClock_clock, h, hfree, if_true]
  rfl

/-- Settles O33: the two commands by clock state and log, and the end of the auto delay by the log. -/
theorem segmentStarts : Obligations.SegmentStarts := by
  intro s
  refine ⟨fun hl => ?_, fun hl => ?_, fun n ht hs => ?_⟩
  · rw [exec_desk (.start .desk) rfl rfl rfl hl, takeCommand]
    cases h : s.clock.state with
    | loaded =>
      dsimp only
      split_ifs with hf
      · rw [State.takeOn_answer _ _ (takeStart_loaded (s := s.frameTaken .desk) h hf)]
        refine ⟨_, rfl, ?_, ?_⟩
        · exact (State.beginSegment_segmentBegun (s := (s.frameTaken .desk).onClock fun c => { c with autoTimer := none })
            .first (by simp [h])).of_sameSale (State.sameSale_reface_giveReply ..) (by simp)
        · simp [Clock.begun, State.beginSegment_checkNow]
          rfl
      · exact s.takeOn_rejected _ (takeStart_full (s := s.frameTaken .desk) h hf)
    | idle => exact s.takeOn_rejected _ (by simp [takeStart, h])
    | halted => exact s.takeOn_rejected _ (by simp [takeStart, h])
    | running => exact s.takeOn_rejected _ (by simp [takeStart, h])
    | contest => exact s.takeOn_rejected _ (by simp [takeStart, h])
    | showing => exact s.takeOn_rejected _ (by simp [takeStart, h])
  · rw [exec_desk (.resume .desk) rfl rfl rfl hl, takeCommand]
    cases h : s.clock.state with
    | halted =>
      dsimp only
      split_ifs with hf
      · rw [State.takeOn_answer _ _ (takeResume_halted (s := s.frameTaken .desk) h hf)]
        refine ⟨_, rfl, ?_, ?_⟩
        · exact (State.beginSegment_segmentBegun (s := s.frameTaken .desk) .restarted (by simp [h])).of_sameSale
            (State.sameSale_reface_giveReply ..) (by simp)
        · simp [Clock.begun, State.beginSegment_checkNow]
      · exact s.takeOn_rejected _ (takeResume_full (s := s.frameTaken .desk) h hf)
    | idle => exact s.takeOn_rejected _ (by simp [takeResume, h])
    | loaded => exact s.takeOn_rejected _ (by simp [takeResume, h])
    | running => exact s.takeOn_rejected _ (by simp [takeResume, h])
    | contest => exact s.takeOn_rejected _ (by simp [takeResume, h])
    | showing => exact s.takeOn_rejected _ (by simp [takeResume, h])
  · refine ⟨_, congrArg Host.Outcome.next (s.expire_of_eq_some _ ht), ?_⟩
    have hs' : (s.elapse n).clock.state = .loaded := hs
    split_ifs with hf
    · rw [State.autoOver_begins hs' hf]
      refine ⟨by simp [Clock.begun], ?_⟩
      exact (State.beginSegment_segmentBegun (s := (s.elapse n).onClock fun c => { c with autoTimer := none })
        .first (by simp [hs])).of_sameSale (State.sameSale_reface _) (by simp)
    · rw [State.autoOver_full hs' hf]
      have hclock := State.setClock_holds_clock ((s.elapse n).onClock fun c => { c with autoTimer := none })
        (st := .halted) (some .logFull) (by simp [hs])
      refine ⟨by simp, by simp, by simp, by simp, by simp, ?_, hclock, by simp, by simp, by simp, by simp⟩
      simp [Clock.after]

end Sys2Proof.Machine

/-!
The tick (R97 to R100) and the end of a showing (R107, R108).
-/

namespace Sys2Proof.Machine

/-! ## The tick -/

theorem pushTick_eq (h : List TickRec) (e : TickRec) : pushTick h e = (h ++ [e]).drop ((h ++ [e]).length - 32) := rfl

theorem Clock.after_runTime_running {c : Clock} (h : c.state = .running) (n : Nat) :
    (c.after n).runTime = min (c.runTime + n) 4294967295 := by
  simp [Clock.after, Clock.counting, h, Config.maxRunTime]

theorem descend_of_band {v : Vector Band 8} {price : Nat} {b : Band} (floor : Nat)
    (h : v.toList.find? (fun b => price ≤ b.top) = some b) :
    descend v price floor = if price < floor + b.step then floor else price - b.step := by
  have hstep : stepOf v price = b.step := by simp only [stepOf, bandOf, h]
  rw [descend, hstep]
  exact if_congr (by omega) rfl rfl

section
variable (s : State) (k : ShowingKind)

@[simp] theorem State.enterShowing_lots : (s.enterShowing k).lots = s.lots := by simp [State.enterShowing]
@[simp] theorem State.enterShowing_rail : (s.enterShowing k).rail = s.rail := by simp [State.enterShowing]
@[simp] theorem State.enterShowing_scan : (s.enterShowing k).scan = s.scan := by simp [State.enterShowing]
@[simp] theorem State.enterShowing_accounts : (s.enterShowing k).accounts = s.accounts := by simp [State.enterShowing]
@[simp] theorem State.enterShowing_log : (s.enterShowing k).log = s.log := by simp [State.enterShowing]
@[simp] theorem State.enterShowing_inputs : (s.enterShowing k).inputs = s.inputs := by simp [State.enterShowing]

end

@[simp] theorem State.reface_image (s : State) : s.reface.face.image = s.imageNow := rfl

/-- The figures of a clock that shows its own price. -/
theorem State.image_running {s : State} (h : s.clock.state = .running) :
    s.imageNow.price = .price s.clock.price ∧ s.imageNow.ring = some (s.clock.price % 100) := by
  simp [State.imageNow, priceOf, ringOf, ringIndex, h]

theorem State.tickOver_running {s : State} {l : Lot} (h : s.clock.state = .running) (hl : s.curLot = some l) :
    s.tickOver = s.tickTaken l := by simp only [State.tickOver, h, hl]

/-- Settles O37: the tick above the floor and at it, with the face of either. -/
theorem tickLowersPrice : Obligations.TickLowersPrice := by
  intro s n m l b hs ht hc hm hb
  have hcur : (s.elapse n).curLot = some l := by simp only [State.curLot, State.elapse_clock, Clock.after_lot, hc, State.elapse_lots, hm]
  refine ⟨_, congrArg Host.Outcome.next (s.expire_of_eq_some _ ht), ?_⟩
  rw [State.tickOver_running (s := s.elapse n) hs hcur]
  have hrun : (s.elapse n).clock.runTime = min (s.clock.runTime + n) 4294967295 := Clock.after_runTime_running hs n
  by_cases hf : l.floorPrice < s.clock.price
  · rw [if_pos hf]
    have htake : (s.elapse n).tickTaken l = (s.elapse n).onClock fun c =>
        { c with price := descend s.clock.steps s.clock.price l.floorPrice,
                 history := pushTick c.history
                   { runTime := c.runTime, price := descend s.clock.steps s.clock.price l.floorPrice },
                 tickTimer := c.tickStart } := if_pos hf
    obtain ⟨hprice, hring⟩ := State.image_running (s := (s.elapse n).tickTaken l) (htake ▸ hs)
    rw [htake] at hprice hring
    rw [htake, ← descend_of_band l.floorPrice hb]
    refine ⟨hc, rfl, hrun, rfl, rfl, rfl, rfl, rfl, hs, rfl, ?_, rfl, hprice, hring⟩
    rw [← pushTick_eq, ← hrun]; rfl
  · rw [if_neg hf]
    have htake : (s.elapse n).tickTaken l = (s.elapse n).enterShowing .floor := if_neg hf
    have hclock : ((s.elapse n).enterShowing .floor).holds .clock = true :=
      State.setClock_holds_clock _ _ (by simp [hs])
    rw [htake]
    refine ⟨?_, ?_, ?_, ?_, ?_, ?_, ?_, ?_, ?_, ?_, ?_, ?_, ?_, ?_, ?_, hclock⟩
    · simp [Clock.shown, hc]
    · simp [Clock.shown, Clock.after]
    · simpa [Clock.shown] using hrun
    all_goals simp [Clock.shown, Clock.after, Config.perTenth, State.imageNow, priceOf]

/-! ## The end of a showing -/

@[simp] theorem State.railDone_holds_desk (s b : State) {e : Event} (h : e.role = .desk) :
    (s.railDone b).holds e = s.holds e := by
  rw [State.holds, h, State.railDone_desk, State.holds, h]

theorem State.sameSale_railDone (s b : State) : s.SameSale (s.railDone b) := by constructor <;> simp

/-- A showing's timer stopped, which nothing in the agreement of lots and clock names. -/
def State.showTimed (s : State) : State := s.onClock fun c => { c with showTimer := none }

theorem State.LotsOk.showTimed {s : State} (h : s.LotsOk) : s.showTimed.LotsOk :=
  ⟨h.each, h.placed, h.listed, h.onSale, h.current⟩

/-- A closing after the showing's timer has stopped is a closing. -/
theorem State.lotClosed.of_showTimed {s t : State} {n : Nat} {l : Lot} (h : s.showTimed.lotClosed t n l) :
    s.lotClosed t n l := by
  obtain ⟨hget, htrain, hman, hauto, hrest⟩ := h
  exact ⟨hget, htrain, hman, fun ha ht hl => hauto ha ht hl.showTimed, hrest⟩

theorem State.showOver_showing {s : State} (h : s.clock.state = .showing) : s.showOver = s.showTimed.showingEnd := if_pos h

theorem Lot.restartPrice_eq (l : Lot) : l.restartPrice = match l.lastSale with
    | some x => min (x.price + l.restartRaise) l.startPrice
    | none => l.startPrice := rfl

/-- A showing that ends in a halt: the clock HALTED at the restart price, and no record outside the clock changed. -/
theorem State.haltAfterShowing_spec (s : State) (l : Lot) (r : HaltReason) (hs : s.clock.state = .showing) :
    (s.haltAfterShowing l r).clock =
      { s.clock with price := l.restartPrice, showing := none, notedHalt := false, state := .halted, halt := some r } ∧
    (s.haltAfterShowing l r).holds .clock = true ∧ s.lots = (s.haltAfterShowing l r).lots ∧
    (s.haltAfterShowing l r).scan = s.scan ∧ (s.haltAfterShowing l r).accounts = s.accounts ∧
    (s.haltAfterShowing l r).log = s.log := by
  refine ⟨?_, State.setClock_holds_clock _ _ (by simp [hs]), ?_, ?_, ?_, ?_⟩
  all_goals simp [State.haltAfterShowing]

section
variable {s : State} {l : Lot} (hl : s.curLot = some l)
include hl

theorem State.showingEnd_closes (h : s.clock.notedWithdraw = true ∨ l.remaining = 0 ∨ s.clock.showing = some .floor) :
    s.showingEnd = s.closeLot := by simp only [State.showingEnd, hl, if_pos h]

variable (h : ¬ (s.clock.notedWithdraw = true ∨ l.remaining = 0 ∨ s.clock.showing = some .floor))
include h

theorem State.showingEnd_noted (hn : s.clock.notedHalt = true) : s.showingEnd = s.haltAfterShowing l .desk := by
  simp only [State.showingEnd, hl, if_neg h, if_pos hn]

variable (hn : ¬ s.clock.notedHalt = true)
include hn

theorem State.showingEnd_limit (hr : l.restartsUsed = l.restartLimit) :
    s.showingEnd = s.haltAfterShowing l .restartLimit := by
  simp only [State.showingEnd, hl, if_neg h, if_neg hn, if_pos hr]

variable (hr : ¬ l.restartsUsed = l.restartLimit)
include hr

theorem State.showingEnd_restarts (hf : s.log.records.length < 128) : s.showingEnd = s.restart l := by
  simp only [State.showingEnd, hl, if_neg h, if_neg hn, if_neg hr, if_pos (s.logFree_iff.mpr hf)]

theorem State.showingEnd_full (hf : ¬ s.log.records.length < 128) : s.showingEnd = s.haltAfterShowing l .logFull := by
  simp only [State.showingEnd, hl, if_neg h, if_neg hn, if_neg hr, if_neg (mt s.logFree_iff.mp hf)]

end

/-- A segment's beginning tells nothing of the timers that stood before it. -/
theorem State.segmentBegun.of_showTimed {s s' t : State} {k : SegmentKind} (h : s.segmentBegun t k)
    (hc : s.clock = { s'.clock with showTimer := none })
    (hr : s.lots = s'.lots ∧ s.scan = s'.scan ∧ s.accounts = s'.accounts ∧ s.log = s'.log ∧ s.inputs = s'.inputs) :
    s'.segmentBegun t k := by
  obtain ⟨hl, hscan, hacc, hlog, hin⟩ := hr
  simpa only [State.segmentBegun, hc, hl, hscan, hacc, hlog, hin] using h

/-- Settles O38: the rows of R107 in their order. -/
theorem showingEnds : Obligations.ShowingEnds := by
  intro s n m l k hs hk ht hc hm hl
  have hcur : (s.elapse n).showTimed.curLot = some l := by
    simp only [State.showTimed, State.curLot, State.onClock_clock, State.elapse_clock, Clock.after_lot, hc,
      State.onClock_lots, State.elapse_lots, hm]
  have hnone : (s.elapse n).showOver = (s.elapse n).showTimed.showingEnd := State.showOver_showing hs
  refine ⟨_, congrArg Host.Outcome.next (s.expire_of_eq_some _ ht), ?_⟩
  rw [hnone]
  extract_lets t p halted
  have hfloor : s.clock.notedWithdraw = true ∨ l.remaining = 0 ∨ k = .floor ↔
      t.showTimed.clock.notedWithdraw = true ∨ l.remaining = 0 ∨ t.showTimed.clock.showing = some .floor := by
    have hk' : t.showTimed.clock.showing = some k := hk
    rw [hk', Option.some_inj]; rfl
  have hhalted {r : HaltReason} (h : t.showTimed.showingEnd = t.showTimed.haltAfterShowing l r) :
      (t.showTimed.showingEnd.railDone s).clock.showTimer = none ∧ halted r := by
    obtain ⟨hclock, hholds, hlots, hscan, hacc, hlog⟩ := t.showTimed.haltAfterShowing_spec l r hs
    have hclock' := ((State.railDone_clock t.showTimed.showingEnd s).trans (congrArg State.clock h)).trans hclock
    have hholds' : (t.showTimed.showingEnd.railDone s).holds .clock = true := by
      rw [State.railDone_holds_desk _ _ rfl, h, hholds]
    have hlots' : (t.showTimed.showingEnd.railDone s).lots = s.lots := by rw [State.railDone_lots, h, ← hlots]; rfl
    have hscan' : (t.showTimed.showingEnd.railDone s).scan = s.scan := by rw [State.railDone_scan, h, hscan]; rfl
    have hacc' : (t.showTimed.showingEnd.railDone s).accounts = s.accounts := by
      rw [State.railDone_accounts, h, hacc]; rfl
    have hlog' : (t.showTimed.showingEnd.railDone s).log = s.log := by rw [State.railDone_log, h, hlog]; rfl
    exact ⟨congrArg Clock.showTimer hclock', congrArg Clock.state hclock', congrArg Clock.halt hclock',
      congrArg Clock.price hclock', (congrArg Clock.lot hclock').trans hc, congrArg Clock.showing hclock',
      (congrArg Clock.segment hclock').trans rfl, congrArg Clock.notedHalt hclock', hholds', hlots', hscan', hacc', hlog'⟩
  by_cases h1 : s.clock.notedWithdraw = true ∨ l.remaining = 0 ∨ k = .floor
  · rw [if_pos h1, State.showingEnd_closes hcur (hfloor.mp h1)]
    have hclosed := State.closeLot_lotClosed (s := t.showTimed) hc hm (l.onSale_iff.mpr hl)
    refine ⟨?_, hclosed.of_showTimed.of_sameSale ⟨rfl, rfl, rfl, rfl, rfl, rfl⟩ (State.sameSale_railDone _ _) ?_⟩
    · rw [State.railDone_clock]
      exact (State.closeLot_clears (s := t.showTimed) hc hm (l.onSale_iff.mpr hl)).2.2.1
    · exact State.railDone_holds_desk _ _ rfl
  have h1' := mt hfloor.mpr h1
  rw [if_neg h1]
  by_cases h2 : s.clock.notedHalt = true
  · rw [if_pos h2]
    exact hhalted (State.showingEnd_noted hcur h1' h2)
  rw [if_neg h2]
  by_cases h3 : l.restartsUsed = l.restartLimit
  · rw [if_pos h3]
    exact hhalted (State.showingEnd_limit hcur h1' h2 h3)
  rw [if_neg h3]
  by_cases h4 : s.log.records.length < 128
  · rw [if_pos h4, State.showingEnd_restarts hcur h1' h2 h3 h4]
    have hrestart : t.showTimed.restart l = (((t.showTimed.onLots fun ls =>
        ls.onLot m fun e => { e with restartsUsed := e.restartsUsed + 1 }).onClock fun c =>
          { c with price := l.restartPrice }).beginSegment .restarted) := by
      have hc' : t.showTimed.clock.lot = some m := hc
      simp only [State.restart, hc']
    refine ⟨?_, ?_⟩
    · rw [State.railDone_clock, State.restart_clock]; rfl
    · rw [hrestart]
      generalize hw : (t.showTimed.onLots fun ls =>
        ls.onLot m fun e => { e with restartsUsed := e.restartsUsed + 1 }).onClock (fun c =>
          { c with price := l.restartPrice }) = w
      have hws : w.clock.state ≠ .running := by rw [← hw]; exact hs ▸ nofun
      refine ((State.beginSegment_segmentBegun .restarted hws).of_sameSale (State.sameSale_railDone _ s)
        (State.railDone_holds_desk _ _ rfl)).of_showTimed ?_ ?_
      · rw [← hw]; rfl
      · rw [← hw]; exact ⟨rfl, rfl, rfl, rfl, rfl⟩
  · rw [if_neg h4]
    exact hhalted (State.showingEnd_full hcur h1' h2 h3 h4)

end Sys2Proof.Machine

/-!
What one grant of the move arbiter and one gate operation leave, said once: a grant is taken up by the channels it asks, or it
stalls at once where a latched fault refuses it (R29, R32, R37, R43).
-/

namespace Sys2Proof.Machine

/-! ## Requests to several channels -/

section
variable (c : Channel)

@[simp] theorem Channel.energise_latch (d : Dir) : (c.energise d).1.latch = c.latch := by
  unfold Channel.energise
  split
  · rfl
  · split
    · rfl
    · split_ifs <;> rfl

theorem Channel.energise_accepted (d : Dir) : (c.energise d).2 = c.latch.isNone := by
  unfold Channel.energise
  split
  next f h => rw [h]; rfl
  next h =>
    rw [h]
    split
    · rfl
    · split_ifs <;> rfl

theorem Channel.energise_of_latched (d : Dir) (h : c.latch.isSome) : (c.energise d).1 = c := by
  obtain ⟨f, hf⟩ := Option.isSome_iff_exists.mp h
  rw [Channel.energise_latched hf]

theorem Channel.halt_of_latched (h : c.latch.isSome) : c.halt = c := by
  obtain ⟨f, hf⟩ := Option.isSome_iff_exists.mp h
  exact Channel.halt_latched hf

@[simp] theorem Channel.halt_latch : c.halt.latch = c.latch := by
  unfold Channel.halt; split <;> rfl

/-- A stop after an energise request leaves the channel stopped, as if the request had not been. -/
theorem Channel.halt_energise (d : Dir) : (c.energise d).1.halt = c.halt := by
  cases h : c.latch with
  | some f => rw [Channel.energise_latched h]
  | none =>
    rw [Channel.halt_free (c := (c.energise d).1) (by simp [h]), Channel.halt_free h]
    cases ht : c.turn with
    | some x => rw [Channel.energise_turning h ht]
    | none =>
      by_cases ho : c.output = .off
      · rw [Channel.energise_off h ht ho]
      · by_cases hd : c.output = d.output
        · rw [Channel.energise_same h ht hd]
        · rw [Channel.energise_reversed h ht ho hd]

@[simp] theorem Channel.halt_halt : c.halt.halt = c.halt := by
  cases h : c.latch with
  | some f => rw [Channel.halt_latched h, Channel.halt_latched h]
  | none =>
    have hl : c.halt.latch = none := (Channel.halt_latch c).trans h
    rw [Channel.halt_free hl, Channel.halt_free h]

end

theorem Drive.ext_chans {d e : Drive} (h : ∀ c : Chan, d.chans[c] = e.chans[c]) (hg : d.gens = e.gens)
    (ho : d.reportOvercurrent = e.reportOvercurrent) (hl : d.reportOpenLoad = e.reportOpenLoad) : d = e := by
  have hv : d.chans = e.chans := vector_ext h
  cases d; cases e
  simp_all

section
variable (w : RailWork)

@[simp] theorem RailWork.haltAll_rail (cs : List Chan) : (w.haltAll cs).rail = w.rail := by
  induction cs generalizing w with
  | nil => rfl
  | cons c cs ih => exact ih _
@[simp] theorem RailWork.haltAll_raised (cs : List Chan) : (w.haltAll cs).raised = w.raised := by
  induction cs generalizing w with
  | nil => rfl
  | cons c cs ih => exact ih _
@[simp] theorem RailWork.energiseAll_rail (d : Dir) (cs : List Chan) : (w.energiseAll d cs).1.rail = w.rail := by
  induction cs generalizing w with
  | nil => rfl
  | cons c cs ih => exact ih _
@[simp] theorem RailWork.energiseAll_raised (d : Dir) (cs : List Chan) : (w.energiseAll d cs).1.raised = w.raised := by
  induction cs generalizing w with
  | nil => rfl
  | cons c cs ih => exact ih _

theorem RailWork.eq_of {w w' : RailWork} (hr : w.rail = w'.rail) (hd : w.drive = w'.drive) (hb : w.raised = w'.raised) :
    w = w' := by
  cases w; cases w'; simp_all

end

@[simp] theorem Drive.halt_chan_self (d : Drive) (k : Chan) : (d.halt k).chans[k] = d.chans[k].halt := get_set_self ..
theorem Drive.halt_chan_ne (d : Drive) {k c : Chan} (h : c ≠ k) : (d.halt k).chans[c] = d.chans[c] := get_set_ne _ _ h
@[simp] theorem Drive.energise_chan_self (d : Drive) (k : Chan) (x : Dir) :
    (d.energise k x).1.chans[k] = (d.chans[k].energise x).1 := get_set_self ..
theorem Drive.energise_chan_ne (d : Drive) {k c : Chan} (x : Dir) (h : c ≠ k) :
    (d.energise k x).1.chans[c] = d.chans[c] := get_set_ne _ _ h
theorem Drive.energise_accepted (d : Drive) (k : Chan) (x : Dir) : (d.energise k x).2 = d.chans[k].latch.isNone :=
  Channel.energise_accepted ..

/-- Stopping two channels after asking both to run is stopping them. -/
theorem Drive.halt_pair_energise (d : Drive) {a b : Chan} (hab : a ≠ b) (x : Dir) :
    (((d.energise a x).1.energise b x).1.halt a).halt b = (d.halt a).halt b := by
  refine Drive.ext_chans (fun c => ?_) rfl rfl rfl
  by_cases hb : c = b
  · subst hb
    simp only [Drive.halt_chan_self, Drive.halt_chan_ne _ hab.symm, Drive.energise_chan_self,
      Drive.energise_chan_ne _ _ hab.symm, Channel.halt_energise]
  · by_cases ha : c = a
    · subst ha
      simp only [Drive.halt_chan_self, Drive.halt_chan_ne _ hb, Drive.energise_chan_self, Drive.energise_chan_ne _ _ hb,
        Channel.halt_energise]
    · simp only [Drive.halt_chan_ne _ ha, Drive.halt_chan_ne _ hb, Drive.energise_chan_ne _ _ ha,
        Drive.energise_chan_ne _ _ hb]

theorem Drive.halt_of_latched {d : Drive} {k : Chan} (h : d.chans[k].latch.isSome) : d.halt k = d := by
  refine Drive.ext_chans (fun c => ?_) rfl rfl rfl
  by_cases hc : c = k
  · subst hc; rw [Drive.halt_chan_self, Channel.halt_of_latched _ h]
  · rw [Drive.halt_chan_ne _ hc]

theorem Drive.energise_of_latched {d : Drive} {k : Chan} (x : Dir) (h : d.chans[k].latch.isSome) : (d.energise k x).1 = d := by
  refine Drive.ext_chans (fun c => ?_) rfl rfl rfl
  by_cases hc : c = k
  · subst hc; rw [Drive.energise_chan_self, Channel.energise_of_latched _ _ h]
  · rw [Drive.energise_chan_ne _ _ hc]

/-! ## A stalled move (R43) -/

/-- The sections of a move that stalls: the from-section BLOCKED with its occupant, and a forward move's to-section BLOCKED
with none. -/
def Rail.stalledSecs (r : Rail) (m : Move) : Vector SecRec 7 :=
  match m.dest with
  | .sec b => ((r.blockWith m.source m.train).blockWith b none).secs
  | .out => (r.block m.source).secs

/-- What the stall of a move in flight leaves. -/
theorem RailWork.stallMove_eq {w : RailWork} {i : Fin 3} {m : Move} (cause : Cause) (h : w.rail.slots[i] = some m) :
    w.stallMove i cause =
      { rail := { w.rail with
          secs := w.rail.stalledSecs m, slots := w.rail.slots.set i none,
          stalls := w.rail.stalls.set m.source (some { train := m.train, dest := some m.dest, cause := cause }) }
        drive := (w.haltAll m.chans).drive, raised := w.raised ||| Event.stall.mask } := by
  unfold RailWork.stallMove
  rw [h]
  cases hd : m.dest <;>
    exact RailWork.eq_of (by simp [RailWork.addStall, RailWork.note, RailWork.onRail, Rail.stalledSecs, hd,
      Rail.freeMove, Rail.blockWith, Rail.block, Rail.onSec]) rfl
      (by simp [RailWork.addStall, RailWork.note, RailWork.onRail])

/-! ## The grant of a forward move (R32) -/

/-- A forward move as the arbiter grants it. -/
def Rail.forwardMove (r : Rail) (a b : Sec) : Move :=
  { train := r.secs[a].occupant, source := a, dest := .sec b, left := r.secs[b].moveLimit * Config.perTenth }

/-- An eject as the arbiter grants it. -/
def Rail.ejectMove (r : Rail) : Move :=
  { train := r.secs[(0 : Sec)].occupant, source := 0, dest := .out,
    left := r.secs[(0 : Sec)].moveLimit * Config.perTenth }

section
variable {w : RailWork} {i : Fin 3} {a b : Sec}

theorem castSucc_ne {a b : Sec} (h : a ≠ b) : a.castSucc ≠ b.castSucc := fun e => h (Fin.castSucc_injective _ e)

/-- The grant of a forward move, before the Drive Unit answers. -/
def RailWork.asked (w : RailWork) (i : Fin 3) (a b : Sec) : RailWork :=
  { rail := { w.rail with
      slots := w.rail.slots.set i (some (w.rail.forwardMove a b))
      secs := w.rail.secs.set b { w.rail.secs[b] with cond := .reserved, occupant := none } }
    drive := ((w.drive.energise a.castSucc .forward).1.energise b.castSucc .forward).1
    raised := w.raised }

theorem RailWork.grantMove_eq (hab : a ≠ b) : w.grantMove i a b =
    if w.drive.chans[a.castSucc].latch = none ∧ w.drive.chans[b.castSucc].latch = none then w.asked i a b
    else (w.asked i a b).stallMove i .driveFault := by
  have hacc : (((w.drive.energise a.castSucc .forward).2 &&
      (((w.drive.energise a.castSucc .forward).1.energise b.castSucc .forward).2 && true)) = true) ↔
      (w.drive.chans[a.castSucc].latch = none ∧ w.drive.chans[b.castSucc].latch = none) := by
    rw [Drive.energise_accepted, Drive.energise_accepted, Drive.energise_chan_ne _ _ (castSucc_ne hab).symm]
    simp
  exact if_congr hacc rfl rfl

theorem RailWork.grantMove_accepted (hab : a ≠ b) (ha : w.drive.chans[a.castSucc].latch = none)
    (hb : w.drive.chans[b.castSucc].latch = none) : w.grantMove i a b = w.asked i a b := by
  rw [RailWork.grantMove_eq hab, if_pos ⟨ha, hb⟩]

/-- A grant that a latched fault refuses: the slot free as before, both sections BLOCKED, the record in the list, and both
channels stopped. -/
theorem RailWork.grantMove_refused (hab : a ≠ b) (hi : w.rail.slots[i] = none)
    (h : ¬ (w.drive.chans[a.castSucc].latch = none ∧ w.drive.chans[b.castSucc].latch = none)) :
    w.grantMove i a b =
      { rail := { w.rail with
          secs := (w.rail.secs.set a { w.rail.secs[a] with cond := .blocked }).set b
            { w.rail.secs[b] with cond := .blocked, occupant := none }
          stalls := w.rail.stalls.set a
            (some { train := w.rail.secs[a].occupant, dest := some (.sec b), cause := .driveFault }) }
        drive := (w.drive.halt a.castSucc).halt b.castSucc
        raised := w.raised ||| Event.stall.mask } := by
  rw [RailWork.grantMove_eq hab, if_neg h, RailWork.stallMove_eq (m := w.rail.forwardMove a b) _ (get_set_self ..)]
  refine RailWork.eq_of ?_ (Drive.halt_pair_energise _ (castSucc_ne hab) _) rfl
  have hslots : (w.rail.slots.set i (some (w.rail.forwardMove a b))).set i none = w.rail.slots := vector_ext fun j => by
    by_cases hj : j = i
    · subst hj; rw [get_set_self, hi]
    · rw [get_set_ne _ _ hj, get_set_ne _ _ hj]
  have hsecs : (w.asked i a b).rail.stalledSecs (w.rail.forwardMove a b) =
      (w.rail.secs.set a { w.rail.secs[a] with cond := .blocked }).set b
        { w.rail.secs[b] with cond := .blocked, occupant := none } := vector_ext fun j => by
    by_cases hjb : j = b
    · subst hjb
      simp only [Rail.stalledSecs, Rail.forwardMove, Rail.blockWith, Rail.onSec, RailWork.asked, get_set_self,
        get_set_ne _ _ (Ne.symm hab)]
    · by_cases hja : j = a
      · subst hja
        simp only [Rail.stalledSecs, Rail.forwardMove, Rail.blockWith, Rail.onSec, RailWork.asked, get_set_self,
          get_set_ne _ _ hab]
      · simp only [Rail.stalledSecs, Rail.forwardMove, Rail.blockWith, Rail.onSec, RailWork.asked,
          get_set_ne _ _ hja, get_set_ne _ _ hjb]
  simp only [RailWork.asked] at hsecs ⊢
  rw [hslots, hsecs]
  rfl

/-! ## The grant of an eject (R29) -/

/-- The grant of an eject, before the Drive Unit answers. -/
def RailWork.askedOut (w : RailWork) (i : Fin 3) : RailWork :=
  { rail := { w.rail with slots := w.rail.slots.set i (some w.rail.ejectMove), ejectPending := false }
    drive := (w.drive.energise 0 .reverse).1, raised := w.raised }

theorem RailWork.grantEject_eq : w.grantEject i =
    if w.drive.chans[(0 : Chan)].latch = none then w.askedOut i else (w.askedOut i).stallMove i .driveFault := by
  have hacc : ((w.drive.energise 0 .reverse).2 && true) = true ↔ w.drive.chans[(0 : Chan)].latch = none := by
    rw [Drive.energise_accepted]; simp
  exact if_congr hacc rfl rfl

theorem RailWork.grantEject_accepted (h : w.drive.chans[(0 : Chan)].latch = none) : w.grantEject i = w.askedOut i := by
  rw [RailWork.grantEject_eq, if_pos h]

theorem RailWork.grantEject_refused (hi : w.rail.slots[i] = none) (h : w.drive.chans[(0 : Chan)].latch.isSome) :
    w.grantEject i =
      { rail := { w.rail with
          ejectPending := false
          secs := w.rail.secs.set 0 { w.rail.secs[(0 : Sec)] with cond := .blocked }
          stalls := w.rail.stalls.set 0
            (some { train := w.rail.secs[(0 : Sec)].occupant, dest := some .out, cause := .driveFault }) }
        drive := w.drive, raised := w.raised ||| Event.stall.mask } := by
  have hslots : (w.rail.slots.set i (some w.rail.ejectMove)).set i none = w.rail.slots := vector_ext fun j => by
    by_cases hj : j = i
    · subst hj; rw [get_set_self, hi]
    · rw [get_set_ne _ _ hj, get_set_ne _ _ hj]
  rw [RailWork.grantEject_eq, if_neg (Option.isSome_iff_ne_none.mp h),
    RailWork.stallMove_eq (m := w.rail.ejectMove) _ (get_set_self ..)]
  refine RailWork.eq_of ?_ ?_ rfl
  · simp only [RailWork.askedOut, hslots]; rfl
  · exact (congrArg (Drive.halt · 0) (Drive.energise_of_latched _ h)).trans (Drive.halt_of_latched h)

end

/-! ## A gate operation (R37, R44) -/

section
variable {w : RailWork} {ls : LotStore}

theorem RailWork.beginGate_closing (h : w.rail.wanted ls ≠ .opened) : w.beginGate ls =
    { rail := ({ w.rail with gate := .closing } : Rail).startGateTimers, drive := w.drive.halt 7, raised := w.raised } :=
  if_neg h

theorem RailWork.beginGate_opening (h : w.rail.wanted ls = .opened) (hl : w.drive.chans[(7 : Chan)].latch = none) :
    w.beginGate ls = { rail := ({ w.rail with gate := .opening } : Rail).startGateTimers,
                       drive := (w.drive.energise 7 .forward).1, raised := w.raised } := by
  have hacc : ((w.drive.energise 7 .forward).2 && true) = true := by
    rw [Drive.energise_accepted, hl]; rfl
  exact (if_pos h).trans (if_pos hacc)

theorem RailWork.stallGate_eq (w : RailWork) (cause : Cause) : w.stallGate cause =
    { rail := { w.rail with
        gate := .unknown, gateTimer := none, confirmTimer := none
        secs := w.rail.secs.set 5 { w.rail.secs[(5 : Sec)] with cond := .blocked }
        stalls := w.rail.stalls.set 5 (some { train := w.rail.secs[(5 : Sec)].occupant, dest := none, cause := cause }) }
      drive := w.drive.halt 7, raised := w.raised ||| Event.stall.mask } := rfl

theorem RailWork.beginGate_refused (h : w.rail.wanted ls = .opened) (hl : w.drive.chans[(7 : Chan)].latch.isSome) :
    w.beginGate ls =
      { rail := { w.rail with
          gate := .unknown, gateTimer := none, confirmTimer := none
          secs := w.rail.secs.set 5 { w.rail.secs[(5 : Sec)] with cond := .blocked }
          stalls := w.rail.stalls.set 5
            (some { train := w.rail.secs[(5 : Sec)].occupant, dest := none, cause := .driveFault }) }
        drive := w.drive, raised := w.raised ||| Event.stall.mask } := by
  have hacc : ¬ ((w.drive.energise 7 .forward).2 && true) = true := by
    rw [Drive.energise_accepted, Option.isNone_eq_false_iff.mpr hl]; decide
  refine ((if_pos h).trans (if_neg hacc)).trans ?_
  rw [RailWork.stallGate_eq]
  refine RailWork.eq_of rfl ?_ rfl
  exact (congrArg (Drive.halt · 7) (Drive.energise_of_latched _ hl)).trans (Drive.halt_of_latched hl)

end

end Sys2Proof.Machine

/-!
What the move arbiter spares: an examination of eligibility leaves the moves in flight and their sections, the BLOCKED sections
and their records, the latched channels and the admission wait as they were (R31, R39).
-/

namespace Sys2Proof.Machine

/-! ## What a grant can do to one section -/

/-- What the examination of eligibility can do to a section record: an OCCUPIED section is blocked with its occupant, a CLEAR
one is reserved or blocked with none. -/
def SecRec.Granted (x x' : SecRec) : Prop :=
  x' = x ∨ (x.cond = .occupied ∧ x' = { x with cond := .blocked }) ∨
    (x.cond = .clear ∧ (x' = { x with cond := .reserved, occupant := none } ∨
      x' = { x with cond := .blocked, occupant := none }))

theorem SecRec.Granted.trans {x y z : SecRec} (h : x.Granted y) (h' : y.Granted z) : x.Granted z := by
  obtain rfl | ⟨ho, rfl⟩ | ⟨hc, rfl | rfl⟩ := h
  · exact h'
  · obtain rfl | ⟨h, -⟩ | ⟨h, -⟩ := h'
    · exact .inr (.inl ⟨ho, rfl⟩)
    · cases h
    · cases h
  · obtain rfl | ⟨h, -⟩ | ⟨h, -⟩ := h'
    · exact .inr (.inr ⟨hc, .inl rfl⟩)
    · cases h
    · cases h
  · obtain rfl | ⟨h, -⟩ | ⟨h, -⟩ := h'
    · exact .inr (.inr ⟨hc, .inr rfl⟩)
    · cases h
    · cases h

section
variable {x x' : SecRec} (h : x.Granted x')
include h

theorem SecRec.Granted.occupied_before (ho : x'.cond = .occupied) : x' = x := by
  obtain rfl | ⟨-, rfl⟩ | ⟨-, rfl | rfl⟩ := h
  · rfl
  all_goals cases ho

theorem SecRec.Granted.clear_before (hc : x'.cond = .clear) : x' = x := by
  obtain rfl | ⟨-, rfl⟩ | ⟨-, rfl | rfl⟩ := h
  · rfl
  all_goals cases hc

theorem SecRec.Granted.of_blocked (hb : x.cond = .blocked) : x' = x := by
  obtain rfl | ⟨h, -⟩ | ⟨h, -⟩ := h
  · rfl
  all_goals rw [hb] at h; cases h

/-- An occupant is lost by no examination but where a CLEAR section held one. -/
theorem SecRec.Granted.occupant (hc : x.cond ≠ .clear) : x'.occupant = x.occupant := by
  obtain rfl | ⟨-, rfl⟩ | ⟨h, -⟩ := h
  · rfl
  · rfl
  · exact absurd h hc

end

/-- A section that a move in flight holds, or that is BLOCKED: no grant touches it. -/
def Rail.Held (r : Rail) (k : Sec) : Prop :=
  r.secs[k].cond = .blocked ∨ (r.secs[k].cond ≠ .clear ∧
    ∃ (i : Fin 3) (m : Move), r.slots[i] = some m ∧ m.touches k = true ∧ (r.secs[k].cond = .occupied → m.source = k))

/-- What an examination of eligibility spares (R31). -/
structure RailWork.Spares (w w' : RailWork) : Prop where
  filled  : ∀ (i : Fin 3) (m : Move), w.rail.slots[i] = some m → w'.rail.slots[i] = some m
  secs    : ∀ k : Sec, w.rail.secs[k].Granted w'.rail.secs[k]
  stalls  : ∀ k : Sec, w'.rail.stalls[k] = w.rail.stalls[k] ∨
    (w.rail.secs[k].cond = .occupied ∧ w'.rail.secs[k].cond = .blocked)
  held    : ∀ k : Sec, w.rail.Held k → w'.rail.secs[k] = w.rail.secs[k] ∧ w'.rail.stalls[k] = w.rail.stalls[k] ∧
    w'.drive.chans[k.castSucc] = w.drive.chans[k.castSucc]
  latched : ∀ c : Chan, w.drive.chans[c].latch.isSome → w'.drive.chans[c] = w.drive.chans[c]
  latch   : ∀ c : Chan, w'.drive.chans[c].latch = w.drive.chans[c].latch
  gens    : w'.drive.gens = w.drive.gens
  reports : w'.drive.reports = w.drive.reports
  raised  : w'.raised ||| w.raised = w'.raised
  eject   : w.rail.ejectPending = false → w'.rail.ejectPending = false
  jog     : w'.rail.jog = w.rail.jog
  admission : w'.rail.adm = w.rail.adm ∧ w'.rail.heldTag = w.rail.heldTag ∧ w'.rail.admTimer = w.rail.admTimer
  tag     : w'.rail.unknownTag = w.rail.unknownTag
  gateTime : w'.rail.gateTime = w.rail.gateTime
  hold    : w.rail.hold = .none → w'.rail.hold = .none

theorem RailWork.Spares.refl (w : RailWork) : w.Spares w where
  filled _ _ h := h
  secs _ := .inl rfl
  stalls _ := .inl rfl
  held _ _ := ⟨rfl, rfl, rfl⟩
  latched _ _ := rfl
  latch _ := rfl
  gens := rfl
  reports := rfl
  raised := BitVec.or_self
  eject h := h
  jog := rfl
  admission := ⟨rfl, rfl, rfl⟩
  tag := rfl
  gateTime := rfl
  hold h := h

section
variable {w w' w'' : RailWork}

/-- A section that is held stays held. -/
theorem RailWork.Spares.held_after (h : w.Spares w') {k : Sec} (hk : w.rail.Held k) : w'.rail.Held k := by
  obtain ⟨hs, -, -⟩ := h.held k hk
  unfold Rail.Held
  rw [hs]
  exact hk.imp_right fun ⟨hc, i, m, hm, ht⟩ => ⟨hc, i, m, h.filled i m hm, ht⟩

theorem RailWork.Spares.trans (h : w.Spares w') (h' : w'.Spares w'') : w.Spares w'' where
  filled i m hm := h'.filled i m (h.filled i m hm)
  secs k := (h.secs k).trans (h'.secs k)
  stalls k := by
    rcases h'.stalls k with e | ⟨ho, hb⟩
    · rcases h.stalls k with e' | ⟨ho, hb⟩
      · exact .inl (e.trans e')
      · exact .inr ⟨ho, by rw [(h'.secs k).of_blocked hb, hb]⟩
    · exact .inr ⟨by rw [← (h.secs k).occupied_before ho, ho], hb⟩
  held k hk := by
    obtain ⟨h1, h2, h3⟩ := h.held k hk
    obtain ⟨h1', h2', h3'⟩ := h'.held k (h.held_after hk)
    exact ⟨h1'.trans h1, h2'.trans h2, h3'.trans h3⟩
  latched c hc := (h'.latched c (by rw [h.latch]; exact hc)).trans (h.latched c hc)
  latch c := (h'.latch c).trans (h.latch c)
  gens := h'.gens.trans h.gens
  reports := h'.reports.trans h.reports
  raised := by rw [← h'.raised, BitVec.or_assoc, h.raised]
  eject he := h'.eject (h.eject he)
  jog := h'.jog.trans h.jog
  admission := ⟨h'.admission.1.trans h.admission.1, h'.admission.2.1.trans h.admission.2.1,
    h'.admission.2.2.trans h.admission.2.2⟩
  tag := h'.tag.trans h.tag
  gateTime := h'.gateTime.trans h.gateTime
  hold hn := h'.hold (h.hold hn)

end

theorem stall_raised (b : Byte) : b ||| Event.stall.mask ||| b = b ||| Event.stall.mask := by
  rw [BitVec.or_comm, ← BitVec.or_assoc, BitVec.or_self]

@[simp] theorem Drive.energise_latch (d : Drive) (k c : Chan) (x : Dir) :
    (d.energise k x).1.chans[c].latch = d.chans[c].latch := by
  by_cases h : c = k
  · subst h; rw [Drive.energise_chan_self, Channel.energise_latch]
  · rw [Drive.energise_chan_ne _ _ h]

@[simp] theorem Drive.halt_latch (d : Drive) (k c : Chan) : (d.halt k).chans[c].latch = d.chans[c].latch := by
  by_cases h : c = k
  · subst h; rw [Drive.halt_chan_self, Channel.halt_latch]
  · rw [Drive.halt_chan_ne _ h]

/-- No request changes a channel that holds a latch. -/
theorem Drive.energise_spares {d : Drive} {c : Chan} (h : d.chans[c].latch.isSome) (k : Chan) (x : Dir) :
    (d.energise k x).1.chans[c] = d.chans[c] := by
  by_cases hk : c = k
  · subst hk; rw [Drive.energise_chan_self, Channel.energise_of_latched _ _ h]
  · rw [Drive.energise_chan_ne _ _ hk]

theorem Drive.halt_spares {d : Drive} {c : Chan} (h : d.chans[c].latch.isSome) (k : Chan) :
    (d.halt k).chans[c] = d.chans[c] := by
  by_cases hk : c = k
  · subst hk; rw [Drive.halt_chan_self, Channel.halt_of_latched _ h]
  · rw [Drive.halt_chan_ne _ hk]

theorem castSucc_ne_seven (k : Sec) : k.castSucc ≠ 7 := by revert k; decide

/-! ## One grant spares the rest -/

section
variable {w : RailWork} {ls : LotStore} {i : Fin 3} {a b : Sec}

/-- A held section is neither end of an eligible move. -/
theorem Rail.Held.ne_of_due {r : Rail} {k : Sec} (hk : r.Held k) (h : r.moveDue ls a b = true) : k ≠ a ∧ k ≠ b := by
  obtain ⟨ho, hfree, -, hc, -⟩ := Rail.moveDue_iff.mp h
  constructor
  · rintro rfl
    rcases hk with hb | ⟨-, i, m, hm, -, hs⟩
    · rw [hb] at ho; cases ho
    · exact hfree i m hm (hs ho)
  · rintro rfl
    rcases hk with hb | ⟨hn, -⟩
    · rw [hb] at hc; cases hc
    · exact hn hc

theorem RailWork.spares_grantMove (hi : w.rail.slots[i] = none) (hab : a ≠ b) (h : w.rail.moveDue ls a b = true) :
    w.Spares (w.grantMove i a b) := by
  obtain ⟨ho, hfree, -, hc, -⟩ := Rail.moveDue_iff.mp h
  by_cases hl : w.drive.chans[a.castSucc].latch = none ∧ w.drive.chans[b.castSucc].latch = none
  · rw [RailWork.grantMove_accepted hab hl.1 hl.2]
    exact {
      filled := fun j m hm => (get_set_ne _ _ (by rintro rfl; rw [hi] at hm; cases hm)).trans hm
      secs := fun k => by
        by_cases hk : k = b
        · subst hk
          exact .inr (.inr ⟨hc, .inl (get_set_self ..)⟩)
        · exact .inl (get_set_ne _ _ hk)
      stalls := fun k => .inl rfl
      held := fun k hk => by
        obtain ⟨hka, hkb⟩ := hk.ne_of_due h
        exact ⟨get_set_ne _ _ hkb, rfl, (Drive.energise_chan_ne _ _ (castSucc_ne hkb)).trans
          (Drive.energise_chan_ne _ _ (castSucc_ne hka))⟩
      latched := fun c hc => (Drive.energise_spares (by rwa [Drive.energise_latch]) _ _).trans (Drive.energise_spares hc _ _)
      latch := fun c => (Drive.energise_latch ..).trans (Drive.energise_latch ..)
      gens := rfl, reports := rfl, raised := BitVec.or_self, eject := id, jog := rfl, admission := ⟨rfl, rfl, rfl⟩
      tag := rfl, gateTime := rfl, hold := id }
  · rw [RailWork.grantMove_refused hab hi hl]
    exact {
      filled := fun j m hm => hm
      secs := fun k => by
        by_cases hkb : k = b
        · subst hkb
          exact .inr (.inr ⟨hc, .inr (get_set_self ..)⟩)
        · by_cases hka : k = a
          · subst hka
            exact .inr (.inl ⟨ho, (get_set_ne _ _ hkb).trans (get_set_self ..)⟩)
          · exact .inl ((get_set_ne _ _ hkb).trans (get_set_ne _ _ hka))
      stalls := fun k => by
        by_cases hka : k = a
        · subst hka
          refine .inr ⟨ho, ?_⟩
          simp only [get_set_ne _ _ hab, get_set_self]
        · exact .inl (get_set_ne _ _ hka)
      held := fun k hk => by
        obtain ⟨hka, hkb⟩ := hk.ne_of_due h
        exact ⟨(get_set_ne _ _ hkb).trans (get_set_ne _ _ hka), get_set_ne _ _ hka,
          (Drive.halt_chan_ne _ (castSucc_ne hkb)).trans (Drive.halt_chan_ne _ (castSucc_ne hka))⟩
      latched := fun c hc => (Drive.halt_spares (by rwa [Drive.halt_latch]) _).trans (Drive.halt_spares hc _)
      latch := fun c => (Drive.halt_latch ..).trans (Drive.halt_latch ..)
      gens := rfl, reports := rfl, raised := stall_raised _, eject := id, jog := rfl, admission := ⟨rfl, rfl, rfl⟩
      tag := rfl, gateTime := rfl, hold := id }

/-- A held INTAKE has no eligible eject. -/
theorem Rail.Held.ne_of_ejectDue {r : Rail} {k : Sec} (hk : r.Held k) (h : r.ejectDue = true) : k ≠ 0 := by
  obtain ⟨-, ho, hfree⟩ := Rail.ejectDue_iff.mp h
  rintro rfl
  rcases hk with hb | ⟨-, i, m, hm, -, hs⟩
  · rw [hb] at ho; cases ho
  · exact hfree i m hm (hs ho)

theorem RailWork.spares_grantEject (hi : w.rail.slots[i] = none) (h : w.rail.ejectDue = true) :
    w.Spares (w.grantEject i) := by
  obtain ⟨-, ho, -⟩ := Rail.ejectDue_iff.mp h
  have hchan {k : Sec} (hk : k ≠ 0) : k.castSucc ≠ 0 := castSucc_ne hk
  cases hl : w.drive.chans[(0 : Chan)].latch with
  | none =>
    rw [RailWork.grantEject_accepted hl]
    exact {
      filled := fun j m hm => (get_set_ne _ _ (by rintro rfl; rw [hi] at hm; cases hm)).trans hm
      secs := fun k => .inl rfl
      stalls := fun k => .inl rfl
      held := fun k hk => ⟨rfl, rfl, Drive.energise_chan_ne _ _ (hchan (hk.ne_of_ejectDue h))⟩
      latched := fun c hc => Drive.energise_spares hc _ _
      latch := fun c => Drive.energise_latch ..
      gens := rfl, reports := rfl, raised := BitVec.or_self, eject := fun _ => rfl, jog := rfl
      admission := ⟨rfl, rfl, rfl⟩, tag := rfl, gateTime := rfl, hold := id }
  | some f =>
    rw [RailWork.grantEject_refused hi (by rw [hl]; rfl)]
    exact {
      filled := fun j m hm => hm
      secs := fun k => by
        by_cases hk : k = 0
        · subst hk
          exact .inr (.inl ⟨ho, get_set_self w.rail.secs (0 : Sec) _⟩)
        · exact .inl (get_set_ne _ _ hk)
      stalls := fun k => by
        by_cases hk : k = 0
        · subst hk
          exact .inr ⟨ho, congrArg SecRec.cond (get_set_self w.rail.secs (0 : Sec) _)⟩
        · exact .inl (get_set_ne _ _ hk)
      held := fun k hk => ⟨get_set_ne _ _ (hk.ne_of_ejectDue h), get_set_ne _ _ (hk.ne_of_ejectDue h), rfl⟩
      latched := fun c hc => rfl
      latch := fun c => rfl
      gens := rfl, reports := rfl, raised := stall_raised _, eject := fun _ => rfl, jog := rfl
      admission := ⟨rfl, rfl, rfl⟩, tag := rfl, gateTime := rfl, hold := id }

theorem Rail.wanted_opened {r : Rail} : r.wanted ls = .opened ↔
    r.secs[(5 : Sec)].cond = .occupied ∧ r.holdsTrain ls 5 .done = true := by
  unfold Rail.wanted
  split_ifs with h
  · exact ⟨fun _ => h, fun _ => rfl⟩
  · exact ⟨nofun, fun h' => absurd h' h⟩

theorem Rail.wanted_closed {r : Rail} (h : r.wanted ls ≠ .opened) : r.wanted ls = .closed := by
  unfold Rail.wanted at h ⊢
  split_ifs with h' <;> simp_all

/-- What makes a gate operation eligible (R36). -/
theorem Rail.gateDue_iff {r : Rail} : r.gateDue ls = true ↔
    r.gate ≠ r.wanted ls ∧ r.gateMoving = false ∧ r.secs[(5 : Sec)].cond ≠ .blocked ∧ r.slotAt 5 = none := by
  simp [Rail.gateDue, and_assoc]

theorem RailWork.spares_beginGate (h : w.rail.gateDue ls = true) : w.Spares (w.beginGate ls) := by
  obtain ⟨-, -, hb, hs⟩ := Rail.gateDue_iff.mp h
  have h5 {k : Sec} (hk : w.rail.Held k) : k ≠ 5 := by
    rintro rfl
    rcases hk with hk | ⟨-, i, m, hm, ht, -⟩
    · exact hb hk
    · exact Bool.false_ne_true ((Rail.findSlot_none.mp hs i m hm).symm.trans ht)
  by_cases hw : w.rail.wanted ls = .opened
  · cases hl : w.drive.chans[(7 : Chan)].latch with
    | none =>
      rw [RailWork.beginGate_opening hw hl]
      exact {
        filled := fun j m hm => hm
        secs := fun k => .inl rfl
        stalls := fun k => .inl rfl
        held := fun k _ => ⟨rfl, rfl, Drive.energise_chan_ne _ _ (castSucc_ne_seven k)⟩
        latched := fun c hc => Drive.energise_spares hc _ _
        latch := fun c => Drive.energise_latch ..
        gens := rfl, reports := rfl, raised := BitVec.or_self, eject := id, jog := rfl
        admission := ⟨rfl, rfl, rfl⟩, tag := rfl, gateTime := rfl, hold := id }
    | some f =>
      rw [RailWork.beginGate_refused hw (by rw [hl]; rfl)]
      obtain ⟨ho, -⟩ := Rail.wanted_opened.mp hw
      exact {
        filled := fun j m hm => hm
        secs := fun k => by
          by_cases hk : k = 5
          · subst hk
            exact .inr (.inl ⟨ho, get_set_self w.rail.secs (5 : Sec) _⟩)
          · exact .inl (get_set_ne _ _ hk)
        stalls := fun k => by
          by_cases hk : k = 5
          · subst hk
            exact .inr ⟨ho, congrArg SecRec.cond (get_set_self w.rail.secs (5 : Sec) _)⟩
          · exact .inl (get_set_ne _ _ hk)
        held := fun k hk => ⟨get_set_ne _ _ (h5 hk), get_set_ne _ _ (h5 hk), rfl⟩
        latched := fun c hc => rfl
        latch := fun c => rfl
        gens := rfl, reports := rfl, raised := stall_raised _, eject := id, jog := rfl
        admission := ⟨rfl, rfl, rfl⟩, tag := rfl, gateTime := rfl, hold := id }
  · rw [RailWork.beginGate_closing hw]
    exact {
      filled := fun j m hm => hm
      secs := fun k => .inl rfl
      stalls := fun k => .inl rfl
      held := fun k _ => ⟨rfl, rfl, Drive.halt_chan_ne _ (castSucc_ne_seven k)⟩
      latched := fun c hc => Drive.halt_spares hc _
      latch := fun c => Drive.halt_latch ..
      gens := rfl, reports := rfl, raised := BitVec.or_self, eject := id, jog := rfl
      admission := ⟨rfl, rfl, rfl⟩, tag := rfl, gateTime := rfl, hold := id }

end

/-! ## The whole examination -/

/-- What every grant keeps, the arbiter keeps. -/
theorem RailWork.arbitrate_keeps {ls : LotStore} {P : RailWork → Prop}
    (hmove : ∀ (w : RailWork) (i : Fin 3) (a b : Sec), P w → w.rail.freeSlot = some i → w.rail.nextMove ls = some (a, b) →
      P (w.grantMove i a b))
    (heject : ∀ (w : RailWork) (i : Fin 3), P w → w.rail.freeSlot = some i → w.rail.nextMove ls = none →
      w.rail.ejectDue = true → P (w.grantEject i)) (n : Nat) {w : RailWork} (h : P w) : P (RailWork.arbitrate ls n w) := by
  induction n generalizing w with
  | zero => exact h
  | succ n ih =>
    unfold RailWork.arbitrate
    cases hf : w.rail.freeSlot with
    | none => exact h
    | some i =>
      cases hm : w.rail.nextMove ls with
      | some m => exact ih (hmove w i m.1 m.2 h hf hm)
      | none =>
        dsimp only
        split_ifs with he
        · exact ih (heject w i h hf hm he)
        · exact h

theorem ne_of_next {a b : Sec} (h : b.val = a.val + 1) : a ≠ b := by
  rintro rfl; omega

theorem RailWork.spares_arbitrate (w : RailWork) (ls : LotStore) (n : Nat) : w.Spares (RailWork.arbitrate ls n w) :=
  RailWork.arbitrate_keeps (P := w.Spares)
    (fun v i a b h hf hm => by
      obtain ⟨hdue, hb, -⟩ := Rail.nextMove_some hm
      exact h.trans (RailWork.spares_grantMove (Rail.freeSlot_some hf).1 (ne_of_next hb) hdue))
    (fun v i h hf _ he => h.trans (RailWork.spares_grantEject (Rail.freeSlot_some hf).1 he)) n (.refl w)

/-- A hold that pends with nothing in flight becomes HELD, and otherwise nothing changes. -/
theorem RailWork.holdTest_cases (w : RailWork) :
    (w.holdTest = w ∧ ¬ (w.rail.hold = .pending ∧ w.rail.moving = false ∧ w.rail.gateMoving = false)) ∨
    (w.rail.hold = .pending ∧ w.rail.moving = false ∧ w.rail.gateMoving = false ∧
      w.holdTest = { w with rail := { w.rail with hold := .held }, raised := w.raised ||| Event.holdAck.mask }) := by
  unfold RailWork.holdTest
  split_ifs with h
  · obtain ⟨hp, hm, hg⟩ := h
    exact .inr ⟨hp, by simpa using hm, by simpa using hg, rfl⟩
  · exact .inl ⟨rfl, by simpa using h⟩

theorem RailWork.spares_holdTest (w : RailWork) : w.Spares w.holdTest := by
  rcases w.holdTest_cases with ⟨e, -⟩ | ⟨hp, -, -, e⟩
  · rw [e]; exact .refl w
  · rw [e]
    exact {
      filled := fun _ _ h => h, secs := fun _ => .inl rfl, stalls := fun _ => .inl rfl
      held := fun _ _ => ⟨rfl, rfl, rfl⟩, latched := fun _ _ => rfl, latch := fun _ => rfl, gens := rfl, reports := rfl
      raised := by rw [BitVec.or_comm, ← BitVec.or_assoc, BitVec.or_self]
      eject := id, jog := rfl, admission := ⟨rfl, rfl, rfl⟩, tag := rfl, gateTime := rfl
      hold := fun h => by rw [hp] at h; cases h }

/-- The examination under a hold is the test of the hold alone. -/
theorem RailWork.settle_held (w : RailWork) (ls : LotStore) (h : w.rail.hold ≠ .none) : w.settle ls = w.holdTest := by
  have hh : w.holdTest.rail.hold ≠ .none := by
    rcases w.holdTest_cases with ⟨e, -⟩ | ⟨-, -, -, e⟩
    · rwa [e]
    · rw [e]; nofun
  exact if_neg hh

/-- With no hold, the gate operation that is due, and then the moves. -/
theorem RailWork.settle_free (w : RailWork) (ls : LotStore) (h : w.rail.hold = .none) : w.settle ls =
    RailWork.arbitrate ls 10 (if w.rail.gateDue ls then w.beginGate ls else w) := by
  unfold RailWork.settle
  rw [RailWork.holdTest_none h]
  exact if_pos h

theorem RailWork.spares_settle (w : RailWork) (ls : LotStore) : w.Spares (w.settle ls) := by
  by_cases h : w.rail.hold = .none
  · rw [RailWork.settle_free w ls h]
    split_ifs with hg
    · exact (RailWork.spares_beginGate hg).trans (RailWork.spares_arbitrate ..)
    · exact RailWork.spares_arbitrate ..
  · rw [RailWork.settle_held w ls h]
    exact w.spares_holdTest

end Sys2Proof.Machine

/-!
The arbiter leaves nothing eligible, and keeps the moves in flight apart (R31, R36, R39).
-/

namespace Sys2Proof.Machine

/-! ## The part's examination of eligibility -/

/-- What a rail operation of the part works on. -/
def State.work (s : State) : RailWork := { rail := s.rail, drive := s.drive, raised := 0 }

theorem State.settle_rail (s : State) : s.settle.rail = (s.work.settle s.lots).rail := rfl
theorem State.settle_drive (s : State) : s.settle.drive = (s.work.settle s.lots).drive := rfl
theorem State.settle_port_yard (s : State) :
    s.settle.port .yard = (s.port .yard).raiseBits (s.work.settle s.lots).raised := rfl

/-! ## The grants come to an end (R31) -/

/-- What a grant uses up: the free slots, and the sections that are not BLOCKED. -/
def Rail.room (r : Rail) : Nat :=
  (Finset.univ.filter fun i : Fin 3 => r.slots[i] = none).card +
    (Finset.univ.filter fun k : Sec => r.secs[k].cond ≠ .blocked).card

theorem Rail.room_le (r : Rail) : r.room ≤ 10 := by
  have h3 := Finset.card_filter_le (Finset.univ : Finset (Fin 3)) fun i => r.slots[i] = none
  have h7 := Finset.card_filter_le (Finset.univ : Finset Sec) fun k => r.secs[k].cond ≠ .blocked
  simp only [Finset.card_univ, Fintype.card_fin] at h3 h7
  unfold Rail.room
  omega

theorem Rail.room_pos {r : Rail} {i : Fin 3} (h : r.slots[i] = none) : 0 < r.room :=
  Nat.add_pos_left (Finset.card_pos.mpr ⟨i, by simpa using h⟩) _

section
variable {w w' : RailWork}

theorem RailWork.Spares.slots_subset (h : w.Spares w') :
    (Finset.univ.filter fun i : Fin 3 => w'.rail.slots[i] = none) ⊆ Finset.univ.filter fun i => w.rail.slots[i] = none := by
  intro i hi
  simp only [Finset.mem_filter, Finset.mem_univ, true_and] at hi ⊢
  by_contra hn
  obtain ⟨m, hm⟩ := Option.ne_none_iff_exists'.mp hn
  rw [h.filled i m hm] at hi
  cases hi

theorem RailWork.Spares.blocked_after (h : w.Spares w') {k : Sec} (hb : w.rail.secs[k].cond = .blocked) :
    w'.rail.secs[k].cond = .blocked := by rw [(h.secs k).of_blocked hb, hb]

theorem RailWork.Spares.secs_subset (h : w.Spares w') :
    (Finset.univ.filter fun k : Sec => w'.rail.secs[k].cond ≠ .blocked) ⊆
      Finset.univ.filter fun k => w.rail.secs[k].cond ≠ .blocked := by
  intro k hk
  simp only [Finset.mem_filter, Finset.mem_univ, true_and] at hk ⊢
  exact fun hb => hk (h.blocked_after hb)

/-- A grant that fills a slot or blocks a section leaves less room. -/
theorem RailWork.Spares.room_lt (h : w.Spares w')
    (hused : (∃ i : Fin 3, w.rail.slots[i] = none ∧ w'.rail.slots[i] ≠ none) ∨
      ∃ k : Sec, w.rail.secs[k].cond ≠ .blocked ∧ w'.rail.secs[k].cond = .blocked) : w'.rail.room < w.rail.room := by
  rcases hused with ⟨i, hi, hi'⟩ | ⟨k, hk, hk'⟩
  · refine Nat.add_lt_add_of_lt_of_le (Finset.card_lt_card ⟨h.slots_subset, fun hs => ?_⟩) (Finset.card_le_card h.secs_subset)
    have := hs (Finset.mem_filter.mpr ⟨Finset.mem_univ i, hi⟩)
    exact hi' (Finset.mem_filter.mp this).2
  · refine Nat.add_lt_add_of_le_of_lt (Finset.card_le_card h.slots_subset) (Finset.card_lt_card ⟨h.secs_subset, fun hs => ?_⟩)
    have := hs (Finset.mem_filter.mpr ⟨Finset.mem_univ k, hk⟩)
    exact (Finset.mem_filter.mp this).2 hk'

end

section
variable {w : RailWork} {ls : LotStore} {i : Fin 3} {a b : Sec}

/-- A forward move's grant fills its slot, or blocks its sections with the slot free as before. -/
theorem RailWork.grantMove_uses (hi : w.rail.slots[i] = none) (hab : a ≠ b) :
    (w.grantMove i a b).rail.slots[i] = some (w.rail.forwardMove a b) ∨
      ((w.grantMove i a b).rail.secs[a].cond = .blocked ∧ (w.grantMove i a b).rail.secs[b].cond = .blocked) := by
  by_cases hl : w.drive.chans[a.castSucc].latch = none ∧ w.drive.chans[b.castSucc].latch = none
  · rw [RailWork.grantMove_accepted hab hl.1 hl.2]
    exact .inl (get_set_self ..)
  · rw [RailWork.grantMove_refused hab hi hl]
    refine .inr ⟨?_, congrArg SecRec.cond (get_set_self ..)⟩
    simp only [get_set_ne _ _ hab, get_set_self]

theorem RailWork.grantEject_uses (hi : w.rail.slots[i] = none) : (w.grantEject i).rail.slots[i] = some w.rail.ejectMove ∨
    (w.grantEject i).rail.secs[(0 : Sec)].cond = .blocked := by
  cases hl : w.drive.chans[(0 : Chan)].latch with
  | none =>
    rw [RailWork.grantEject_accepted hl]
    exact .inl (get_set_self ..)
  | some f =>
    rw [RailWork.grantEject_refused hi (by rw [hl]; rfl)]
    exact .inr (congrArg SecRec.cond (get_set_self w.rail.secs (0 : Sec) _))

theorem RailWork.room_grantMove (hi : w.rail.slots[i] = none) (hab : a ≠ b) (h : w.rail.moveDue ls a b = true) :
    (w.grantMove i a b).rail.room < w.rail.room := by
  refine (RailWork.spares_grantMove hi hab h).room_lt ?_
  rcases RailWork.grantMove_uses hi hab with hs | ⟨hb, -⟩
  · exact .inl ⟨i, hi, by rw [hs]; nofun⟩
  · exact .inr ⟨a, by rw [(Rail.moveDue_iff.mp h).1]; nofun, hb⟩

theorem RailWork.room_grantEject (hi : w.rail.slots[i] = none) (h : w.rail.ejectDue = true) :
    (w.grantEject i).rail.room < w.rail.room := by
  refine (RailWork.spares_grantEject hi h).room_lt ?_
  rcases RailWork.grantEject_uses hi with hs | hb
  · exact .inl ⟨i, hi, by rw [hs]; nofun⟩
  · exact .inr ⟨0, by rw [(Rail.ejectDue_iff.mp h).2.1]; nofun, hb⟩

end

/-- A rail on which no move is eligible, or no slot free. -/
def Rail.Idle (r : Rail) (ls : LotStore) : Prop := r.freeSlot = none ∨ (r.nextMove ls = none ∧ r.ejectDue = false)

/-- With as many rounds as there is room, the arbiter leaves no move eligible while a slot is free. -/
theorem RailWork.arbitrate_leaves_idle {ls : LotStore} (n : Nat) {w : RailWork} (h : w.rail.room ≤ n) :
    (RailWork.arbitrate ls n w).rail.Idle ls := by
  induction n generalizing w with
  | zero =>
    refine .inl (Option.eq_none_iff_forall_ne_some.mpr fun i hi => ?_)
    exact absurd (Rail.room_pos (Rail.freeSlot_some hi).1) (Nat.not_lt.mpr h)
  | succ n ih =>
    unfold RailWork.arbitrate
    cases hf : w.rail.freeSlot with
    | none => exact .inl hf
    | some i =>
      obtain ⟨hi, -⟩ := Rail.freeSlot_some hf
      cases hm : w.rail.nextMove ls with
      | some m =>
        obtain ⟨hdue, hb, -⟩ := Rail.nextMove_some hm
        have := RailWork.room_grantMove hi (ne_of_next hb) hdue
        exact ih (by omega)
      | none =>
        dsimp only
        split_ifs with he
        · have := RailWork.room_grantEject hi he
          exact ih (by omega)
        · exact .inr ⟨hm, Bool.eq_false_iff.mpr he⟩

/-! ## No gate operation stays eligible (R36) -/

theorem Rail.holdsTrain_congr {r r' : Rail} {k : Sec} (h : r'.secs[k] = r.secs[k]) (ls : LotStore) (st : TrainState) :
    r'.holdsTrain ls k st = r.holdsTrain ls k st := by unfold Rail.holdsTrain; rw [h]

/-- What an eligible gate operation reads of the rail. -/
theorem Rail.gateDue_false_of {r r' : Rail} {ls : LotStore} (h : r.gateDue ls = false)
    (hg : r'.gate = r.gate) (hs : r'.secs[(5 : Sec)] = r.secs[(5 : Sec)])
    (hf : ∀ (i : Fin 3) (m : Move), r.slots[i] = some m → r'.slots[i] = some m) : r'.gateDue ls = false := by
  have hw : r'.wanted ls = r.wanted ls := by simp only [Rail.wanted, hs, Rail.holdsTrain_congr hs]
  have hm : r'.gateMoving = r.gateMoving := by simp only [Rail.gateMoving, hg]
  rw [Bool.eq_false_iff] at h ⊢
  intro hd
  obtain ⟨h1, h2, h3, h4⟩ := Rail.gateDue_iff.mp hd
  refine h (Rail.gateDue_iff.mpr ⟨by rw [← hg, ← hw]; exact h1, hm ▸ h2, by rw [← hs]; exact h3, ?_⟩)
  exact Rail.findSlot_none.mpr fun i m hi => Rail.findSlot_none.mp h4 i m (hf i m hi)

theorem Rail.gateDue_false_of_blocked {r : Rail} {ls : LotStore} (h : r.secs[(5 : Sec)].cond = .blocked) :
    r.gateDue ls = false := Bool.eq_false_iff.mpr fun hd => (Rail.gateDue_iff.mp hd).2.2.1 h

theorem Rail.gateDue_false_of_move {r : Rail} {ls : LotStore} {i : Fin 3} {m : Move} (h : r.slots[i] = some m)
    (ht : m.touches 5 = true) : r.gateDue ls = false := Bool.eq_false_iff.mpr fun hd =>
  Bool.false_ne_true ((Rail.findSlot_none.mp (Rail.gateDue_iff.mp hd).2.2.2 i m h).symm.trans ht)

theorem Rail.gateDue_false_of_moving {r : Rail} {ls : LotStore} (h : r.gateMoving = true) : r.gateDue ls = false :=
  Bool.eq_false_iff.mpr fun hd => Bool.false_ne_true ((Rail.gateDue_iff.mp hd).2.1.symm.trans h)

section
variable {w : RailWork} {ls : LotStore} {i : Fin 3} {a b : Sec}

/-- The gate, its timers, its channel and the hold, which no grant of a move touches. -/
structure RailWork.GateSpared (w w' : RailWork) : Prop where
  gate  : w'.rail.gate = w.rail.gate
  timers : w'.rail.gateTimer = w.rail.gateTimer ∧ w'.rail.confirmTimer = w.rail.confirmTimer
  chan  : w'.drive.chans[(7 : Chan)] = w.drive.chans[(7 : Chan)]
  hold  : w'.rail.hold = w.rail.hold

theorem RailWork.gateSpared_grantMove (hi : w.rail.slots[i] = none) (hab : a ≠ b) : w.GateSpared (w.grantMove i a b) := by
  have h7 (k : Sec) : (7 : Chan) ≠ k.castSucc := (castSucc_ne_seven k).symm
  by_cases hl : w.drive.chans[a.castSucc].latch = none ∧ w.drive.chans[b.castSucc].latch = none
  · rw [RailWork.grantMove_accepted hab hl.1 hl.2]
    exact ⟨rfl, ⟨rfl, rfl⟩, (Drive.energise_chan_ne _ _ (h7 b)).trans (Drive.energise_chan_ne _ _ (h7 a)), rfl⟩
  · rw [RailWork.grantMove_refused hab hi hl]
    exact ⟨rfl, ⟨rfl, rfl⟩, (Drive.halt_chan_ne _ (h7 b)).trans (Drive.halt_chan_ne _ (h7 a)), rfl⟩

theorem RailWork.gateSpared_grantEject (hi : w.rail.slots[i] = none) : w.GateSpared (w.grantEject i) := by
  cases hl : w.drive.chans[(0 : Chan)].latch with
  | none =>
    rw [RailWork.grantEject_accepted hl]
    exact ⟨rfl, ⟨rfl, rfl⟩, Drive.energise_chan_ne _ _ (by decide), rfl⟩
  | some f =>
    rw [RailWork.grantEject_refused hi (by rw [hl]; rfl)]
    exact ⟨rfl, ⟨rfl, rfl⟩, rfl, rfl⟩

theorem RailWork.gateSpared_arbitrate (w : RailWork) (ls : LotStore) (n : Nat) :
    w.GateSpared (RailWork.arbitrate ls n w) :=
  RailWork.arbitrate_keeps (P := w.GateSpared)
    (fun v i a b h hf hm => by
      have h' := RailWork.gateSpared_grantMove (Rail.freeSlot_some hf).1 (ne_of_next (Rail.nextMove_some hm).2.1)
      exact ⟨h'.gate.trans h.gate, ⟨h'.timers.1.trans h.timers.1, h'.timers.2.trans h.timers.2⟩, h'.chan.trans h.chan,
        h'.hold.trans h.hold⟩)
    (fun v i h hf _ _ => by
      have h' := RailWork.gateSpared_grantEject (Rail.freeSlot_some hf).1
      exact ⟨h'.gate.trans h.gate, ⟨h'.timers.1.trans h.timers.1, h'.timers.2.trans h.timers.2⟩, h'.chan.trans h.chan,
        h'.hold.trans h.hold⟩) n ⟨rfl, ⟨rfl, rfl⟩, rfl, rfl⟩

theorem RailWork.grantMove_sec_ne (hi : w.rail.slots[i] = none) (hab : a ≠ b) {k : Sec} (ha : k ≠ a) (hb : k ≠ b) :
    (w.grantMove i a b).rail.secs[k] = w.rail.secs[k] := by
  by_cases hl : w.drive.chans[a.castSucc].latch = none ∧ w.drive.chans[b.castSucc].latch = none
  · rw [RailWork.grantMove_accepted hab hl.1 hl.2]
    exact get_set_ne _ _ hb
  · rw [RailWork.grantMove_refused hab hi hl]
    exact (get_set_ne _ _ hb).trans (get_set_ne _ _ ha)

theorem RailWork.grantEject_sec_ne (hi : w.rail.slots[i] = none) {k : Sec} (h : k ≠ 0) :
    (w.grantEject i).rail.secs[k] = w.rail.secs[k] := by
  cases hl : w.drive.chans[(0 : Chan)].latch with
  | none => rw [RailWork.grantEject_accepted hl]; rfl
  | some f =>
    rw [RailWork.grantEject_refused hi (by rw [hl]; rfl)]
    exact get_set_ne _ _ h

theorem RailWork.gateDue_grantMove (hi : w.rail.slots[i] = none) (hab : a ≠ b) (hm : w.rail.moveDue ls a b = true)
    (h : w.rail.gateDue ls = false) : (w.grantMove i a b).rail.gateDue ls = false := by
  by_cases h5 : (5 : Sec) ≠ a ∧ (5 : Sec) ≠ b
  · exact Rail.gateDue_false_of h (RailWork.gateSpared_grantMove hi hab).gate
      (RailWork.grantMove_sec_ne hi hab h5.1 h5.2) (RailWork.spares_grantMove hi hab hm).filled
  · have h5' : a = 5 ∨ b = 5 := by rw [not_and_or, not_not, not_not] at h5; exact h5.imp Eq.symm Eq.symm
    rcases RailWork.grantMove_uses (w := w) hi hab with hs | ⟨ha, hb⟩
    · exact Rail.gateDue_false_of_move hs (by rcases h5' with rfl | rfl <;> simp [Move.touches, Rail.forwardMove])
    · rcases h5' with rfl | rfl
      · exact Rail.gateDue_false_of_blocked ha
      · exact Rail.gateDue_false_of_blocked hb

theorem RailWork.gateDue_grantEject (hi : w.rail.slots[i] = none) (he : w.rail.ejectDue = true)
    (h : w.rail.gateDue ls = false) : (w.grantEject i).rail.gateDue ls = false :=
  Rail.gateDue_false_of h (RailWork.gateSpared_grantEject hi).gate (RailWork.grantEject_sec_ne hi (by decide))
    (RailWork.spares_grantEject hi he).filled

theorem RailWork.gateDue_beginGate (w : RailWork) (ls : LotStore) : (w.beginGate ls).rail.gateDue ls = false := by
  by_cases hw : w.rail.wanted ls = .opened
  · cases hl : w.drive.chans[(7 : Chan)].latch with
    | none =>
      rw [RailWork.beginGate_opening hw hl]
      exact Rail.gateDue_false_of_moving rfl
    | some f =>
      rw [RailWork.beginGate_refused hw (by rw [hl]; rfl)]
      exact Rail.gateDue_false_of_blocked (congrArg SecRec.cond (get_set_self w.rail.secs (5 : Sec) _))
  · rw [RailWork.beginGate_closing hw]
    exact Rail.gateDue_false_of_moving rfl

theorem RailWork.gateDue_arbitrate (n : Nat) (h : w.rail.gateDue ls = false) :
    (RailWork.arbitrate ls n w).rail.gateDue ls = false :=
  RailWork.arbitrate_keeps (P := fun w => w.rail.gateDue ls = false)
    (fun v i a b h hf hm => by
      obtain ⟨hdue, hb, -⟩ := Rail.nextMove_some hm
      exact RailWork.gateDue_grantMove (Rail.freeSlot_some hf).1 (ne_of_next hb) hdue h)
    (fun v i h hf _ he => RailWork.gateDue_grantEject (Rail.freeSlot_some hf).1 he h) n h

end

/-! ## The moves lie apart (R31) -/

/-- Every section that a move in flight touches is held. -/
theorem Rail.MovesApart.held {r : Rail} (h : r.MovesApart) {i : Fin 3} {m : Move} (hm : r.slots[i] = some m) :
    r.Held m.source ∧ ∀ b, m.dest = .sec b → r.Held b := by
  obtain ⟨ho, hd⟩ := h.1 i m hm
  refine ⟨.inr ⟨by rw [ho]; nofun, i, m, hm, by simp [Move.touches], fun _ => rfl⟩, fun b hb => ?_⟩
  rw [hb] at hd
  exact .inr ⟨by rw [hd.2]; nofun, i, m, hm, by simp [Move.touches, hb], fun ho => by rw [hd.2] at ho; cases ho⟩

/-- Moves that lie apart are on the same sections after whatever spares them. -/
theorem Rail.MovesApart.onSections {w w' : RailWork} (h : w.rail.MovesApart) (hs : w.Spares w') {i : Fin 3} {m : Move}
    (hm : w.rail.slots[i] = some m) : w'.rail.secs[m.source].cond = .occupied ∧ match m.dest with
      | .sec b => b.val = m.source.val + 1 ∧ w'.rail.secs[b].cond = .reserved
      | .out => m.source = 0 := by
  obtain ⟨hheld, hheld'⟩ := h.held hm
  obtain ⟨ho, hd⟩ := h.1 i m hm
  refine ⟨by rw [(hs.held _ hheld).1, ho], ?_⟩
  cases hdest : m.dest with
  | sec b =>
    rw [hdest] at hd
    exact ⟨hd.1, by rw [(hs.held _ (hheld' b hdest)).1, hd.2]⟩
  | out => rw [hdest] at hd; exact hd

theorem Rail.MovesApart.of_slots {w w' : RailWork} (h : w.rail.MovesApart) (hs : w.Spares w')
    (he : ∀ i : Fin 3, w'.rail.slots[i] = w.rail.slots[i]) : w'.rail.MovesApart :=
  ⟨fun i m hm => h.onSections hs (by rw [← he, hm]), fun i j m n hm hn => h.2 i j m n (by rw [← he, hm]) (by rw [← he, hn])⟩

/-- A move granted out of an OCCUPIED section that no other leaves lies apart from those in flight. -/
theorem Rail.MovesApart.granted {w w' : RailWork} {i : Fin 3} {x : Move} (h : w.rail.MovesApart) (hs : w.Spares w')
    (hx : w'.rail.slots[i] = some x) (he : ∀ j : Fin 3, j ≠ i → w'.rail.slots[j] = w.rail.slots[j])
    (hfree : ∀ (j : Fin 3) (m : Move), w.rail.slots[j] = some m → m.source ≠ x.source)
    (hsec : w'.rail.secs[x.source].cond = .occupied ∧ match x.dest with
      | .sec b => b.val = x.source.val + 1 ∧ w'.rail.secs[b].cond = .reserved
      | .out => x.source = 0) : w'.rail.MovesApart := by
  refine ⟨fun j m hm => ?_, fun j k m n hm hn hmn => ?_⟩
  · by_cases hj : j = i
    · subst hj
      rw [hx] at hm; cases hm
      exact hsec
    · exact h.onSections hs (by rw [← he j hj, hm])
  · by_cases hj : j = i
    · by_cases hk : k = i
      · rw [hj, hk]
      · subst hj
        rw [hx] at hm; cases hm
        exact absurd hmn.symm (hfree k n (by rw [← he k hk, hn]))
    · by_cases hk : k = i
      · subst hk
        rw [hx] at hn; cases hn
        exact absurd hmn (hfree j m (by rw [← he j hj, hm]))
      · exact h.2 j k m n (by rw [← he j hj, hm]) (by rw [← he k hk, hn]) hmn

section
variable {w : RailWork} {ls : LotStore} {i : Fin 3} {a b : Sec}

theorem RailWork.movesApart_grantMove (hi : w.rail.slots[i] = none) (hb : b.val = a.val + 1)
    (hm : w.rail.moveDue ls a b = true) (h : w.rail.MovesApart) : (w.grantMove i a b).rail.MovesApart := by
  have hab := ne_of_next hb
  have hs := RailWork.spares_grantMove hi hab hm
  obtain ⟨ho, hfree, -⟩ := Rail.moveDue_iff.mp hm
  by_cases hl : w.drive.chans[a.castSucc].latch = none ∧ w.drive.chans[b.castSucc].latch = none
  · rw [RailWork.grantMove_accepted hab hl.1 hl.2] at hs ⊢
    refine h.granted hs (get_set_self ..) (fun j hj => get_set_ne _ _ hj) hfree ⟨?_, hb, congrArg SecRec.cond (get_set_self ..)⟩
    exact (congrArg SecRec.cond (get_set_ne _ _ hab)).trans ho
  · rw [RailWork.grantMove_refused hab hi hl] at hs ⊢
    exact h.of_slots hs fun _ => rfl

theorem RailWork.movesApart_grantEject (hi : w.rail.slots[i] = none) (he : w.rail.ejectDue = true)
    (h : w.rail.MovesApart) : (w.grantEject i).rail.MovesApart := by
  have hs := RailWork.spares_grantEject hi he
  obtain ⟨-, ho, hfree⟩ := Rail.ejectDue_iff.mp he
  cases hl : w.drive.chans[(0 : Chan)].latch with
  | none =>
    rw [RailWork.grantEject_accepted hl] at hs ⊢
    exact h.granted hs (get_set_self ..) (fun j hj => get_set_ne _ _ hj) hfree ⟨ho, rfl⟩
  | some f =>
    rw [RailWork.grantEject_refused hi (by rw [hl]; rfl)] at hs ⊢
    exact h.of_slots hs fun _ => rfl

theorem RailWork.movesApart_arbitrate (n : Nat) (h : w.rail.MovesApart) : (RailWork.arbitrate ls n w).rail.MovesApart :=
  RailWork.arbitrate_keeps (P := fun w => w.rail.MovesApart)
    (fun v i a b h hf hm => by
      obtain ⟨hdue, hb, -⟩ := Rail.nextMove_some hm
      exact RailWork.movesApart_grantMove (Rail.freeSlot_some hf).1 hb hdue h)
    (fun v i h hf _ he => RailWork.movesApart_grantEject (Rail.freeSlot_some hf).1 he h) n h

@[simp] theorem RailWork.beginGate_slots (w : RailWork) (ls : LotStore) : (w.beginGate ls).rail.slots = w.rail.slots := by
  by_cases hw : w.rail.wanted ls = .opened
  · cases hl : w.drive.chans[(7 : Chan)].latch with
    | none => rw [RailWork.beginGate_opening hw hl]; rfl
    | some f => rw [RailWork.beginGate_refused hw (by rw [hl]; rfl)]
  · rw [RailWork.beginGate_closing hw]; rfl

theorem RailWork.movesApart_settle (h : w.rail.MovesApart) : (w.settle ls).rail.MovesApart := by
  by_cases hh : w.rail.hold = .none
  · rw [RailWork.settle_free w ls hh]
    split_ifs with hg
    · exact RailWork.movesApart_arbitrate _ (h.of_slots (RailWork.spares_beginGate hg) fun j => by rw [RailWork.beginGate_slots])
    · exact RailWork.movesApart_arbitrate _ h
  · rw [RailWork.settle_held w ls hh]
    refine h.of_slots w.spares_holdTest fun j => ?_
    rcases w.holdTest_cases with ⟨e, -⟩ | ⟨-, -, -, e⟩ <;> rw [e]

end

/-- Moves that lie apart share no channel: a channel is a section's, and each section is left or reached by one move. -/
theorem Rail.MovesApart.channelsApart {r : Rail} (h : r.MovesApart) : r.ChannelsApart := by
  have hends {i : Fin 3} {m : Move} {c : Chan} (hm : r.slots[i] = some m) (hc : c ∈ m.chans) :
      c = m.source.castSucc ∨ ∃ b : Sec, c = b.castSucc ∧ b.val = m.source.val + 1 ∧ r.secs[b].cond = .reserved := by
    obtain ⟨-, hd⟩ := h.1 i m hm
    unfold Move.chans at hc
    cases hdest : m.dest with
    | sec b =>
      rw [hdest] at hc hd
      rcases List.mem_cons.mp hc with rfl | hc
      · exact .inl rfl
      · rw [List.mem_singleton.mp hc]
        exact .inr ⟨b, rfl, hd⟩
    | out =>
      rw [hdest] at hc
      exact .inl (List.mem_singleton.mp hc)
  intro i j m n hm hn ⟨c, hcm, hcn⟩
  refine h.2 i j m n hm hn ?_
  have hom := (h.1 i m hm).1
  have hon := (h.1 j n hn).1
  have clash {k l : Sec} (e : k.castSucc = l.castSucc) (ho : r.secs[k].cond = .occupied) (hr : r.secs[l].cond = .reserved) :
      False := by
    have : k = l := Fin.castSucc_injective _ e
    subst this
    rw [ho] at hr; cases hr
  rcases hends hm hcm with e | ⟨b, e, hb, hrb⟩ <;> rcases hends hn hcn with e' | ⟨d, e', hd, hrd⟩
  · exact Fin.castSucc_injective _ (e.symm.trans e')
  · exact (clash (e.symm.trans e') hom hrd).elim
  · exact (clash (e'.symm.trans e) hon hrb).elim
  · have hbd : b = d := Fin.castSucc_injective _ (e.symm.trans e')
    subst hbd
    exact Fin.ext (by omega)

/-- Settles O19: under a hold the examination is the hold's own test; without one the gate operation that is due has begun or
stalled, and the arbiter has come to its end. -/
theorem arbiterLeavesNothingEligible : Obligations.ArbiterLeavesNothingEligible := by
  intro s
  refine ⟨fun hh => ?_, fun hh => ?_, fun h => ?_⟩
  · rw [State.settle_rail, State.settle_drive, RailWork.settle_held s.work s.lots hh]
    rcases s.work.holdTest_cases with ⟨e, hno⟩ | ⟨hp, hm, hg, e⟩
    · rw [e]
      refine ⟨rfl, rfl, fun hheld => .inl hheld, fun h => h.elim id fun ⟨hm, hg⟩ => ?_⟩
      cases hhold : s.rail.hold with
      | none => exact absurd hhold hh
      | pending => exact absurd ⟨hhold, hm, hg⟩ hno
      | held => exact hhold
    · rw [e]
      exact ⟨rfl, rfl, fun _ => .inr ⟨hm, hg⟩, fun _ => rfl⟩
  · rw [State.settle_rail, RailWork.settle_free s.work s.lots hh]
    refine ⟨RailWork.arbitrate_leaves_idle 10 (Rail.room_le _), RailWork.gateDue_arbitrate 10 ?_⟩
    split_ifs with hg
    · exact RailWork.gateDue_beginGate ..
    · exact Bool.eq_false_iff.mpr hg
  · have hset : s.settle.rail.MovesApart := RailWork.movesApart_settle (w := s.work) h
    exact ⟨hset, hset.channelsApart⟩

end Sys2Proof.Machine

/-!
The grants of the arbiter, move by move (R29, R31, R32), and the expiry of a move's limit timer (R43).
-/

namespace Sys2Proof.Machine

/-! ## The events a rail operation notes -/

/-- A yard event is noted. -/
def RailWork.Noted (w : RailWork) (e : Event) : Prop := w.raised ||| e.mask = w.raised

theorem RailWork.noted_note (w : RailWork) (e : Event) : (w.note e).Noted e := by
  simp only [RailWork.Noted, RailWork.note, BitVec.or_assoc, BitVec.or_self]

theorem RailWork.Spares.noted {w w' : RailWork} (h : w.Spares w') {e : Event} (hn : w.Noted e) : w'.Noted e := by
  unfold RailWork.Noted at hn ⊢
  calc w'.raised ||| e.mask = w'.raised ||| w.raised ||| e.mask := by rw [h.raised]
    _ = w'.raised ||| (w.raised ||| e.mask) := BitVec.or_assoc ..
    _ = w'.raised := by rw [hn, h.raised]

theorem Event.and_mask_of_noted {b : Byte} {e : Event} (h : b ||| e.mask = b) : b &&& e.mask ≠ 0 := by
  have hm : (b ||| e.mask) &&& e.mask = e.mask := by
    ext i hi
    cases he : e.mask[i] <;> simp [he]
  rw [← h, hm]
  cases e <;> decide

theorem State.onRail_port_yard (s : State) (f : RailWork → RailWork) :
    (s.onRail f).port .yard = (s.port .yard).raiseBits (f s.work).raised := State.port_setPort_self ..

/-- An event held before a rail operation is held after it. -/
theorem State.onRail_holds {s : State} {e : Event} (f : RailWork → RailWork) (h : s.holds e = true) :
    (s.onRail f).holds e = true := by
  by_cases hr : e.role = .yard
  · rw [State.holds, hr] at h ⊢
    rw [State.onRail_port_yard, Port.raiseBits]
    simp only [bne_iff_ne, ne_eq] at h ⊢
    intro hz
    rw [BitVec.and_or_distrib_right] at hz
    exact h (BitVec.or_eq_zero_iff.mp hz).1
  · have hp : (s.onRail f).port e.role = s.port e.role := State.port_setPort_ne _ _ (Ne.symm hr)
    rw [State.holds, hp]; exact h

/-- An event that a rail operation notes is held after it. -/
theorem State.onRail_holds_noted {s : State} {e : Event} (hr : e.role = .yard) {f : RailWork → RailWork}
    (h : (f s.work).Noted e) : (s.onRail f).holds e = true := by
  have hb : (s.port .yard).events ||| (f s.work).raised ||| e.mask = (s.port .yard).events ||| (f s.work).raised := by
    rw [BitVec.or_assoc, h]
  rw [State.holds, hr, State.onRail_port_yard, Port.raiseBits]
  simpa using Event.and_mask_of_noted hb

theorem State.settle_holds {s : State} {e : Event} (h : s.holds e = true) : s.settle.holds e = true := State.onRail_holds _ h

theorem State.railDone_holds {s b : State} {e : Event} (h : s.holds e = true) : (s.railDone b).holds e = true := by
  have hw : (s.settle.wantSince b).holds e = true := by
    rcases s.settle.wantSince_cases b with h' | h'
    · rw [h']; exact State.settle_holds h
    · rw [h']; exact State.holds_raise _ _ _ (State.settle_holds h)
  rw [State.railDone, State.reface_holds]
  exact hw

/-! ## One round of the arbiter -/

section
variable {w : RailWork} {ls : LotStore} {i : Fin 3} {a b : Sec}

/-- No move becomes eligible by a grant. -/
theorem Rail.moveDue_of_spares {w' : RailWork} (h : w.Spares w') (hg : w'.rail.gate = w.rail.gate)
    (hd : w'.rail.moveDue ls a b = true) : w.rail.moveDue ls a b = true := by
  obtain ⟨ho, hfree, hcan, hc, h5⟩ := Rail.moveDue_iff.mp hd
  have ha := (h.secs a).occupied_before ho
  have hb := (h.secs b).clear_before hc
  refine Rail.moveDue_iff.mpr ⟨ha ▸ ho, fun j m hm => hfree j m (h.filled j m hm), ?_, hb ▸ hc, hg ▸ h5⟩
  rwa [Rail.holdsTrain_congr ha, Rail.holdsTrain_congr ha, hg] at hcan

theorem Rail.nextMove_none_of_spares {w' : RailWork} (h : w.Spares w') (hg : w'.rail.gate = w.rail.gate)
    (hn : w.rail.nextMove ls = none) : w'.rail.nextMove ls = none :=
  Rail.nextMove_eq_none.mpr fun a b hb => Bool.eq_false_iff.mpr fun hd =>
    Bool.eq_false_iff.mp (Rail.nextMove_eq_none.mp hn a b hb) (Rail.moveDue_of_spares h hg hd)

theorem RailWork.arbitrate_move (n : Nat) (hf : w.rail.freeSlot = some i) (hm : w.rail.nextMove ls = some (a, b)) :
    RailWork.arbitrate ls (n + 1) w = RailWork.arbitrate ls n (w.grantMove i a b) := by
  simp only [RailWork.arbitrate, hf, hm]

theorem RailWork.arbitrate_eject (n : Nat) (hf : w.rail.freeSlot = some i) (hm : w.rail.nextMove ls = none)
    (he : w.rail.ejectDue = true) : RailWork.arbitrate ls (n + 1) w = RailWork.arbitrate ls n (w.grantEject i) := by
  simp only [RailWork.arbitrate, hf, hm, he, if_true]

/-- An eject is the last grant of an examination. -/
theorem RailWork.arbitrate_eject_last (n : Nat) (hf : w.rail.freeSlot = some i) (hm : w.rail.nextMove ls = none)
    (he : w.rail.ejectDue = true) : RailWork.arbitrate ls (n + 1) w = w.grantEject i := by
  obtain ⟨hi, -⟩ := Rail.freeSlot_some hf
  have hn := Rail.nextMove_none_of_spares (RailWork.spares_grantEject hi he) (RailWork.gateSpared_grantEject hi).gate hm
  have hp : (w.grantEject i).rail.ejectPending = false := by
    cases hl : w.drive.chans[(0 : Chan)].latch with
    | none => rw [RailWork.grantEject_accepted hl]; rfl
    | some f => rw [RailWork.grantEject_refused hi (by rw [hl]; rfl)]
  rw [RailWork.arbitrate_eject n hf hm he, RailWork.arbitrate_idle hn (by rw [Rail.ejectDue, hp]; rfl)]

/-- The first grant of an examination with no gate operation due. -/
theorem RailWork.settle_arbitrates (hh : w.rail.hold = .none) (hg : w.rail.gateDue ls = false) :
    w.settle ls = RailWork.arbitrate ls 10 w := by
  rw [RailWork.settle_free w ls hh, hg]; rfl

/-- A move in flight after a grant was in flight before it, or is the one granted. -/
theorem RailWork.grantMove_slot (hi : w.rail.slots[i] = none) (hab : a ≠ b) {j : Fin 3} {m : Move}
    (hm : (w.grantMove i a b).rail.slots[j] = some m) : w.rail.slots[j] = some m ∨ m = w.rail.forwardMove a b := by
  by_cases hl : w.drive.chans[a.castSucc].latch = none ∧ w.drive.chans[b.castSucc].latch = none
  · rw [RailWork.grantMove_accepted hab hl.1 hl.2] at hm
    by_cases hj : j = i
    · subst hj
      exact .inr (Option.some.inj ((get_set_self ..).symm.trans hm)).symm
    · exact .inl ((get_set_ne _ _ hj).symm.trans hm)
  · rw [RailWork.grantMove_refused hab hi hl] at hm
    exact .inl hm

theorem RailWork.grantEject_slot (hi : w.rail.slots[i] = none) {j : Fin 3} {m : Move}
    (hm : (w.grantEject i).rail.slots[j] = some m) : w.rail.slots[j] = some m ∨ m = w.rail.ejectMove := by
  cases hl : w.drive.chans[(0 : Chan)].latch with
  | none =>
    rw [RailWork.grantEject_accepted hl] at hm
    by_cases hj : j = i
    · subst hj
      exact .inr (Option.some.inj ((get_set_self ..).symm.trans hm)).symm
    · exact .inl ((get_set_ne _ _ hj).symm.trans hm)
  | some f =>
    rw [RailWork.grantEject_refused hi (by rw [hl]; rfl)] at hm
    exact .inl hm

/-- After a grant that is refused, no move of the slot leaves a section of it. -/
theorem RailWork.slot_after_refusal {v : RailWork} (ha : v.rail.secs[a].cond = .blocked)
    (hb : v.rail.secs[b].cond = .blocked) (hi : v.rail.slots[i] = none) (n : Nat) (m : Move)
    (hm : (RailWork.arbitrate ls n v).rail.slots[i] = some m) : m.source ≠ a ∧ m.source ≠ b := by
  have hblocked {k : Sec} (hk : k = a ∨ k = b) : v.rail.secs[k].cond = .blocked := by rcases hk with rfl | rfl <;> assumption
  have hsource {w : RailWork} (hw : v.Spares w) {k : Sec} (ho : w.rail.secs[k].cond = .occupied) : k ≠ a ∧ k ≠ b := by
    refine not_or.mp fun hk => ?_
    rw [hw.blocked_after (hblocked hk)] at ho; cases ho
  refine (RailWork.arbitrate_keeps (ls := ls) (P := fun w => v.Spares w ∧ ∀ m, w.rail.slots[i] = some m →
    m.source ≠ a ∧ m.source ≠ b) (fun w j c d hw hf hmv => ?_) (fun w j hw hf _ he => ?_) n
    ⟨.refl v, fun m hm => by rw [hi] at hm; cases hm⟩).2 m hm
  · obtain ⟨hdue, hd, -⟩ := Rail.nextMove_some hmv
    obtain ⟨hj, -⟩ := Rail.freeSlot_some hf
    refine ⟨hw.1.trans (RailWork.spares_grantMove hj (ne_of_next hd) hdue), fun m hm => ?_⟩
    rcases RailWork.grantMove_slot hj (ne_of_next hd) hm with hm | rfl
    · exact hw.2 m hm
    · exact hsource hw.1 (Rail.moveDue_iff.mp hdue).1
  · obtain ⟨hj, -⟩ := Rail.freeSlot_some hf
    refine ⟨hw.1.trans (RailWork.spares_grantEject hj he), fun m hm => ?_⟩
    rcases RailWork.grantEject_slot hj hm with hm | rfl
    · exact hw.2 m hm
    · exact hsource hw.1 (Rail.ejectDue_iff.mp he).2.1

end

/-! ## What an energise request leaves -/

theorem Dir.output_eq (d : Dir) : d.output = if d = .forward then .forward else .reverse := by cases d <;> rfl

/-- A channel at rest runs in the direction asked. -/
theorem Channel.energise_rest {c : Channel} (d : Dir) (hl : c.latch = none) (ho : c.output = .off) (ht : c.turn = none) :
    (c.energise d).1.output = (if d = .forward then .forward else .reverse) ∧ (c.energise d).1.rest = .opened := by
  rw [Channel.energise_off hl ht ho]
  exact ⟨d.output_eq, rfl⟩

theorem Channel.halt_output {c : Channel} (h : c.latch = none) : c.halt.output = .off := by rw [Channel.halt_free h]
theorem Channel.halt_turn {c : Channel} (h : c.latch = none) : c.halt.turn = none := by rw [Channel.halt_free h]

/-! ## The obligation -/

/-- A refused grant of a forward move holds both its sections. -/
theorem RailWork.refused_facts {w : RailWork} {i : Fin 3} {a b : Sec} (hi : w.rail.slots[i] = none) (hab : a ≠ b)
    (h : ¬ (w.drive.chans[a.castSucc].latch = none ∧ w.drive.chans[b.castSucc].latch = none)) :
    (w.grantMove i a b).rail.secs[a] = { w.rail.secs[a] with cond := .blocked } ∧
    (w.grantMove i a b).rail.secs[b] = { w.rail.secs[b] with cond := .blocked, occupant := none } ∧
    (w.grantMove i a b).rail.stalls[a] =
      some { train := w.rail.secs[a].occupant, dest := some (.sec b), cause := .driveFault } ∧
    (w.grantMove i a b).drive.chans[a.castSucc] = w.drive.chans[a.castSucc].halt ∧
    (w.grantMove i a b).drive.chans[b.castSucc] = w.drive.chans[b.castSucc].halt ∧
    (w.grantMove i a b).rail.slots[i] = none ∧ (w.grantMove i a b).Noted .stall := by
  rw [RailWork.grantMove_refused hab hi h]
  refine ⟨(get_set_ne _ _ hab).trans (get_set_self ..), get_set_self .., get_set_self .., ?_, ?_, hi, ?_⟩
  · exact (Drive.halt_chan_ne _ (castSucc_ne hab)).trans (Drive.halt_chan_self ..)
  · rw [Drive.halt_chan_self, Drive.halt_chan_ne _ (castSucc_ne hab).symm]
  · simp only [RailWork.Noted, BitVec.or_assoc, BitVec.or_self]

/-- Settles O20: the first grant of the examination, and what the rest of it spares. -/
theorem arbiterGrantsHighestMove : Obligations.ArbiterGrantsHighestMove := by
  intro s i hh hg hf asked
  obtain ⟨hi, hlow⟩ := Rail.freeSlot_some hf
  have hset : s.work.settle s.lots = RailWork.arbitrate s.lots 10 s.work := RailWork.settle_arbitrates hh hg
  have hasked {c : Chan} {d : Dir} (hl : s.drive.chans[c].latch = none)
      (he : s.settle.drive.chans[c] = (s.drive.chans[c].energise d).1) : asked c d :=
    ⟨he, fun ho ht => he ▸ Channel.energise_rest d hl ho ht⟩
  refine ⟨fun a b hm hla hlb => ?_, fun a b hm hl => ?_, fun hm he hl => ?_, fun hm he hl => ?_⟩
  · obtain ⟨hdue, hb, hhigh⟩ := Rail.nextMove_some hm
    have hab := ne_of_next hb
    have hstep := hset.trans (RailWork.arbitrate_move 9 (w := s.work) hf hm)
    have hsp := RailWork.spares_arbitrate (s.work.grantMove i a b) s.lots 9
    rw [← hstep, RailWork.grantMove_accepted (w := s.work) hab hla hlb] at hsp
    have hslot : (s.work.asked i a b).rail.slots[i] = some (s.rail.forwardMove a b) := get_set_self ..
    have hsecb : (s.work.asked i a b).rail.secs[b] = { s.rail.secs[b] with cond := .reserved, occupant := none } :=
      get_set_self ..
    have hseca : (s.work.asked i a b).rail.secs[a] = s.rail.secs[a] := get_set_ne _ _ hab
    have hocc := (Rail.moveDue_iff.mp hdue).1
    have hheld {k : Sec} (hk : k = a ∨ k = b) : (s.work.asked i a b).rail.Held k := by
      refine .inr ⟨?_, i, _, hslot, ?_, fun ho => ?_⟩
      · rcases hk with rfl | rfl
        · rw [hseca, hocc]; nofun
        · rw [hsecb]; nofun
      · rcases hk with rfl | rfl <;> simp [Move.touches, Rail.forwardMove]
      · rcases hk with rfl | rfl
        · rfl
        · rw [hsecb] at ho; cases ho
    obtain ⟨-, -, hca⟩ := hsp.held a (hheld (.inl rfl))
    obtain ⟨hsb, -, hcb⟩ := hsp.held b (hheld (.inr rfl))
    refine ⟨hlow, hhigh, hsp.filled i _ hslot, ?_, ?_, hasked hla (hca.trans ?_), hasked hlb (hcb.trans ?_)⟩
    · exact congrArg SecRec.cond (hsb.trans hsecb)
    · exact congrArg SecRec.occupant (hsb.trans hsecb)
    · exact (Drive.energise_chan_ne _ _ (castSucc_ne hab)).trans (Drive.energise_chan_self ..)
    · refine (Drive.energise_chan_self ..).trans ?_
      rw [Drive.energise_chan_ne _ _ (castSucc_ne hab).symm]; rfl
  · obtain ⟨hdue, hb, -⟩ := Rail.nextMove_some hm
    have hab := ne_of_next hb
    have hl' : ¬ (s.drive.chans[a.castSucc].latch = none ∧ s.drive.chans[b.castSucc].latch = none) := by
      rintro ⟨ha, hb⟩
      rcases hl with h | h
      · rw [ha] at h; cases h
      · rw [hb] at h; cases h
    have hstep := hset.trans (RailWork.arbitrate_move 9 (w := s.work) hf hm)
    have hsp := RailWork.spares_arbitrate (s.work.grantMove i a b) s.lots 9
    rw [← hstep] at hsp
    obtain ⟨hsa, hsb, hst, hca, hcb, hsl, hn⟩ := RailWork.refused_facts (w := s.work) hi hab hl'
    obtain ⟨ha1, ha2, ha3⟩ := hsp.held a (.inl (by rw [hsa]))
    obtain ⟨hb1, -, hb3⟩ := hsp.held b (.inl (by rw [hsb]))
    refine ⟨ha2.trans hst, congrArg SecRec.cond (ha1.trans hsa), (congrArg SecRec.occupant (ha1.trans hsa)).trans rfl,
      congrArg SecRec.cond (hb1.trans hsb), congrArg SecRec.occupant (hb1.trans hsb), fun c hc => ?_,
      State.onRail_holds_noted rfl (hsp.noted hn), fun m hm' => ?_⟩
    · have hchan : s.settle.drive.chans[c] = s.drive.chans[c].halt := by
        rcases List.mem_cons.mp hc with rfl | hc
        · exact ha3.trans hca
        · rw [List.mem_singleton.mp hc]; exact hb3.trans hcb
      exact ⟨hchan, fun hn => by rw [hchan, Channel.halt_output hn]⟩
    · refine RailWork.slot_after_refusal (ls := s.lots) (congrArg SecRec.cond hsa) (congrArg SecRec.cond hsb) hsl 9 m ?_
      rw [← hstep]; exact hm'
  · have hstep := hset.trans (RailWork.arbitrate_eject_last 9 (w := s.work) hf hm he)
    rw [RailWork.grantEject_refused (w := s.work) hi hl] at hstep
    rw [State.settle_rail, State.settle_drive, hstep]
    have hnoted : (s.work.settle s.lots).Noted .stall := by
      rw [hstep]
      simp only [RailWork.Noted, BitVec.or_assoc, BitVec.or_self]
    refine ⟨get_set_self s.rail.stalls (0 : Sec) _, congrArg SecRec.cond (get_set_self s.rail.secs (0 : Sec) _),
      (congrArg SecRec.occupant (get_set_self s.rail.secs (0 : Sec) _)).trans rfl, rfl, rfl, rfl,
      State.onRail_holds_noted rfl hnoted, rfl⟩
  · have hstep := hset.trans (RailWork.arbitrate_eject_last 9 (w := s.work) hf hm he)
    rw [RailWork.grantEject_accepted (w := s.work) hl] at hstep
    have hchan : s.settle.drive.chans[(0 : Chan)] = (s.drive.chans[(0 : Chan)].energise .reverse).1 := by
      rw [State.settle_drive, hstep]; exact Drive.energise_chan_self ..
    refine ⟨hlow, ?_, ?_, ?_, hasked hl hchan⟩
    · rw [State.settle_rail, hstep]; exact get_set_self ..
    · rw [State.settle_rail, hstep]; rfl
    · rw [State.settle_rail, hstep]; rfl

end Sys2Proof.Machine

/-!
Stalls (R43 to R45) and the gate's operations (R36, R37): the expiry of a move's limit timer and the ends of a gate operation.
-/

namespace Sys2Proof.Machine

/-! ## A stalled move's sections -/

section
variable (r : Rail) {m : Move}

theorem Rail.stalledSecs_forward {b : Sec} (h : m.dest = .sec b) :
    r.stalledSecs m = ((r.blockWith m.source m.train).blockWith b none).secs := by unfold Rail.stalledSecs; rw [h]
theorem Rail.stalledSecs_eject (h : m.dest = .out) : r.stalledSecs m = (r.block m.source).secs := by
  unfold Rail.stalledSecs; rw [h]

theorem Rail.blockWith_self (k : Sec) (t : Option Nat) :
    (r.blockWith k t).secs[k] = { r.secs[k] with cond := .blocked, occupant := t } := Rail.onSec_self ..
theorem Rail.blockWith_ne {k j : Sec} (t : Option Nat) (h : j ≠ k) : (r.blockWith k t).secs[j] = r.secs[j] :=
  Rail.onSec_ne _ _ h
theorem Rail.block_self (k : Sec) : (r.block k).secs[k] = { r.secs[k] with cond := .blocked } := Rail.onSec_self ..
theorem Rail.block_ne {k j : Sec} (h : j ≠ k) : (r.block k).secs[j] = r.secs[j] := Rail.onSec_ne _ _ h

theorem Rail.stalledSecs_source (hd : ∀ b, m.dest = .sec b → m.source ≠ b) :
    (r.stalledSecs m)[m.source].cond = .blocked ∧
    (∀ b, m.dest = .sec b → (r.stalledSecs m)[m.source].occupant = m.train) ∧
    (m.dest = .out → (r.stalledSecs m)[m.source].occupant = r.secs[m.source].occupant) := by
  cases h : m.dest with
  | sec b =>
    rw [Rail.stalledSecs_forward _ h, Rail.blockWith_ne _ _ (hd b h), Rail.blockWith_self]
    exact ⟨rfl, fun _ _ => rfl, nofun⟩
  | out =>
    rw [Rail.stalledSecs_eject _ h, Rail.block_self]
    exact ⟨rfl, nofun, fun _ => rfl⟩

theorem Rail.stalledSecs_dest {b : Sec} (h : m.dest = .sec b) :
    (r.stalledSecs m)[b].cond = .blocked ∧ (r.stalledSecs m)[b].occupant = none := by
  rw [Rail.stalledSecs_forward _ h, Rail.blockWith_self]
  exact ⟨rfl, rfl⟩

theorem Rail.stalledSecs_ne {k : Sec} (hs : k ≠ m.source) (hd : ∀ b, m.dest = .sec b → k ≠ b) :
    (r.stalledSecs m)[k] = r.secs[k] := by
  cases h : m.dest with
  | sec b => rw [Rail.stalledSecs_forward _ h, Rail.blockWith_ne _ _ (hd b h), Rail.blockWith_ne _ _ hs]
  | out => rw [Rail.stalledSecs_eject _ h, Rail.block_ne _ hs]

end

/-- The record of a move's stall, its BLOCKED sections and its free slot, in a state of the rail. -/
structure Rail.Stalled (r : Rail) (m : Move) (cause : Cause) : Prop where
  record : r.stalls[m.source] = some { train := m.train, dest := some m.dest, cause := cause }
  source : r.secs[m.source].cond = .blocked
  dest   : ∀ b, m.dest = .sec b →
    r.secs[m.source].occupant = m.train ∧ r.secs[b].cond = .blocked ∧ r.secs[b].occupant = none

theorem Rail.Stalled.spared {w w' : RailWork} {m : Move} {cause : Cause} (h : w.rail.Stalled m cause) (hs : w.Spares w') :
    w'.rail.Stalled m cause := by
  obtain ⟨hsec, hstall, -⟩ := hs.held m.source (.inl h.source)
  refine ⟨hstall.trans h.record, by rw [hsec, h.source], fun b hb => ?_⟩
  obtain ⟨ho, hc, hn⟩ := h.dest b hb
  obtain ⟨hsecb, -, -⟩ := hs.held b (.inl hc)
  exact ⟨by rw [hsec, ho], by rw [hsecb, hc], by rw [hsecb, hn]⟩

section
variable {w : RailWork} {i : Fin 3} {m : Move} (cause : Cause) (h : w.rail.slots[i] = some m)
include h

theorem RailWork.stallMove_stalled (hd : ∀ b, m.dest = .sec b → m.source ≠ b) :
    (w.stallMove i cause).rail.Stalled m cause := by
  rw [RailWork.stallMove_eq cause h]
  obtain ⟨hc, ho, -⟩ := w.rail.stalledSecs_source hd
  exact ⟨get_set_self .., hc, fun b hb => ⟨ho b hb, w.rail.stalledSecs_dest hb⟩⟩

theorem RailWork.stallMove_slot : (w.stallMove i cause).rail.slots[i] = none := by
  rw [RailWork.stallMove_eq cause h]
  exact get_set_self ..

theorem RailWork.stallMove_noted : (w.stallMove i cause).Noted .stall := by
  rw [RailWork.stallMove_eq cause h]
  simp only [RailWork.Noted, BitVec.or_assoc, BitVec.or_self]

end

theorem RailWork.stallGate_noted (w : RailWork) (cause : Cause) : (w.stallGate cause).Noted .stall := by
  rw [RailWork.stallGate_eq]
  simp only [RailWork.Noted, BitVec.or_assoc, BitVec.or_self]

/-! ## Records after a rail event -/

/-- The events noted are taken to the port, and nothing else of the rail or the Drive Unit changes. -/
theorem RailWork.Spares.quiet {w w' : RailWork} (h : w.Spares w') (hw : w.raised = 0) : w.Spares { w' with raised := 0 } :=
  { h with raised := by rw [hw]; exact BitVec.or_self }

/-- What the examination that ends an event spares of the rail (R30). -/
theorem State.railDone_spares (s b : State) : s.work.Spares (s.railDone b).work := by
  have hs := RailWork.spares_settle s.work s.lots
  have e : (s.railDone b).work = { s.work.settle s.lots with raised := 0 } :=
    RailWork.eq_of (s.railDone_rail b) (s.railDone_drive b) rfl
  rw [e]
  exact hs.quiet rfl

theorem Rail.Stalled.railDone {s : State} {m : Move} {cause : Cause} (h : s.rail.Stalled m cause) (b : State) :
    (s.railDone b).rail.Stalled m cause := Rail.Stalled.spared (w := s.work) (w' := (s.railDone b).work) h (s.railDone_spares b)

theorem State.limitTimer_of_slot {s : State} {i : Fin 3} {m : Move} (h : s.rail.slots[i] = some m) :
    s.rail.limitTimer i = some m.left := by rw [Rail.limitTimer, h]; rfl

theorem Rail.after_slot (r : Rail) (n : Nat) (i : Fin 3) :
    (r.after n).slots[i] = (r.slots[i]).map fun m => { m with left := m.left - n } := by simp [Rail.after]

/-- Settles O22: the time left passes, the move stalls, and the examination that follows spares what the stall left. -/
theorem moveLimitExpiryStalls : Obligations.MoveLimitExpiryStalls := by
  intro s i m hm hd
  refine ⟨_, congrArg Host.Outcome.next (s.expire_of_eq_some _ (State.limitTimer_of_slot hm)), ?_⟩
  have hslot : (s.elapse m.left).work.rail.slots[i] = some { m with left := m.left - m.left } := by
    refine (Rail.after_slot ..).trans ?_
    rw [hm]; rfl
  have hst : ((s.elapse m.left).onRail fun w => w.stallMove i .timeout).rail.Stalled
      { m with left := m.left - m.left } .timeout :=
    RailWork.stallMove_stalled .timeout hslot fun b hb => ne_of_next (hd b hb)
  obtain ⟨hrec, hsrc, hdest⟩ := hst.railDone s
  refine ⟨hrec, hsrc, hdest, State.railDone_holds (State.onRail_holds_noted rfl (RailWork.stallMove_noted .timeout hslot)),
    ?_, ?_, ?_⟩
  all_goals simp

/-! ## Gate operations -/

/-- A gate operation that is due begins, and the arbiter spares it. -/
theorem State.settle_gate {s : State} (hh : s.rail.hold = .none) (hg : s.rail.gateDue s.lots = true) :
    (s.work.beginGate s.lots).GateSpared (s.work.settle s.lots) ∧ (s.work.beginGate s.lots).Spares (s.work.settle s.lots) := by
  have hset : s.work.settle s.lots = RailWork.arbitrate s.lots 10 (s.work.beginGate s.lots) := by
    rw [RailWork.settle_free s.work s.lots hh]
    exact congrArg _ (if_pos hg)
  rw [hset]
  exact ⟨RailWork.gateSpared_arbitrate .., RailWork.spares_arbitrate ..⟩

theorem Rail.gateMoving_false {r : Rail} (h : r.gateMoving = false) : r.gate ≠ .opening ∧ r.gate ≠ .closing := by
  simpa [Rail.gateMoving] using h

/-- A change of the rail is told by the record it leaves. -/
theorem State.mapRail_congr {s : State} {f g : Rail → Rail} (h : f s.rail = g s.rail) : s.mapRail f = s.mapRail g := by
  simp only [State.mapRail, h]

theorem State.gateTest_completes {s : State} (hs : s.rail.gateSeen s.inputs = true) (ht : s.rail.gateTimer = none) :
    s.gateTest = s.mapRail Rail.completeGate := if_pos ⟨hs, ht⟩

theorem State.gateTest_waits {s : State} (hs : s.rail.gateSeen s.inputs = false) : s.gateTest = s :=
  if_neg fun h => Bool.false_ne_true (hs.symm.trans h.1)

theorem Rail.gateSeen_still {r : Rail} {i : Inputs} (h : r.gateMoving = false) : r.gateSeen i = false := by
  obtain ⟨ho, hc⟩ := Rail.gateMoving_false h
  unfold Rail.gateSeen
  split
  · exact absurd ‹_› ho
  · exact absurd ‹_› hc
  · rfl

/-- A gate sensor's edge, where the level changes. -/
theorem exec_gateSensorEdge {s : State} {g : GateSensor} {level : Bool} (h : s.inputs.gateSensor g ≠ level) :
    exec (.gateSensorEdge g level) s = .next ((s.setGateSensor g level).gateTest.railDone s) := by
  show execGateSensorEdge g level s = _
  rw [execGateSensorEdge, if_neg h]

@[simp] theorem State.setGateSensor_rail (s : State) (g : GateSensor) (level : Bool) :
    (s.setGateSensor g level).rail = s.rail := by cases g <;> rfl

/-- A gate stalled in an operation, in a state of the rail. -/
theorem State.stallGate_rail (s b : State) (cause : Cause) :
    ((s.onRail fun w => w.stallGate cause).railDone b).rail.secs[(5 : Sec)] =
      { s.rail.secs[(5 : Sec)] with cond := .blocked } ∧
    ((s.onRail fun w => w.stallGate cause).railDone b).rail.stalls[(5 : Sec)] =
      some { train := s.rail.secs[(5 : Sec)].occupant, dest := none, cause := cause } := by
  have hsec : (s.onRail fun w => w.stallGate cause).rail.secs[(5 : Sec)] = { s.rail.secs[(5 : Sec)] with cond := .blocked } :=
    get_set_self s.rail.secs (5 : Sec) _
  have hstall : (s.onRail fun w => w.stallGate cause).rail.stalls[(5 : Sec)] =
      some { train := s.rail.secs[(5 : Sec)].occupant, dest := none, cause := cause } :=
    get_set_self s.rail.stalls (5 : Sec) _
  obtain ⟨h1, h2, -⟩ := (State.railDone_spares (s.onRail fun w => w.stallGate cause) b).held 5
    (.inl (congrArg SecRec.cond hsec))
  exact ⟨h1.trans hsec, h2.trans hstall⟩

/-- A BLOCKED PRESENT lets no gate operation begin, so the examination leaves the gate as it is. -/
theorem State.settle_gate_blocked {s : State} (h : s.rail.secs[(5 : Sec)].cond = .blocked) :
    s.work.GateSpared { s.work.settle s.lots with rail := { (s.work.settle s.lots).rail with hold := s.rail.hold } } := by
  by_cases hh : s.rail.hold = .none
  · rw [RailWork.settle_arbitrates (w := s.work) hh (Rail.gateDue_false_of_blocked h)]
    have hg := RailWork.gateSpared_arbitrate s.work s.lots 10
    exact ⟨hg.gate, hg.timers, hg.chan, rfl⟩
  · rw [RailWork.settle_held s.work s.lots hh]
    rcases s.work.holdTest_cases with ⟨e, -⟩ | ⟨-, -, -, e⟩ <;> rw [e] <;> exact ⟨rfl, ⟨rfl, rfl⟩, rfl, rfl⟩

/-- Settles O24: what begins, what completes and what stalls a gate operation. -/
theorem gateOperationEnds : Obligations.GateOperationEnds := by
  intro s
  refine ⟨fun hh hg => ?_, fun h ht hl => ?_, fun h ht hl => ?_, fun g level hg hl => ?_, fun n ht hm => ?_, fun hc => ?_⟩
  · obtain ⟨hgate, hsp⟩ := State.settle_gate hh hg
    refine ⟨fun hw hl => ?_, fun hw hl => ?_, fun hw => ?_⟩
    · rw [RailWork.beginGate_opening (w := s.work) hw hl] at hgate
      have hd : s.settle.drive.chans[(7 : Chan)] = (s.drive.chans[(7 : Chan)].energise .forward).1 :=
        hgate.chan.trans (Drive.energise_chan_self ..)
      refine ⟨hgate.gate, ⟨hgate.timers.1, hgate.timers.2⟩, hd, fun ho ht => ?_⟩
      rw [hd, (Channel.energise_rest .forward hl ho ht).1]; rfl
    · rw [RailWork.beginGate_refused (w := s.work) hw hl] at hgate hsp
      have hb := hsp.held 5 (.inl (congrArg SecRec.cond (get_set_self s.rail.secs (5 : Sec) _)))
      refine ⟨hgate.gate, hgate.timers.1, hgate.timers.2, ?_, State.onRail_holds_noted rfl (hsp.noted ?_), ?_⟩
      · exact congrArg SecRec.cond (hb.1.trans (get_set_self s.rail.secs (5 : Sec) _))
      · simp only [RailWork.Noted, BitVec.or_assoc, BitVec.or_self]
      · exact hb.2.1.trans (get_set_self s.rail.stalls (5 : Sec) _)
    · rw [RailWork.beginGate_closing (w := s.work) hw] at hgate
      have hd : s.settle.drive.chans[(7 : Chan)] = s.drive.chans[(7 : Chan)].halt :=
        hgate.chan.trans (Drive.halt_chan_self ..)
      refine ⟨hgate.gate, ⟨hgate.timers.1, hgate.timers.2⟩, hd, fun hl => ?_⟩
      rw [hd]
      exact ⟨Channel.halt_output hl, Channel.halt_turn hl⟩
  · have hseen : (s.setGateSensor .gateOpen true).rail.gateSeen (s.setGateSensor .gateOpen true).inputs = true := by
      simp only [Rail.gateSeen, State.setGateSensor_rail, h]; rfl
    rw [exec_gateSensorEdge (by simp [Inputs.gateSensor, hl]), State.gateTest_completes hseen ht]
    refine congrArg (fun t : State => Host.Outcome.next (t.railDone s)) (State.mapRail_congr ?_)
    simp only [Rail.completeGate, State.setGateSensor_rail, h]
  · have hseen : (s.setGateSensor .gateClosed true).rail.gateSeen (s.setGateSensor .gateClosed true).inputs = true := by
      simp only [Rail.gateSeen, State.setGateSensor_rail, h]; rfl
    rw [exec_gateSensorEdge (by simp [Inputs.gateSensor, hl]), State.gateTest_completes hseen ht]
    refine congrArg (fun t : State => Host.Outcome.next (t.railDone s)) (State.mapRail_congr ?_)
    simp only [Rail.completeGate, State.setGateSensor_rail, h]
  · rw [exec_gateSensorEdge hl, State.gateTest_waits (Rail.gateSeen_still (by rwa [State.setGateSensor_rail]))]
  · refine congrArg Host.Outcome.next ((s.expire_of_eq_some _ ht).trans (congrArg (State.railDone · s) ?_))
    have hgate : ((s.elapse n).mapRail fun r => { r with gateTimer := none }).rail.gate = s.rail.gate := rfl
    cases hg : s.rail.gate with
    | opening =>
      cases ho : s.inputs.gateOpen with
      | true =>
        rw [State.gateTest_completes (by simp only [Rail.gateSeen, hgate, hg]; exact ho) rfl]
        change (s.elapse n).mapRail (fun r => Rail.completeGate { r with gateTimer := none }) = _
        refine State.mapRail_congr ?_
        simp [Rail.completeGate, hg]
      | false =>
        rw [State.gateTest_waits (by simp only [Rail.gateSeen, hgate, hg]; exact ho)]
        exact State.mapRail_congr (s := s.elapse n) (by simp)
    | closing =>
      cases ho : s.inputs.gateClosed with
      | true =>
        rw [State.gateTest_completes (by simp only [Rail.gateSeen, hgate, hg]; exact ho) rfl]
        change (s.elapse n).mapRail (fun r => Rail.completeGate { r with gateTimer := none }) = _
        refine State.mapRail_congr ?_
        simp [Rail.completeGate, hg]
      | false =>
        rw [State.gateTest_waits (by simp only [Rail.gateSeen, hgate, hg]; exact ho)]
        exact State.mapRail_congr (s := s.elapse n) (by simp)
    | closed => simp [Rail.gateMoving, hg] at hm
    | opened => simp [Rail.gateMoving, hg] at hm
    | unknown => simp [Rail.gateMoving, hg] at hm
  · obtain ⟨n, hn⟩ := Option.isSome_iff_exists.mp hc
    refine ⟨_, congrArg Host.Outcome.next (s.expire_of_eq_some _ hn), ?_⟩
    obtain ⟨hsec, hstall⟩ := (s.elapse n).stallGate_rail s .gate
    have hg := State.settle_gate_blocked (s := (s.elapse n).onRail fun w => w.stallGate .gate)
      (congrArg SecRec.cond (get_set_self s.rail.secs (5 : Sec) _))
    refine ⟨?_, ?_, ?_, congrArg SecRec.cond hsec, (congrArg SecRec.occupant hsec).trans rfl, hstall,
      State.railDone_holds (State.onRail_holds_noted rfl (RailWork.stallGate_noted _ _)), ?_⟩
    · rw [State.railDone_rail]; exact hg.gate
    · rw [State.railDone_rail]; exact hg.timers.1
    · rw [State.railDone_rail]; exact hg.timers.2
    · simp

end Sys2Proof.Machine

/-!
The yard settles its stalls (R47 to R50): RETRY, RESOLVE and CLEAR SECTION, each as the chain of its tests.
-/

namespace Sys2Proof.Machine

/-! ## A command's answer as a function of what its owner makes of it -/

/-- What a port does with its owner's answer. -/
def answered (p : Role) (x : Taken) : Result := .next (x.1.giveReply p x.2)

theorem answered_ite (p : Role) (c : Prop) [Decidable c] (x y : Taken) :
    answered p (if c then x else y) = if c then answered p x else answered p y := apply_ite _ _ _ _

/-- A refusal leaves the part as it was but for the frame and its reply. -/
theorem answered_refuse (p : Role) (s : State) (st : Status) :
    answered p (refuse (s.frameTaken p) st) = .next (s.rejected p st) := s.takeOn_rejected p (take := fun t => refuse t st) rfl

theorem exec_yard_answered (i : Instr) {s : State} {code : Byte} {payload : Bytes}
    (hf : frameOf i = some (.yard, code, payload)) (hr : rolesOf code = some [.yard]) (hw : i.wellFormed = true)
    (hl : s.listens .yard = true) : exec i s = answered .yard (takeCommand i (s.frameTaken .yard)) :=
  exec_yard i hf hr hw hl

/-! ## The operands -/

theorem secOf_eq {x : Byte} {k : Sec} (h : x.toNat = k.val) : secOf x = some k := index_some h
theorem secOf_none {x : Byte} (h : 6 < x.toNat) : secOf x = none := index_none h

theorem placementOf_none {y : Byte} (h : 1 < y.toNat) : placementOf y = none := by
  have h0 : y ≠ 0 := by rintro rfl; simp at h
  have h1 : y ≠ 1 := by rintro rfl; simp at h
  rw [placementOf, if_neg h0, if_neg h1]

theorem placementOf_some {y : Byte} (h : y = 0 ∨ y = 1) : ∃ pl, placementOf y = some pl := by
  obtain rfl | rfl := h
  · exact ⟨_, rfl⟩
  · exact ⟨_, rfl⟩

theorem LotStore.locked_eq (ls : LotStore) :
    ls.locked = ls.lots.any fun e => e.2.state = .loaded || e.2.state = .onClock := rfl

/-! ## RETRY -/

section
variable {x : Byte} {k : Sec} {st : Stall} {s : State} (hx : secOf x = some k)
include hx

theorem takeRetry_absent (h : s.rail.stalls[k] = none) : takeRetry x s = refuse s .notFound := by
  simp only [takeRetry, hx, h]

variable (h : s.rail.stalls[k] = some st)
include h

theorem takeRetry_sensor (hc : st.cause = .sensor) : takeRetry x s = refuse s .state := by
  simp only [takeRetry, hx, h]; exact if_pos (.inr hc)

theorem takeRetry_move {b : Sec} (hd : st.dest = some (.sec b)) : takeRetry x s =
    if st.cause = .gate ∨ st.cause = .sensor ∨ s.drive.chans[k.castSucc].latch.isSome ∨ s.drive.chans[b.castSucc].latch.isSome
    then refuse s .state
    else ((s.mapRail fun r => ((r.dropStall k).occupy k st.train).clearSec b).railDone s, Reply.done []) := by
  have hl : (st.chans k).any s.drive.latched = true ↔
      s.drive.chans[k.castSucc].latch.isSome = true ∨ s.drive.chans[b.castSucc].latch.isSome = true := by
    simp [Stall.chans, hd, Drive.latched]
  simp only [takeRetry, hx, h, hd, hl, ite_or]
  rfl

theorem takeRetry_eject (hd : st.dest = some .out) : takeRetry x s =
    if st.cause = .gate ∨ st.cause = .sensor ∨ s.drive.chans[(0 : Chan)].latch.isSome then refuse s .state
    else ((s.mapRail fun r => { (r.dropStall k).reoccupy k with ejectPending := s.intakeEjectable }).railDone s,
      Reply.done []) := by
  have hl : (st.chans k).any s.drive.latched = true ↔ s.drive.chans[(0 : Chan)].latch.isSome = true := by
    simp [Stall.chans, hd, Drive.latched]
  simp only [takeRetry, hx, h, hd, hl, ite_or]
  rfl

theorem takeRetry_gate (hd : st.dest = none) (hc : st.cause ≠ .sensor) : takeRetry x s =
    if st.cause = .gate ∨ s.drive.chans[(7 : Chan)].latch.isSome then refuse s .state
    else ((s.mapRail fun r => (r.dropStall k).presentKept).railDone s, Reply.done []) := by
  have hl : (st.chans k).any s.drive.latched = true ↔ s.drive.chans[(7 : Chan)].latch.isSome = true := by
    simp [Stall.chans, hd, Drive.latched]
  simp only [takeRetry, hx, h, hd, hl, hc, or_false, ite_or]
  rfl

end

/-! ## RESOLVE -/

/-- What RESOLVE answers for a record settled in `v`, or refused. -/
def settledBy (s : State) : State ⊕ Status → Taken
  | .inl v => (v.railDone s, Reply.done [])
  | .inr st => refuse s st

section
variable {x y : Byte} {k : Sec} {pl : Placement} {st : Stall} {s : State} (hx : secOf x = some k)
  (hy : placementOf y = some pl)
include hx hy

theorem takeResolve_absent (h : s.rail.stalls[k] = none) : takeResolve x y s = refuse s .notFound := by
  simp only [takeResolve, hx, hy, h]

theorem takeResolve_present (h : s.rail.stalls[k] = some st) : takeResolve x y s =
    if s.rail.jog.isSome then refuse s .busy else if (k = 5 ∨ st.dest = some (.sec 5)) ∧ s.lots.locked then refuse s .locked
    else settledBy s (s.resolveRecord k st pl) := by
  have hp : st.namesPresent k = true ↔ k = 5 ∨ st.dest = some (.sec 5) := by simp [Stall.namesPresent]
  simp only [takeResolve, hx, hy, h, hp]
  rfl

end

section
variable {s : State} {k b : Sec} {st : Stall}

theorem resolve_move_from (hd : st.dest = some (.sec b)) : settledBy s (s.resolveRecord k st .atFrom) =
    if s.inputs.presence[k] ∧ ¬ s.inputs.presence[b] then
      ((s.mapRail fun r => ((r.dropStall k).occupy k st.train).clearSec b).railDone s, Reply.done [])
    else refuse s .sensor := by
  simp only [State.resolveRecord, hd, State.resolveMove]
  split_ifs <;> rfl

theorem resolve_move_to (hd : st.dest = some (.sec b)) : settledBy s (s.resolveRecord k st .atTo) =
    if ¬ s.inputs.presence[k] ∧ s.inputs.presence[b] then
      (((s.mapRail fun r => r.dropStall k).conveyed st.train k b).railDone s, Reply.done [])
    else refuse s .sensor := by
  simp only [State.resolveRecord, hd, State.resolveMove]
  split_ifs <;> rfl

theorem resolve_gate (pl : Placement) (hd : st.dest = none) (hc : st.cause ≠ .sensor) :
    settledBy s (s.resolveRecord k st pl) =
      ((s.mapRail fun r => (r.dropStall k).presentKept).railDone s, Reply.done []) := by
  simp only [State.resolveRecord, hd, if_neg hc]
  rfl

theorem resolve_eject_from (hd : st.dest = some .out) : settledBy s (s.resolveRecord k st .atFrom) =
    if s.inputs.presence[(0 : Sec)] then
      ((s.mapRail fun r => { (r.dropStall 0).reoccupy 0 with ejectPending := false }).railDone s, Reply.done [])
    else refuse s .sensor := by
  simp only [State.resolveRecord, hd, State.resolveEject]
  split_ifs <;> rfl

theorem resolve_eject_to (hd : st.dest = some .out) : settledBy s (s.resolveRecord k st .atTo) =
    if s.inputs.presence[(0 : Sec)] then refuse s .sensor
    else if ¬ s.intakeEjectable then refuse s .state
    else ((s.mapRail fun r => r.dropStall 0).intakeEmptied.railDone s, Reply.done []) := by
  simp only [State.resolveRecord, hd, State.resolveEject]
  split_ifs <;> rfl

theorem resolve_edge_from (hd : st.dest = none) (hc : st.cause = .sensor) : settledBy s (s.resolveRecord k st .atFrom) =
    if s.inputs.presence[k] = false then refuse s .sensor
    else if st.train.isSome then ((s.mapRail fun r => (r.dropStall k).occupy k st.train).railDone s, Reply.done [])
    else if k = 0 then
      ((s.mapRail fun r => { (r.dropStall 0).reoccupy 0 with unknownTag := some (s.rail.unknownTag.getD 0) }).railDone s,
        Reply.done [])
    else refuse s .state := by
  simp only [State.resolveRecord, hd, if_pos hc, State.resolveEdge, Bool.not_eq_true]
  cases ht : st.train with
  | some t => split_ifs <;> simp_all [settledBy]
  | none =>
    split_ifs with hp hk
    · rfl
    · simp_all
    · subst hk; rfl
    · simp_all
    · rfl

theorem resolve_edge_to (hd : st.dest = none) (hc : st.cause = .sensor) : settledBy s (s.resolveRecord k st .atTo) =
    if s.inputs.presence[k] then refuse s .sensor
    else if st.train.isSome then refuse s .state
    else ((s.mapRail fun r => (r.dropStall k).clearSec k).railDone s, Reply.done []) := by
  simp only [State.resolveRecord, hd, if_pos hc, State.resolveEdge]
  cases ht : st.train with
  | some t => split_ifs <;> simp_all [settledBy]
  | none => split_ifs <;> simp_all [settledBy]

end

/-! ## The obligations -/

/-- The answers of a section's settlement, each as its chain of tests on the port. -/
theorem answered_yard (s : State) (v : State) :
    answered .yard (v.railDone (s.frameTaken .yard), Reply.done []) =
      .next ((v.railDone (s.frameTaken .yard)).giveReply .yard (Reply.done [])) := rfl

/-- Settles O25: RETRY, RESOLVE and CLEAR SECTION for a forward move's record and a gate's. -/
theorem yardSettlesStalls : Obligations.YardSettlesStalls := by
  intro s k x hl hx t ok no locked
  have hk := secOf_eq hx
  have retry := exec_yard_answered (.retry .yard x) rfl rfl rfl hl
  have resolve (y : Byte) := exec_yard_answered (.resolve .yard x y) rfl rfl rfl hl
  simp only [takeCommand] at retry resolve
  refine ⟨?_, fun h => ⟨?_, fun y hy => ?_⟩, fun st b h hd hb => ⟨?_, ?_, ?_⟩, fun st h hd hc h5 => ⟨?_, fun y hy => ?_⟩⟩
  · rw [exec_yard_answered (.clearSection .yard x) rfl rfl rfl hl]
    simp only [takeCommand, takeClearSection, hk, answered_ite, answered_refuse]
    rfl
  · rw [retry, takeRetry_absent (s := t) hk h, answered_refuse]
  · obtain ⟨pl, hpl⟩ := placementOf_some hy
    rw [resolve, takeResolve_absent (s := t) hk hpl h, answered_refuse]
  · rw [retry, takeRetry_move (s := t) hk h hd, answered_ite, answered_refuse]
    rfl
  · rw [resolve, takeResolve_present (s := t) (y := 0) (pl := .atFrom) hk rfl h, resolve_move_from hd]
    simp only [answered_ite, hd, Option.some.injEq, Dest.sec.injEq]
    rfl
  · rw [resolve, takeResolve_present (s := t) (y := 1) (pl := .atTo) hk rfl h, resolve_move_to hd]
    simp only [answered_ite, hd, Option.some.injEq, Dest.sec.injEq]
    rfl
  · subst h5
    rw [retry, takeRetry_gate (s := t) hk h hd hc, answered_ite, answered_refuse]
    rfl
  · subst h5
    obtain ⟨pl, hpl⟩ := placementOf_some hy
    rw [resolve, takeResolve_present (s := t) hk hpl h, resolve_gate pl hd hc]
    simp only [answered_ite, true_or, true_and]
    rfl

/-- Settles O27: the fields' ranges, the records of ejects and those of lone edges. -/
theorem yardSettlesEjectsAndEdges : Obligations.YardSettlesEjectsAndEdges := by
  intro s hl t ok no locked
  have retry (x : Byte) := exec_yard_answered (.retry .yard x) rfl rfl rfl hl
  have resolve (x y : Byte) := exec_yard_answered (.resolve .yard x y) rfl rfl rfl hl
  simp only [takeCommand] at retry resolve
  refine ⟨fun x y hx => ⟨?_, ?_, ?_⟩, fun x y hy => ?_, fun st h hd => ⟨?_, ?_, ?_⟩, fun k x st hx h hd hc => ⟨?_, ?_, ?_⟩⟩
  · rw [retry]; simp only [takeRetry, secOf_none hx, answered_refuse]; rfl
  · rw [resolve]; simp only [takeResolve, secOf_none hx, answered_refuse]; rfl
  · rw [exec_yard_answered (.clearSection .yard x) rfl rfl rfl hl]
    simp only [takeCommand, takeClearSection, secOf_none hx, answered_refuse]; rfl
  · rw [resolve]; simp only [takeResolve, placementOf_none hy]; cases secOf x <;> rfl
  · rw [retry, takeRetry_eject (s := t) (k := 0) rfl h hd, answered_ite, answered_refuse]; rfl
  · rw [resolve, takeResolve_present (s := t) (y := 0) (pl := .atFrom) (k := 0) rfl rfl h, resolve_eject_from hd]
    simp only [answered_ite, hd]
    rfl
  · rw [resolve, takeResolve_present (s := t) (y := 1) (pl := .atTo) (k := 0) rfl rfl h, resolve_eject_to hd]
    simp only [answered_ite, hd]
    rfl
  · rw [retry, takeRetry_sensor (s := t) (secOf_eq hx) h hc, answered_refuse]
  · rw [resolve, takeResolve_present (s := t) (y := 0) (pl := .atFrom) (secOf_eq hx) rfl h, resolve_edge_from hd hc]
    simp only [answered_ite, hd, reduceCtorEq, or_false]
    rfl
  · rw [resolve, takeResolve_present (s := t) (y := 1) (pl := .atTo) (secOf_eq hx) rfl h, resolve_edge_to hd hc]
    simp only [answered_ite, hd, reduceCtorEq, or_false]
    rfl

end Sys2Proof.Machine

/-!
The rail hold (R39 to R41) and the jog (R51, R52).
-/

namespace Sys2Proof.Machine

/-! ## What a hold keeps back -/

section
variable {r : Rail} {ls : LotStore}

theorem Rail.mem_heldBack_move {b : Sec} : Held.move b ∈ r.heldBack ls ↔
    r.hold ≠ .none ∧ ∃ a : Sec, b.val = a.val + 1 ∧ r.moveDue ls a b = true := by
  by_cases h : r.hold = .none
  · simp [Rail.heldBack, h]
  · simp [Rail.heldBack, h, Rail.heldMoves, mem_forwardMoves]

theorem Rail.mem_heldBack_eject : Held.eject ∈ r.heldBack ls ↔ r.hold ≠ .none ∧ r.ejectDue = true := by
  by_cases h : r.hold = .none
  · simp [Rail.heldBack, h]
  · simp [Rail.heldBack, h]

theorem Rail.mem_heldBack_gate {g : GatePos} :
    Held.gate g ∈ r.heldBack ls ↔ r.hold ≠ .none ∧ r.gateDue ls = true ∧ r.wanted ls = g := by
  by_cases h : r.hold = .none
  · simp [Rail.heldBack, h]
  · simp [Rail.heldBack, h, eq_comm (a := g)]

theorem Rail.heldBack_free (h : r.hold = .none) : r.heldBack ls = [] := if_pos h

/-- Which operations a hold keeps back does not depend on how far the hold has come. -/
theorem Rail.heldBack_hold {x y : Hold} (hx : x ≠ .none) (hy : y ≠ .none) :
    ({ r with hold := x } : Rail).heldBack ls = ({ r with hold := y } : Rail).heldBack ls := by
  simp only [Rail.heldBack, if_neg hx, if_neg hy]
  rfl

/-- Something is held back exactly where a move, an eject or a gate operation is eligible but for the hold. -/
theorem Rail.heldBack_any (h : r.hold ≠ .none) (p : Machine.Held → Bool) : (r.heldBack ls).any p = true ↔
    (∃ a b : Sec, b.val = a.val + 1 ∧ (r.moveDue ls a b && p (.move b)) = true) ∨ (r.ejectDue && p .eject) = true ∨
      (r.gateDue ls && p (.gate (r.wanted ls))) = true := by
  simp only [List.any_eq_true, Bool.and_eq_true]
  constructor
  · rintro ⟨x, hx, hp⟩
    cases x with
    | move b =>
      obtain ⟨-, a, hb, hd⟩ := Rail.mem_heldBack_move.mp hx
      exact .inl ⟨a, b, hb, hd, hp⟩
    | eject => exact .inr (.inl ⟨(Rail.mem_heldBack_eject.mp hx).2, hp⟩)
    | gate g =>
      obtain ⟨-, hd, rfl⟩ := Rail.mem_heldBack_gate.mp hx
      exact .inr (.inr ⟨hd, hp⟩)
  · rintro (⟨a, b, hb, hd, hp⟩ | ⟨hd, hp⟩ | ⟨hd, hp⟩)
    · exact ⟨_, Rail.mem_heldBack_move.mpr ⟨h, a, hb, hd⟩, hp⟩
    · exact ⟨_, Rail.mem_heldBack_eject.mpr ⟨h, hd⟩, hp⟩
    · exact ⟨_, Rail.mem_heldBack_gate.mpr ⟨h, hd, rfl⟩, hp⟩

/-- Something waits for the hold: a move, an eject or a gate operation is eligible. -/
def Rail.waits (r : Rail) (ls : LotStore) : Bool := (r.nextMove ls).isSome || r.ejectDue || r.gateDue ls

theorem Rail.heldBack_isEmpty (h : r.hold ≠ .none) : (r.heldBack ls).any (fun _ => true) = r.waits ls := by
  rw [Bool.eq_iff_iff, Rail.heldBack_any h]
  have hm : (∃ a b : Sec, b.val = a.val + 1 ∧ r.moveDue ls a b = true) ↔ (r.nextMove ls).isSome = true := by
    rw [Option.isSome_iff_ne_none, ne_eq, Rail.nextMove_eq_none]
    push Not
    simp
  simp [Rail.waits, hm, or_assoc]

end

/-! ## An examination of eligibility under a hold -/

section
variable {s : State}

theorem State.onRail_work {f : RailWork → RailWork} {w : RailWork} (h : f s.work = w) : s.onRail f =
    ({ s with rail := w.rail, drive := w.drive } : State).setPort .yard ((s.port .yard).raiseBits w.raised) := by
  rw [← h]; rfl

/-- Under a hold the examination changes the hold at most, which becomes HELD with HOLD_ACK once nothing is in flight. -/
theorem State.settle_hold (h : s.rail.hold ≠ .none) :
    (s.settle = s ∧ ¬ (s.rail.hold = .pending ∧ s.rail.moving = false ∧ s.rail.gateMoving = false)) ∨
    (s.rail.moving = false ∧ s.rail.gateMoving = false ∧
      s.settle = (s.mapRail fun r => { r with hold := .held }).raise .holdAck) := by
  have hs : s.work.settle s.lots = s.work.holdTest := RailWork.settle_held s.work s.lots h
  rcases s.work.holdTest_cases with ⟨e, hn⟩ | ⟨-, hm, hg, e⟩
  · refine .inl ⟨(State.onRail_work (hs.trans e)).trans ?_, hn⟩
    exact (congrArg (State.setPort s .yard) (Port.raiseBits_zero _)).trans (State.setPort_port s .yard)
  · refine .inr ⟨hm, hg, (State.onRail_work (hs.trans e)).trans ?_⟩
    simp only [State.work]
    rfl

theorem State.settle_heldRail (h : s.rail.hold = .held) : s.settle.rail = s.rail := by
  rcases State.settle_hold (by rw [h]; nofun) with ⟨e, -⟩ | ⟨-, -, e⟩
  · rw [e]
  · rw [e, State.raise_rail, State.mapRail_rail, ← h]

theorem State.settle_hold_drive (h : s.rail.hold ≠ .none) : s.settle.drive = s.drive := by
  rcases State.settle_hold h with ⟨e, -⟩ | ⟨-, -, e⟩
  · rw [e]
  · rw [e]; rfl

theorem State.settle_hold_heldBack (h : s.rail.hold ≠ .none) : s.settle.rail.heldBack s.lots = s.rail.heldBack s.lots := by
  rcases State.settle_hold h with ⟨e, -⟩ | ⟨-, -, e⟩
  · rw [e]
  · rw [e]; exact Rail.heldBack_hold (r := s.rail) (x := .held) nofun h

theorem State.settle_hold_want (h : s.rail.hold ≠ .none) : s.settle.holds .want = s.holds .want := by
  rcases State.settle_hold h with ⟨e, -⟩ | ⟨-, -, e⟩
  · rw [e]
  · rw [e, State.holds_raise_ne _ (e := .want) (by decide)]; rfl

theorem State.wantSince_holds (s b : State) (e : Event) : (s.wantSince b).holds e = (s.holds e ||
    (decide (e = .want) && (s.rail.heldBack s.lots).any fun h => !(b.rail.heldBack b.lots).contains h)) := by
  unfold State.wantSince
  split_ifs with h
  · rw [State.holds_raise_eq, h, Bool.and_true]
  · rw [Bool.eq_false_iff.mpr h, Bool.and_false, Bool.or_false]

theorem State.railDone_holds_eq (s b : State) (e : Event) : (s.railDone b).holds e = (s.settle.holds e ||
    (decide (e = .want) && (s.settle.rail.heldBack s.lots).any fun h => !(b.rail.heldBack b.lots).contains h)) := by
  rw [State.railDone, State.reface_holds]
  exact s.settle.wantSince_holds b e

/-- WANT after a rail event under a hold: raised where an operation is held back that was not before (R41). -/
theorem State.railDone_want (h : s.rail.hold ≠ .none) (b : State) : (s.railDone b).holds .want =
    (s.holds .want || (s.rail.heldBack s.lots).any fun x => !(b.rail.heldBack b.lots).contains x) := by
  rw [State.railDone_holds_eq, State.settle_hold_want h, State.settle_hold_heldBack h]
  rfl

/-- WANT where the hold begins: raised where an operation waits already (R39). -/
theorem State.railDone_want_begun (h : s.rail.hold ≠ .none) {b : State} (hb : b.rail.hold = .none) :
    (s.railDone b).holds .want = (s.holds .want || s.rail.waits s.lots) := by
  rw [State.railDone_want h, Rail.heldBack_free hb]
  simp only [List.contains_nil, Bool.not_false]
  rw [Rail.heldBack_isEmpty h]

end

/-- No event of the rail touches the check setting of a port. -/
theorem State.railDone_checkNow (s b : State) (p : Role) : ((s.railDone b).port p).checkNow = (s.port p).checkNow := by
  have hw : ((s.settle.wantSince b).port p).checkNow = (s.settle.port p).checkNow := by
    rcases s.settle.wantSince_cases b with e | e <;> rw [e]
    exact State.raise_checkNow ..
  rw [State.railDone, State.reface_port, hw]
  cases p with
  | yard => rw [State.settle_port_yard]; rfl
  | desk => rfl
  | accounts => rfl

/-! ## HOLD RAIL and RELEASE -/

theorem takeHoldRail_none {s : State} (h : s.rail.hold = .none) : takeHoldRail s =
    let v := (s.mapRail fun r => { r with hold := .pending }).railDone s
    (v, Reply.done (num1 v.rail.hold.code)) := by
  simp only [takeHoldRail, if_pos h]

theorem takeHoldRail_held {s : State} (h : s.rail.hold ≠ .none) :
    takeHoldRail s = (s, Reply.done [if s.rail.hold = .pending then 1 else 2]) := by
  simp only [takeHoldRail, if_neg h]
  cases hh : s.rail.hold with
  | none => exact absurd hh h
  | pending => rfl
  | held => rfl

section
variable (s : State)

/-- The part at the beginning of a hold: HOLD RAIL taken from NONE, before eligibility is examined. -/
def State.holdBegun : State := (s.frameTaken .yard).mapRail fun r => { r with hold := .pending }

theorem State.holdBegun_want (h : s.rail.hold = .none) : (s.holdBegun.railDone (s.frameTaken .yard)).holds .want =
    (s.holds .want || s.rail.waits s.lots) := by
  rw [State.railDone_want_begun (s := s.holdBegun) nofun (b := s.frameTaken .yard) h]
  exact congrArg (· || s.rail.waits s.lots) (s.frameTaken_holds .yard .want)

/-- Any other event is held after an examination exactly where the settling of the rail raises it. -/
theorem State.railDone_holds_ne {e : Event} (he : e ≠ .want) (b : State) : (s.railDone b).holds e = s.settle.holds e := by
  rw [State.railDone_holds_eq, decide_eq_false he, Bool.false_and, Bool.or_false]

/-- The part at HOLD RAIL's reply. -/
def State.holdTaken : State := s.holdBegun.railDone (s.frameTaken .yard)

theorem State.holdTaken_checkNow : (s.holdTaken.port .yard).checkNow = (s.port .yard).checkNow := by
  rw [State.holdTaken, State.railDone_checkNow]
  exact s.frameTaken_checkNow .yard

theorem State.holdTaken_rail : s.holdTaken.rail = s.holdBegun.settle.rail := State.railDone_rail ..
theorem State.holdTaken_drive : s.holdTaken.drive = s.holdBegun.settle.drive := State.railDone_drive ..

theorem State.holdTaken_ack : s.holdTaken.holds .holdAck = s.holdBegun.settle.holds .holdAck :=
  s.holdBegun.railDone_holds_ne (e := .holdAck) (by decide) _

theorem State.holdTaken_code {h : Hold} (hh : s.holdBegun.settle.rail.hold = h) :
    ((s.holdTaken.giveReply .yard (Reply.done (num1 s.holdTaken.rail.hold.code))).port .yard).replyLeft =
      replyWords (s.port .yard).checkNow (Reply.done (num1 h.code)) := by
  rw [State.giveReply_replyLeft, State.holdTaken_checkNow, State.holdTaken_rail, hh]

end

section
variable {s : State}

theorem exec_holdRail_none (hl : s.listens .yard = true) (h : s.rail.hold = .none) : exec (.holdRail .yard) s =
    .next (s.holdTaken.giveReply .yard (Reply.done (num1 s.holdTaken.rail.hold.code))) :=
  (exec_yard_answered (.holdRail .yard) rfl rfl rfl hl).trans
    (congrArg (answered .yard) (takeHoldRail_none (s := s.frameTaken .yard) h))

theorem exec_holdRail_held (hl : s.listens .yard = true) (h : s.rail.hold ≠ .none) : exec (.holdRail .yard) s =
    .next (s.replied .yard (Reply.done [if s.rail.hold = .pending then 1 else 2])) :=
  (exec_yard_answered (.holdRail .yard) rfl rfl rfl hl).trans
    (congrArg (answered .yard) (takeHoldRail_held (s := s.frameTaken .yard) h))

/-- The hold at HOLD RAIL: HELD with HOLD_ACK where nothing is in flight, and HOLD_PENDING otherwise. -/
theorem State.settle_holdBegun (s : State) :
    (s.rail.moving = false ∧ s.rail.gateMoving = false ∧
      s.holdBegun.settle = (s.holdBegun.mapRail fun r => { r with hold := .held }).raise .holdAck) ∨
    (¬ (s.rail.moving = false ∧ s.rail.gateMoving = false) ∧ s.holdBegun.settle = s.holdBegun) := by
  obtain ⟨e, hn⟩ | ⟨hm, hg, e⟩ := State.settle_hold (s := s.holdBegun) nofun
  · exact .inr ⟨fun h => hn ⟨rfl, h⟩, e⟩
  · exact .inl ⟨hm, hg, e⟩

end

/-- An operation newly held back: eligible now, and not eligible under a hold before (R41). -/
def newlyHeld (s b : State) (due : State → Bool) : Bool := due s && !(b.rail.hold ≠ .none && due b)

theorem newlyHeld_eq {s b : State} {due : State → Bool} {x : Held}
    (hx : x ∈ b.rail.heldBack b.lots ↔ b.rail.hold ≠ .none ∧ due b = true) :
    (due s && !(b.rail.heldBack b.lots).contains x) = newlyHeld s b due := by
  have hc : (b.rail.heldBack b.lots).contains x = (b.rail.hold ≠ .none && due b) := by
    rw [List.contains_eq_mem, Bool.eq_iff_iff, decide_eq_true_eq, hx]
    simp
  rw [newlyHeld, hc]

/-- WANT after an event of the rail under a hold: once for each operation newly held back (R41). -/
theorem State.railDone_want_iff {s : State} (h : s.rail.hold ≠ .none) (b : State) : (s.railDone b).holds .want = true ↔
    s.holds .want = true ∨
      (∃ k l : Sec, l.val = k.val + 1 ∧ newlyHeld s b (fun x => x.rail.moveDue x.lots k l) = true) ∨
      newlyHeld s b (fun x => x.rail.ejectDue) = true ∨
      newlyHeld s b (fun x => x.rail.gateDue x.lots && x.rail.wanted x.lots = s.rail.wanted s.lots) = true := by
  rw [State.railDone_want h, Bool.or_eq_true, Rail.heldBack_any h]
  refine or_congr Iff.rfl (or_congr ?_ (or_congr ?_ ?_))
  · refine exists_congr fun k => exists_congr fun l => and_congr_right fun hkl => ?_
    rw [← newlyHeld_eq (x := .move l)]
    refine Rail.mem_heldBack_move.trans (and_congr Iff.rfl ⟨fun ⟨a, ha, hd⟩ => ?_, fun hd => ⟨k, hkl, hd⟩⟩)
    obtain rfl : a = k := Fin.ext (by omega)
    exact hd
  · rw [← newlyHeld_eq Rail.mem_heldBack_eject]
  · rw [← newlyHeld_eq (x := .gate (s.rail.wanted s.lots))]
    · simp
    · rw [Rail.mem_heldBack_gate]; simp

/-- Settles O18: HOLD RAIL and RELEASE, and when WANT is raised. -/
theorem holdAndRelease : Obligations.HoldAndRelease := by
  refine ⟨fun s hl => ⟨fun h hm hg => ?_, fun h hmg => ?_, exec_holdRail_held hl, ?_⟩,
    fun b s h => State.railDone_want_iff h b⟩
  · obtain ⟨-, -, e⟩ | ⟨hn, -⟩ := s.settle_holdBegun
    · refine ⟨_, exec_holdRail_none hl h, ?_, ?_, ?_, (State.giveReply_holds ..).trans (s.holdBegun_want h),
        s.holdTaken_code (congrArg (fun v : State => v.rail.hold) e)⟩
      · rw [State.giveReply_rail, State.holdTaken_rail, e]; rfl
      · rw [State.giveReply_drive, State.holdTaken_drive, e]; rfl
      · rw [State.giveReply_holds, State.holdTaken_ack, e, State.holds_raise_self]
    · exact absurd ⟨hm, hg⟩ hn
  · obtain ⟨hm, hg, -⟩ | ⟨-, e⟩ := s.settle_holdBegun
    · exact absurd hmg (not_or.mpr ⟨Bool.eq_false_iff.mp hm, Bool.eq_false_iff.mp hg⟩)
    · refine ⟨_, exec_holdRail_none hl h, ?_, ?_, ?_, (State.giveReply_holds ..).trans (s.holdBegun_want h),
        s.holdTaken_code (congrArg (fun v : State => v.rail.hold) e)⟩
      · rw [State.giveReply_rail, State.holdTaken_rail, e]; rfl
      · rw [State.giveReply_drive, State.holdTaken_drive, e]; rfl
      · rw [State.giveReply_holds, State.holdTaken_ack, e]; exact s.frameTaken_holds .yard .holdAck
  · rw [exec_yard_answered (.release .yard) rfl rfl rfl hl]
    simp only [takeCommand, takeRelease, answered_ite, answered_refuse]
    rw [apply_ite Host.Outcome.next, apply_ite Host.Outcome.next]
    rfl

/-! ## The jog -/

theorem chanOf_eq {x : Byte} {c : Chan} (h : x.toNat = c.val) : chanOf x = some c := index_some h

theorem dirOf_eq {y : Byte} {d : Dir} (h : y = if d = .forward then 0 else 1) : dirOf y = some d := by
  subst h; cases d <;> rfl

theorem State.jogLocked_iff {s : State} {c : Chan} : s.jogLocked c = true ↔
    (c = 4 ∨ c = 5 ∨ c = 7) ∧ s.lots.locked = true ∨ c = 7 ∧ s.rail.holdsTrain s.lots 5 .presented = true := by
  simp [State.jogLocked, or_assoc]

/-- The jog recorded: D7 leaves the gate position UNKNOWN (R51). -/
def Rail.jogging (r : Rail) (j : Jog) : Rail := { r with jog := some j, gate := if j.chan = 7 then .unknown else r.gate }

/-- The part with a jog begun, before eligibility is examined (R51). -/
def State.jogBegun (s : State) (j : Jog) : State :=
  (s.onRail fun w => (w.energiseAll j.dir [j.chan]).1).mapRail fun r => r.jogging j

section
variable {s : State} {x y z : Byte} {c : Chan} {d : Dir}

theorem takeJog_eq (hx : chanOf x = some c) (hy : dirOf y = some d) : takeJog x y z s =
    if z.toNat = 0 ∨ 50 < z.toNat then refuse s .range
    else if (c = 4 ∨ c = 5 ∨ c = 7) ∧ s.lots.locked ∨ c = 7 ∧ s.rail.holdsTrain s.lots 5 .presented then refuse s .locked
    else if s.rail.hold ≠ .held ∨ s.drive.chans[c].latch.isSome then refuse s .state
    else if s.rail.jog.isSome then refuse s .busy
    else ((s.jogBegun { chan := c, dir := d, left := z.toNat * 1000 }).railDone s, Reply.done []) := by
  simp only [takeJog, hx, hy, State.jogLocked_iff, ite_or]
  rfl

/-- The part after a JOG that is taken. -/
def State.jogReplied (s : State) (j : Jog) : State :=
  (((s.frameTaken .yard).jogBegun j).railDone (s.frameTaken .yard)).giveReply .yard (Reply.done [])

/-- JOG on a port that listens: its tests in their order, and the jog begun. -/
theorem exec_jog (hl : s.listens .yard = true) (hx : x.toNat = c.val) (hy : y = if d = .forward then 0 else 1) :
    exec (.jog .yard x y z) s =
      if z.toNat = 0 ∨ 50 < z.toNat then .next (s.rejected .yard .range)
      else if (c = 4 ∨ c = 5 ∨ c = 7) ∧ s.lots.locked ∨ c = 7 ∧ s.rail.holdsTrain s.lots 5 .presented then
        .next (s.rejected .yard .locked)
      else if s.rail.hold ≠ .held ∨ s.drive.chans[c].latch.isSome then .next (s.rejected .yard .state)
      else if s.rail.jog.isSome then .next (s.rejected .yard .busy)
      else .next (s.jogReplied { chan := c, dir := d, left := z.toNat * 1000 }) := by
  rw [exec_yard_answered (.jog .yard x y z) rfl rfl rfl hl]
  simp only [takeCommand]
  rw [takeJog_eq (chanOf_eq hx) (dirOf_eq hy)]
  simp only [answered_ite, answered_refuse]
  rfl

theorem State.jogBegun_rail (j : Jog) : (s.jogBegun j).rail = s.rail.jogging j :=
  congrArg (Rail.jogging · j) (RailWork.energiseAll_rail ..)

theorem State.jogBegun_drive (j : Jog) : (s.jogBegun j).drive = (s.drive.energise j.chan j.dir).1 := rfl

/-- A jog changes nothing else on a HELD rail. -/
theorem State.jogTaken (hh : s.rail.hold = .held) (j : Jog) (b : State) :
    ((s.jogBegun j).railDone b).rail = s.rail.jogging j ∧
      ((s.jogBegun j).railDone b).drive = (s.drive.energise j.chan j.dir).1 := by
  have hold : (s.jogBegun j).rail.hold = .held := by rw [State.jogBegun_rail]; exact hh
  rw [State.railDone_rail, State.railDone_drive, State.settle_heldRail hold, State.settle_hold_drive (by rw [hold]; nofun)]
  exact ⟨State.jogBegun_rail j, State.jogBegun_drive j⟩

theorem State.jogReplied_eq (hh : s.rail.hold = .held) (j : Jog) :
    (s.jogReplied j).rail = s.rail.jogging j ∧ (s.jogReplied j).drive = (s.drive.energise j.chan j.dir).1 := by
  rw [State.jogReplied, State.giveReply_rail, State.giveReply_drive]
  exact State.jogTaken (s := s.frameTaken .yard) hh j _

theorem State.jogReplied_lots (s : State) (j : Jog) : (s.jogReplied j).lots = s.lots := by
  rw [State.jogReplied, State.giveReply_lots, State.railDone_lots]; rfl

theorem State.jogReplied_replyLeft (s : State) (j : Jog) :
    ((s.jogReplied j).port .yard).replyLeft = replyWords (s.port .yard).checkNow (Reply.done []) := by
  rw [State.jogReplied, State.giveReply_replyLeft, State.railDone_checkNow]
  exact congrArg (replyWords · (Reply.done [])) (s.frameTaken_checkNow .yard)

theorem RailWork.endJog_some {w : RailWork} {j : Jog} (h : w.rail.jog = some j) :
    w.endJog = { w with rail := { w.rail with jog := none }, drive := w.drive.halt j.chan } := by
  simp only [RailWork.endJog, h]; rfl

theorem State.jogTimer_some {j : Jog} (h : s.rail.jog = some j) : s.rail.jogTimer = some j.left := by
  rw [Rail.jogTimer, h]; rfl

/-- The end of a jog on a HELD rail changes nothing but its channel and its record. -/
theorem State.jogStopped {j : Jog} (hj : s.rail.jog = some j) (hh : s.rail.hold = .held) (b : State) :
    (((s.elapse j.left).onRail RailWork.endJog).railDone b).rail = { s.rail.after j.left with jog := none } ∧
      (((s.elapse j.left).onRail RailWork.endJog).railDone b).drive = (s.drive.after j.left).halt j.chan := by
  have hend : (s.elapse j.left).work.endJog = { (s.elapse j.left).work with
      rail := { s.rail.after j.left with jog := none }, drive := (s.drive.after j.left).halt j.chan } :=
    RailWork.endJog_some (j := { j with left := j.left - j.left }) (by simp [State.work, Rail.after, hj])
  have hold : ((s.elapse j.left).onRail RailWork.endJog).rail.hold = .held :=
    (congrArg (fun w : RailWork => w.rail.hold) hend).trans hh
  rw [State.railDone_rail, State.railDone_drive, State.settle_heldRail hold, State.settle_hold_drive (by rw [hold]; nofun)]
  exact ⟨congrArg RailWork.rail hend, congrArg RailWork.drive hend⟩

theorem State.jogEnded_rail (s : State) (j : Option Jog) : (s.jogEnded j).rail = s.rail := by
  unfold State.jogEnded; split <;> rfl
theorem State.jogEnded_drive (s : State) (j : Option Jog) : (s.jogEnded j).drive = s.drive := by
  unfold State.jogEnded; split <;> rfl
theorem State.jogEnded_lots (s : State) (j : Option Jog) : (s.jogEnded j).lots = s.lots := by
  unfold State.jogEnded; split <;> rfl

/-- The jog of D7 ended with a gate operation held back: WANT. -/
theorem State.jogEnded_want {j : Jog} (h7 : j.chan = 7) (hh : s.rail.hold ≠ .none) (hg : s.rail.gateDue s.lots = true) :
    (s.jogEnded (some j)).holds .want = true := by
  rw [State.jogEnded, if_pos ⟨by simp [h7], hh, hg⟩]
  exact State.holds_raise_self ..

end

theorem StopMode.rest_eq (m : StopMode) : m.rest = if m = .brake then .braked else .opened := by cases m <;> rfl

/-- Settles O26: JOG with its refusals, and the end of its timer. -/
theorem jogRunsAndEnds : Obligations.JogRunsAndEnds := by
  refine fun s => ⟨fun x y z c d hl hx hy => ?_, fun j hj hh => ?_⟩
  · rw [exec_jog hl hx hy]
    intro locked
    by_cases hz : z.toNat = 0 ∨ 50 < z.toNat
    · rw [if_pos hz, if_pos hz]
    by_cases hk : (c = 4 ∨ c = 5 ∨ c = 7) ∧ locked = true ∨ c = 7 ∧ s.rail.holdsTrain s.lots 5 .presented = true
    · rw [if_neg hz, if_neg hz, if_pos hk]; exact if_pos hk
    have hk' : ¬ ((c = 4 ∨ c = 5 ∨ c = 7) ∧ s.lots.locked = true ∨ c = 7 ∧ s.rail.holdsTrain s.lots 5 .presented = true) := hk
    simp only [if_neg hz, if_neg hk, if_neg hk']
    by_cases hh : s.rail.hold ≠ .held ∨ s.drive.chans[c].latch.isSome = true
    · rw [if_pos hh, if_pos hh]
    by_cases hb : s.rail.jog.isSome = true
    · simp only [if_neg hh, if_pos hb]
    simp only [if_neg hh, if_neg hb]
    obtain ⟨hrail, hdrive⟩ := State.jogReplied_eq (not_not.mp (not_or.mp hh).1) { chan := c, dir := d, left := z.toNat * 1000 }
    refine ⟨_, rfl, hrail, ?_, fun e he => ?_, ?_, State.jogReplied_lots .., State.jogReplied_replyLeft ..⟩
    · rw [hdrive]; exact Drive.energise_chan_self ..
    · rw [hdrive]; exact Drive.energise_chan_ne _ _ he
    · rw [hdrive]; rfl
  · obtain ⟨hrail, hdrive⟩ := State.jogStopped hj hh s
    have hchan : (s.drive.after j.left).chans[j.chan].latch = s.drive.chans[j.chan].latch := by rw [Drive.after_chan]
    refine ⟨_, congrArg Host.Outcome.next (s.expire_of_eq_some _ (State.jogTimer_some hj)), ?_, ?_, fun hl => ?_,
      fun h7 hg => ?_, ?_⟩
    · rw [State.jogEnded_rail, hrail]
    · rw [State.jogEnded_rail, hrail]; rfl
    · rw [State.jogEnded_drive, hdrive, Drive.halt_chan_self, Channel.halt_free (hchan.trans hl), StopMode.rest_eq,
        Drive.after_chan]
      exact ⟨rfl, rfl⟩
    · rw [hj]
      rw [State.jogEnded_rail, State.jogEnded_lots] at hg
      exact State.jogEnded_want h7 (by rw [hrail]; exact fun h => by cases h.symm.trans hh) hg
    · rw [State.jogEnded_lots, State.railDone_lots]; rfl

end Sys2Proof.Machine

/-!
Admission at INTAKE (R11, R25 to R27): what the decision leaves of the lots, the trains, the section, and the eject that pends
or is in flight for its occupant.
-/

namespace Sys2Proof.Machine

/-! ## Ejects ended and renamed -/

section
variable (w : RailWork)

/-- Ending an eject touches its slot and D0 alone. -/
theorem RailWork.cutEject_none (h : w.rail.ejectSlot = none) :
    w.cutEject = { w with rail := { w.rail with ejectPending := false } } := by
  have h' : (w.onRail fun r => { r with ejectPending := false }).rail.ejectSlot = none := h
  simp only [RailWork.cutEject, h']
  rfl

theorem RailWork.cutEject_some {i : Fin 3} (h : w.rail.ejectSlot = some i) : w.cutEject =
    { w with rail := { w.rail with ejectPending := false, slots := w.rail.slots.set i none }, drive := w.drive.halt 0 } := by
  have h' : (w.onRail fun r => { r with ejectPending := false }).rail.ejectSlot = some i := h
  simp only [RailWork.cutEject, h']
  rfl

theorem RailWork.cutEject_rail : ∃ v, w.cutEject.rail = { w.rail with ejectPending := false, slots := v } := by
  cases h : w.rail.ejectSlot with
  | none => rw [w.cutEject_none h]; exact ⟨_, rfl⟩
  | some i => rw [w.cutEject_some h]; exact ⟨_, rfl⟩

theorem RailWork.cutEject_raised : w.cutEject.raised = w.raised := by
  cases h : w.rail.ejectSlot with
  | none => rw [w.cutEject_none h]
  | some i => rw [w.cutEject_some h]

end

section
variable {r : Rail} {i : Fin 3}

theorem Rail.ejectSlot_none : r.ejectSlot = none ↔ ∀ (i : Fin 3) (m : Move), r.slots[i] = some m → m.dest ≠ .out := by
  rw [Rail.ejectSlot, Rail.findSlot_none]
  simp

theorem Rail.ejectSlot_of_ejectIn (h : r.ejectIn i) : r.ejectSlot = some i := by
  cases hs : r.ejectSlot with
  | none =>
    obtain ⟨m, hm, hd⟩ := (h i).mpr rfl
    exact absurd hd (Rail.ejectSlot_none.mp hs i m hm)
  | some j =>
    obtain ⟨m, hm, hd⟩ := Rail.findSlot_some hs
    rw [(h j).mp ⟨m, hm, by simpa using hd⟩]

theorem Rail.renameEject_eq (r : Rail) (t : Nat) : ∃ v, r.renameEject t = { r with slots := v } := by
  unfold Rail.renameEject
  split
  · exact ⟨_, rfl⟩
  · exact ⟨_, rfl⟩

end

section
variable {s v : State} {n : Nat}

/-- A state whose rail is that of an eject ended. -/
theorem State.ejectCut_of {w : RailWork} (hw : w.rail.slots = s.rail.slots) (hd : w.drive = s.drive)
    (hr : v.rail = w.cutEject.rail) (hv : v.drive = w.cutEject.drive) : s.ejectCut v := by
  have hslot : w.rail.ejectSlot = s.rail.ejectSlot := by unfold Rail.ejectSlot Rail.findSlot; rw [hw]
  refine ⟨?_, fun hn => ?_, fun i hi => ?_⟩
  · obtain ⟨x, hx⟩ := w.cutEject_rail
    rw [hr, hx]
  · rw [hr, hv, w.cutEject_none (hslot.trans (Rail.ejectSlot_none.mpr hn))]
    exact ⟨hw, hd⟩
  · rw [hr, hv, w.cutEject_some (hslot.trans (Rail.ejectSlot_of_ejectIn hi)), hw, hd]
    refine ⟨get_set_self .., fun j hj => get_set_ne _ _ hj, rfl, fun c hc => Drive.halt_chan_ne _ hc, fun hl => ?_⟩
    rw [Drive.halt_chan_self, Channel.halt_free hl, StopMode.rest_eq]

theorem State.ejectGoesOn_of {r : Rail} (hs : r.slots = s.rail.slots) (hp : r.ejectPending = s.rail.ejectPending)
    (hr : v.rail = r.renameEject n) (hd : v.drive = s.drive) : s.ejectGoesOn n v := by
  have hslot : r.ejectSlot = s.rail.ejectSlot := by unfold Rail.ejectSlot Rail.findSlot; rw [hs]
  refine ⟨?_, hd, fun hn => ?_, fun i hi => ?_⟩
  · obtain ⟨x, hx⟩ := r.renameEject_eq n
    rw [hr, hx]; exact hp
  · rw [hr, Rail.renameEject, hslot, Rail.ejectSlot_none.mpr hn]; exact hs
  · rw [hr, Rail.renameEject, hslot, Rail.ejectSlot_of_ejectIn hi, ← hs]
    exact ⟨get_set_self .., fun j hj => get_set_ne _ _ hj⟩

/-! ## INTAKE named -/

theorem State.intakeNamed_of (hs : v.rail.secs = (s.rail.intakeTrain n).secs)
    (hst : v.rail.stalls = (s.rail.intakeTrain n).stalls) (ht : v.rail.unknownTag = none) : s.intakeNamed n v := by
  unfold State.intakeNamed
  rw [hs, hst, ht]
  have h0 : (s.rail.intakeTrain n).secs[(0 : Sec)] = { s.rail.secs[(0 : Sec)] with
      cond := if s.rail.secs[(0 : Sec)].cond = .blocked then .blocked else .occupied, occupant := some n } :=
    get_set_self s.rail.secs (0 : Sec) _
  exact ⟨by rw [h0], by rw [h0], rfl, get_set_self s.rail.stalls (0 : Sec) _,
    fun k hk => ⟨get_set_ne s.rail.secs _ hk, get_set_ne s.rail.stalls _ hk⟩⟩

/-- An INTAKE named keeps its occupant through the examination of eligibility. -/
theorem State.intakeNamed.railDone (h : s.intakeNamed n v) (b : State) :
    (v.railDone b).rail.secs[(0 : Sec)].occupant = some n ∧ (v.railDone b).rail.unknownTag = none := by
  obtain ⟨hc, ho, ht, -⟩ := h
  have hs := v.railDone_spares b
  refine ⟨((hs.secs 0).occupant ?_).trans ho, hs.tag.trans ht⟩
  show v.rail.secs[(0 : Sec)].cond ≠ .clear
  rw [hc]; split <;> nofun

end

/-! ## The decision -/

section
variable (s : State) (t : Nat)

/-- The rail at the admission of a train, before the eject for it is ended. -/
def State.admitting : RailWork := { rail := s.rail.intakeTrain t, drive := s.drive, raised := 0 }

theorem State.admitAt_rail : (s.admitAt t).rail = (s.admitting t).cutEject.rail := rfl
theorem State.admitAt_drive : (s.admitAt t).drive = (s.admitting t).cutEject.drive := rfl
theorem State.admitAt_lots : (s.admitAt t).lots = s.lots.admitTrain t := rfl
theorem State.admitAt_holds : (s.admitAt t).holds .admitted = true := State.holds_raise_self ..

theorem State.admitAt_named : s.intakeNamed t (s.admitAt t) := by
  obtain ⟨x, hx⟩ := (s.admitting t).cutEject_rail
  have hr := (s.admitAt_rail t).trans hx
  exact State.intakeNamed_of ((congrArg Rail.secs hr).trans rfl) ((congrArg Rail.stalls hr).trans rfl)
    ((congrArg Rail.unknownTag hr).trans rfl)

theorem State.admitAt_cut : s.ejectCut (s.admitAt t) :=
  State.ejectCut_of (w := s.admitting t) rfl rfl (s.admitAt_rail t) (s.admitAt_drive t)

theorem State.admitAt_wait : (s.admitAt t).rail.adm = s.rail.adm ∧ (s.admitAt t).rail.heldTag = s.rail.heldTag ∧
    (s.admitAt t).rail.admTimer = s.rail.admTimer := by
  obtain ⟨x, hx⟩ := (s.admitting t).cutEject_rail
  have hr := (s.admitAt_rail t).trans hx
  exact ⟨(congrArg Rail.adm hr).trans rfl, (congrArg Rail.heldTag hr).trans rfl, (congrArg Rail.admTimer hr).trans rfl⟩

/-- A train held MISORDER at INTAKE, the eject in flight renamed after it (R26, R27). -/
def State.misorderAt : State :=
  ((s.onLots fun ls => ls.misorder t).mapRail fun r => (r.intakeTrain t).renameEject t).raise .misorder

theorem State.misorderAt_rail : (s.misorderAt t).rail = (s.rail.intakeTrain t).renameEject t := rfl

theorem State.misorderAt_named : s.intakeNamed t (s.misorderAt t) := by
  obtain ⟨x, hx⟩ := (s.rail.intakeTrain t).renameEject_eq t
  have hr := (s.misorderAt_rail t).trans hx
  exact State.intakeNamed_of ((congrArg Rail.secs hr).trans rfl) ((congrArg Rail.stalls hr).trans rfl)
    ((congrArg Rail.unknownTag hr).trans rfl)

theorem State.misorderAt_goesOn : s.ejectGoesOn t (s.misorderAt t) :=
  State.ejectGoesOn_of (r := s.rail.intakeTrain t) rfl rfl rfl rfl

theorem State.misorderAt_wait : (s.misorderAt t).rail.adm = s.rail.adm ∧
    (s.misorderAt t).rail.heldTag = s.rail.heldTag ∧ (s.misorderAt t).rail.admTimer = s.rail.admTimer := by
  obtain ⟨x, hx⟩ := (s.rail.intakeTrain t).renameEject_eq t
  have hr := (s.misorderAt_rail t).trans hx
  exact ⟨(congrArg Rail.adm hr).trans rfl, (congrArg Rail.heldTag hr).trans rfl, (congrArg Rail.admTimer hr).trans rfl⟩

/-- An unknown occupant with its tag (R26). -/
def State.unknownAt : State := (s.mapRail fun r => { r.occupy 0 none with unknownTag := some t }).raise .unknownTag

/-- The three outcomes of the decision (R26). -/
theorem State.decideAdmission_eq : s.decideAdmission t = match s.lots.admission t with
    | .admitted => (s.mapRail Rail.endWait).admitAt t
    | .misorder => (s.mapRail Rail.endWait).misorderAt t
    | .unknown => (s.mapRail Rail.endWait).unknownAt t := rfl

end

section
variable {ls : LotStore} {t n : Nat} {r : Train}

theorem LotStore.trainState_eq (h : ls.trains.get t = some r) : ls.trainState t = some r.state := by
  rw [LotStore.trainState, h]; rfl

theorem LotStore.admission_announced (h : ls.trains.get t = some r) (ha : r.state = .announced) :
    ls.admission t = if ls.queue.head? = some t then .admitted else .misorder := by
  rw [LotStore.admission, if_pos (by rw [LotStore.trainState_eq h, ha])]

theorem LotStore.admission_unknown (h : ls.trainState t ≠ some .announced) : ls.admission t = .unknown := if_neg h

theorem LotStore.get_admitTrain_self (h : ls.trains.get t = some r) :
    (ls.admitTrain t).trains.get t = some { r with state := .onRail, sec := some 0 } := by
  simp only [LotStore.admitTrain, LotStore.onTrain, Tbl.get_modify_self, h, Option.map_some]

theorem LotStore.get_admitTrain_ne (h : n ≠ t) : (ls.admitTrain t).trains.get n = ls.trains.get n := by
  simp only [LotStore.admitTrain, LotStore.onTrain, Tbl.get_modify_ne _ _ h]

theorem LotStore.get_misorder_self (h : ls.trains.get t = some r) :
    (ls.misorder t).trains.get t = some { r with state := .misorder, sec := some 0 } := by
  simp only [LotStore.misorder, LotStore.onTrain, Tbl.get_modify_self, h, Option.map_some]

theorem LotStore.get_misorder_ne (h : n ≠ t) : (ls.misorder t).trains.get n = ls.trains.get n := by
  simp only [LotStore.misorder, LotStore.onTrain, Tbl.get_modify_ne _ _ h]

end

/-! ## What the decision leaves after the examination -/

section
variable (s b : State) (t : Nat)

theorem State.railDone_wait : ((s.railDone b).rail.adm = s.rail.adm ∧ (s.railDone b).rail.heldTag = s.rail.heldTag ∧
    (s.railDone b).rail.admTimer = s.rail.admTimer) := (s.railDone_spares b).admission

/-- The decision ends the admission wait. -/
theorem State.decideAdmission_wait : ((s.decideAdmission t).rail.adm = .idle ∧ (s.decideAdmission t).rail.heldTag = none ∧
    (s.decideAdmission t).rail.admTimer = none) := by
  rw [State.decideAdmission_eq]
  cases s.lots.admission t with
  | admitted => exact (s.mapRail Rail.endWait).admitAt_wait t
  | misorder => exact (s.mapRail Rail.endWait).misorderAt_wait t
  | unknown => exact ⟨rfl, rfl, rfl⟩

theorem State.decideAdmission_lots : (s.decideAdmission t).lots.lots = s.lots.lots := by
  rw [State.decideAdmission_eq]
  cases s.lots.admission t <;> rfl

theorem State.decideAdmission_trains {n : Nat} (h : n ≠ t) : (s.decideAdmission t).lots.trains.get n = s.lots.trains.get n := by
  rw [State.decideAdmission_eq]
  cases s.lots.admission t with
  | admitted => exact LotStore.get_admitTrain_ne h
  | misorder => exact LotStore.get_misorder_ne h
  | unknown => rfl

theorem State.unknownAt_railDone : ((s.unknownAt t).railDone b).rail.secs[(0 : Sec)].occupant = none ∧
    ((s.unknownAt t).railDone b).rail.unknownTag = some t ∧ ((s.unknownAt t).railDone b).holds .unknownTag = true := by
  have hs := (s.unknownAt t).railDone_spares b
  have h0 : (s.unknownAt t).work.rail.secs[(0 : Sec)] = { s.rail.secs[(0 : Sec)] with cond := .occupied, occupant := none } :=
    get_set_self s.rail.secs (0 : Sec) _
  refine ⟨?_, hs.tag, State.railDone_holds (State.holds_raise_self ..)⟩
  exact ((hs.secs 0).occupant (by rw [h0]; nofun)).trans (by rw [h0])

/-- What the admission decision leaves (R11, R26). -/
theorem State.admits_decideAdmission : s.admits t ((s.decideAdmission t).railDone b) := by
  unfold State.admits
  obtain ⟨h1, h2, h3⟩ := s.decideAdmission_wait t
  obtain ⟨w1, w2, w3⟩ := (s.decideAdmission t).railDone_wait b
  rw [State.railDone_lots]
  refine ⟨w1.trans h1, w2.trans h2, w3.trans h3, s.decideAdmission_lots t, fun n hn => s.decideAdmission_trains t hn, ?_⟩
  have hu (hns : s.lots.trainState t ≠ some .announced) : s.decideAdmission t = (s.mapRail Rail.endWait).unknownAt t := by
    rw [State.decideAdmission_eq, LotStore.admission_unknown hns]
  cases hr : s.lots.trains.get t with
  | none =>
    rw [hu (by rw [LotStore.trainState, hr]; nofun)]
    exact ⟨rfl, hr, State.unknownAt_railDone ..⟩
  | some r =>
    dsimp only
    by_cases ha : r.state = .announced
    · rw [if_pos ha, State.decideAdmission_eq, LotStore.admission_announced hr ha]
      by_cases hq : s.lots.queue.head? = some t
      · rw [if_pos hq, if_pos hq]
        obtain ⟨ho, ht⟩ := ((s.mapRail Rail.endWait).admitAt_named t).railDone b
        exact ⟨ho, ht, rfl, LotStore.get_admitTrain_self hr, State.railDone_holds (State.admitAt_holds ..)⟩
      · rw [if_neg hq, if_neg hq]
        obtain ⟨ho, ht⟩ := ((s.mapRail Rail.endWait).misorderAt_named t).railDone b
        exact ⟨ho, ht, rfl, LotStore.get_misorder_self hr, State.railDone_holds (State.holds_raise_self ..)⟩
    · rw [if_neg ha, hu (by rw [LotStore.trainState_eq hr]; exact fun h => ha (Option.some.inj h))]
      exact ⟨rfl, hr, State.unknownAt_railDone ..⟩

end

/-! ## Tags and arrivals -/

section
variable {s : State}

theorem State.tagTaken_waiting (h : s.rail.adm = .waitTag) (tag : Nat) : s.tagTaken tag = s.decideAdmission tag := if_pos h

theorem State.tagTaken_held (h : s.rail.adm ≠ .waitTag) (hc : s.rail.secs[(0 : Sec)].cond = .clear ∨ s.rail.leavingIntake = true)
    (tag : Nat) : s.tagTaken tag =
      s.mapRail fun r => { r with adm := .waitPresence, heldTag := some tag, admTimer := some 20000 } :=
  (if_neg h).trans (if_pos hc)

theorem State.tagTaken_discarded (h : s.rail.adm ≠ .waitTag)
    (hc : ¬ (s.rail.secs[(0 : Sec)].cond = .clear ∨ s.rail.leavingIntake = true)) (tag : Nat) : s.tagTaken tag = s :=
  (if_neg h).trans (if_neg hc)

theorem Rail.leavingIntake_iff {r : Rail} : r.leavingIntake = true ↔
    ∃ (i : Fin 3) (m : Move), r.slots[i] = some m ∧ m.source = 0 ∧ m.dest ≠ .out := by
  rw [Rail.leavingIntake, Rail.findSlot_isSome]
  simp

/-- A rise at a CLEAR INTAKE that no move touches is an arrival. -/
theorem exec_arrival (hslot : s.rail.slotAt 0 = none) (hc : s.rail.secs[(0 : Sec)].cond = .clear)
    (hp : s.inputs.presence[(0 : Sec)] = false) :
    exec (.presenceEdge 0 true) s = .next ((s.setPresence 0 true).arrival.railDone s) := by
  have hedge : (s.setPresence 0 true).edge 0 true = (s.setPresence 0 true).arrival := by
    have h1 : (s.setPresence 0 true).rail.slotAt 0 = none := hslot
    have h2 : (s.setPresence 0 true).rail.secs[(0 : Sec)].cond = .clear := hc
    simp only [State.edge, h1]
    exact if_pos ⟨trivial, trivial, h2⟩
  show execPresenceEdge 0 true s = _
  rw [execPresenceEdge, if_neg (by rw [hp]; nofun), hedge]

theorem State.arrival_tagged {tag : Nat} (ha : s.rail.adm = .waitPresence) (ht : s.rail.heldTag = some tag) :
    s.arrival = s.decideAdmission tag := by
  simp only [State.arrival, ha, ht]

theorem State.arrival_idle (ha : s.rail.adm = .idle) : s.arrival = s.mapRail fun r =>
    { r.occupy 0 none with adm := .waitTag, heldTag := none, admTimer := some 20000 } := by
  simp only [State.arrival, ha]
  rfl

/-- A gate operation that begins touches no section but PRESENT. -/
theorem RailWork.beginGate_sec_ne (w : RailWork) (ls : LotStore) {k : Sec} (h : k ≠ 5) :
    (w.beginGate ls).rail.secs[k] = w.rail.secs[k] := by
  by_cases hw : w.rail.wanted ls = .opened
  · cases hl : w.drive.chans[(7 : Chan)].latch with
    | none => rw [RailWork.beginGate_opening hw hl]; rfl
    | some f =>
      rw [RailWork.beginGate_refused hw (by rw [hl]; rfl)]
      exact Rail.block_ne _ h
  · rw [RailWork.beginGate_closing hw]; rfl

/-- INTAKE with an occupant that nothing may move or eject. -/
def Rail.Resting (r : Rail) (x : SecRec) : Prop := r.secs[(0 : Sec)] = x ∧ r.ejectPending = false

theorem RailWork.resting_settle {w : RailWork} {x : SecRec} (h : w.rail.Resting x) (ho : x.occupant = none)
    (ls : LotStore) : (w.settle ls).rail.Resting x := by
  have harb (v : RailWork) (hv : v.rail.Resting x) : (RailWork.arbitrate ls 10 v).rail.Resting x := by
    refine RailWork.arbitrate_keeps (P := fun v => v.rail.Resting x) (fun v i a b hv hf hm => ?_)
      (fun v i hv hf _ he => ?_) 10 hv
    · obtain ⟨hdue, hb, -⟩ := Rail.nextMove_some hm
      have ha : (0 : Sec) ≠ a := by
        rintro rfl
        obtain ⟨-, -, htrain, -⟩ := Rail.moveDue_iff.mp hdue
        rw [if_neg (by decide), Rail.holdsTrain_iff, hv.1, ho] at htrain
        obtain ⟨_, he, -⟩ := htrain
        cases he
      have hb0 : (0 : Sec) ≠ b := by rintro rfl; simp at hb
      have hi := (Rail.freeSlot_some hf).1
      exact ⟨(RailWork.grantMove_sec_ne hi (ne_of_next hb) ha hb0).trans hv.1,
        (RailWork.spares_grantMove hi (ne_of_next hb) hdue).eject hv.2⟩
    · exact absurd ((Rail.ejectDue_iff.mp he).1.symm.trans hv.2) nofun
  by_cases hh : w.rail.hold = .none
  · rw [RailWork.settle_free w ls hh]
    refine harb _ ?_
    split
    · next hg =>
      exact ⟨(RailWork.beginGate_sec_ne w ls (by decide)).trans h.1, (RailWork.spares_beginGate hg).eject h.2⟩
    · exact h
  · rw [RailWork.settle_held w ls hh]
    rcases w.holdTest_cases with ⟨e, -⟩ | ⟨-, -, -, e⟩ <;> rw [e] <;> exact h

end

/-- Settles O23: what a tag, a rise at INTAKE and the end of the tag wait decide. -/
theorem admissionDecidesByQueue : Obligations.AdmissionDecidesByQueue := by
  intro s
  refine ⟨fun tag h => ?_, fun h ht => ?_, fun tag h ht hs hc hp => ?_, fun h hs hc hp he => ?_, fun tag h => ⟨fun hc => ?_, fun hc hl => ?_⟩, fun h ht => ?_⟩
  · exact ⟨_, congrArg (fun v : State => Host.Outcome.next (v.railDone s)) (State.tagTaken_waiting h _), s.admits_decideAdmission s _⟩
  · obtain ⟨n, hn⟩ := Option.isSome_iff_exists.mp ht
    refine ⟨_, congrArg Host.Outcome.next (s.expire_of_eq_some _ hn), ?_⟩
    rw [State.tagWaitOver, if_pos (by exact h)]
    exact (s.elapse n).admits_decideAdmission s 0
  · refine ⟨_, exec_arrival hs hc hp, ?_⟩
    rw [State.arrival_tagged (s := s.setPresence 0 true) h ht]
    exact (s.setPresence 0 true).admits_decideAdmission s tag
  · refine ⟨_, exec_arrival hs hc hp, ?_⟩
    rw [State.arrival_idle (s := s.setPresence 0 true) h]
    set v := (s.setPresence 0 true).mapRail fun r =>
      { r.occupy 0 none with adm := .waitTag, heldTag := none, admTimer := some 20000 } with hv
    have h0 : v.rail.secs[(0 : Sec)] = { s.rail.secs[(0 : Sec)] with cond := .occupied, occupant := none } :=
      get_set_self s.rail.secs (0 : Sec) _
    obtain ⟨w1, -, w3⟩ := v.railDone_wait s
    have hrest : (v.railDone s).rail.Resting { s.rail.secs[(0 : Sec)] with cond := .occupied, occupant := none } := by
      rw [State.railDone_rail]
      exact RailWork.resting_settle (w := v.work) ⟨h0, he⟩ rfl _
    refine ⟨w1, w3, ?_, ?_, State.railDone_lots ..⟩
    · rw [hrest.1]
    · rw [hrest.1]
  · refine ⟨_, congrArg (fun v : State => Host.Outcome.next (v.railDone s))
      (State.tagTaken_held h (hc.imp_right Rail.leavingIntake_iff.mpr) _), ?_⟩
    obtain ⟨w1, w2, w3⟩ := State.railDone_wait _ s
    exact ⟨w1, w2, w3, State.railDone_lots ..⟩
  · have hd : ¬ (s.rail.secs[(0 : Sec)].cond = .clear ∨ s.rail.leavingIntake = true) :=
      not_or.mpr ⟨hc, fun hi => hl (Rail.leavingIntake_iff.mp hi)⟩
    obtain ⟨w1, w2, w3⟩ := s.railDone_wait s
    exact ⟨_, congrArg (fun v : State => Host.Outcome.next (v.railDone s)) (State.tagTaken_discarded h hd _), rfl, w1, w2, w3,
      State.railDone_lots ..⟩
  · obtain ⟨n, hn⟩ := Option.isSome_iff_exists.mp ht
    refine ⟨_, congrArg Host.Outcome.next (s.expire_of_eq_some _ hn), ?_⟩
    have hw : (s.elapse n).tagWaitOver = (s.elapse n).mapRail Rail.endWait :=
      if_neg (fun e : s.rail.adm = .waitTag => by cases h.symm.trans e)
    rw [hw]
    obtain ⟨w1, w2, w3⟩ := State.railDone_wait ((s.elapse n).mapRail Rail.endWait) s
    exact ⟨w1, w2, w3, State.railDone_lots ..⟩

end Sys2Proof.Machine

/-!
REORDER and ANNOUNCE TRAIN (R9, R15), with the admission decision they may make again (R27).
-/

namespace Sys2Proof.Machine

/-! ## Lots given to a train -/

section
variable (ls : LotStore) (t : Nat) (ns : List Nat) (place : Nat)

/-- A lot entry given to a train at a place (R9 step 2). -/
def Lot.given (l : Lot) (t place : Nat) : Lot := { l with state := .announced, train := some t, place := some place }

theorem LotStore.giveLots_cons (n : Nat) : ls.giveLots t (n :: ns) place =
    (ls.onLot n fun l => l.given t place).giveLots t ns (place + 1) := rfl

theorem LotStore.onLot_get (n m : Nat) (f : Lot → Lot) :
    (ls.onLot n f).lots.get m = if m = n then (ls.lots.get m).map f else ls.lots.get m := Tbl.get_modify ..

theorem LotStore.get_giveLots_ne {n : Nat} (h : n ∉ ns) : (ls.giveLots t ns place).lots.get n = ls.lots.get n := by
  induction ns generalizing ls place with
  | nil => rfl
  | cons m ns ih =>
    obtain ⟨hm, hns⟩ := not_or.mp (mt List.mem_cons.mpr h)
    rw [LotStore.giveLots_cons, ih _ _ hns, LotStore.onLot_get, if_neg hm]

theorem LotStore.get_giveLots {i n : Nat} (hd : ns.Nodup) (h : ns[i]? = some n) :
    (ls.giveLots t ns place).lots.get n = (ls.lots.get n).map fun l => l.given t (place + i) := by
  induction ns generalizing ls place i with
  | nil => simp at h
  | cons m ns ih =>
    obtain ⟨hm, hns⟩ := List.nodup_cons.mp hd
    rw [LotStore.giveLots_cons]
    cases i with
    | zero =>
      obtain rfl : m = n := by simpa using h
      rw [LotStore.get_giveLots_ne _ _ _ _ hm, LotStore.onLot_get, if_pos rfl]
      rfl
    | succ i =>
      have h' : ns[i]? = some n := by simpa using h
      have hne : n ≠ m := fun e => hm (e ▸ List.mem_of_getElem? h')
      rw [ih _ _ hns h', LotStore.onLot_get, if_neg hne, Nat.add_assoc, Nat.add_comm 1 i]

end

section
variable (ls : LotStore) (t k : Nat) (ns : List Nat)

theorem LotStore.announce_queue : (ls.announce t k ns).queue = ls.queue ++ [t] := by
  rw [LotStore.announce, LotStore.giveLots_eq]

theorem LotStore.announce_lots : (ls.announce t k ns).lots = (ls.giveLots t ns 1).lots := by
  have h (a b : LotStore) (e : a.lots = b.lots) (place : Nat) : (a.giveLots t ns place).lots = (b.giveLots t ns place).lots := by
    induction ns generalizing a b place with
    | nil => exact e
    | cons n ns ih => exact ih _ _ (by simp only [LotStore.onLot, e]) _
  exact h { ls with trains := ls.trains.put t (announcedTrain k ns) } ls rfl 1

/-- The decision for a train just announced: admitted where it stands alone in the queue. -/
theorem LotStore.announce_admission : (ls.announce t k ns).admission t =
    if (ls.queue ++ [t]).head? = some t then .admitted else .misorder := by
  rw [LotStore.admission_announced (r := announcedTrain k ns) _ rfl, LotStore.announce_queue]
  rw [LotStore.announce_trains, Tbl.get_put_self]

end

/-! ## A command that ends in an examination of eligibility -/

/-- The part after a command of `s` on a port that leaves `v`, eligibility examined and the reply given. -/
def State.doneOn (s : State) (p : Role) (v : State) (x : Reply) : State := (v.railDone (s.frameTaken p)).giveReply p x

section
variable (s : State) (p : Role) (v : State) (x : Reply)

theorem answered_railDone : answered p (v.railDone (s.frameTaken p), x) = .next (s.doneOn p v x) := rfl

theorem State.doneOn_rail : (s.doneOn p v x).rail = (v.railDone (s.frameTaken p)).rail := State.giveReply_rail ..
@[simp] theorem State.doneOn_lots : (s.doneOn p v x).lots = v.lots := by
  rw [State.doneOn, State.giveReply_lots, State.railDone_lots]
@[simp] theorem State.doneOn_clock : (s.doneOn p v x).clock = v.clock := by
  rw [State.doneOn, State.giveReply_clock, State.railDone_clock]
@[simp] theorem State.doneOn_scan : (s.doneOn p v x).scan = v.scan := by
  rw [State.doneOn, State.giveReply_scan, State.railDone_scan]
@[simp] theorem State.doneOn_accounts : (s.doneOn p v x).accounts = v.accounts := by
  rw [State.doneOn, State.giveReply_accounts, State.railDone_accounts]
@[simp] theorem State.doneOn_log : (s.doneOn p v x).log = v.log := by
  rw [State.doneOn, State.giveReply_log, State.railDone_log]
@[simp] theorem State.doneOn_inputs : (s.doneOn p v x).inputs = v.inputs := by
  rw [State.doneOn, State.giveReply_inputs, State.railDone_inputs]

variable {s p v}

theorem State.doneOn_holds {e : Event} (h : v.holds e = true) :
    (s.doneOn p v x).holds e = true :=
  (State.giveReply_holds ..).trans (State.railDone_holds h)

theorem State.doneOn_replyLeft (h : (v.port p).checkNow = (s.port p).checkNow) :
    ((s.doneOn p v x).port p).replyLeft = replyWords (s.port p).checkNow x := by
  rw [State.doneOn, State.giveReply_replyLeft, State.railDone_checkNow, h]

end

section
variable (s : State) (t : Nat)

theorem State.admitAt_checkNow : ((s.admitAt t).port .yard).checkNow = (s.port .yard).checkNow :=
  (State.raise_checkNow ..).trans rfl

theorem State.decideAdmission_checkNow : ((s.decideAdmission t).port .yard).checkNow = (s.port .yard).checkNow := by
  rw [State.decideAdmission_eq]
  cases s.lots.admission t with
  | admitted => exact (s.mapRail Rail.endWait).admitAt_checkNow t
  | misorder => exact (State.raise_checkNow ..).trans rfl
  | unknown => exact (State.raise_checkNow ..).trans rfl

end

/-! ## REORDER -/

section
variable {s : State} {t : Nat} {tr : Train} (h : s.lots.trains.get t = some tr)
include h

theorem takeReorder_queued (hs : tr.state = .announced) :
    takeReorder t s = ((s.onLots fun ls => ls.toHead t).reface, Reply.done []) := by
  simp only [takeReorder, h, hs, if_true]

theorem takeReorder_misorder (hs : tr.state = .misorder) :
    takeReorder t s = (((s.onLots fun ls => ls.toHead t).admitAt t).railDone s, Reply.done []) := by
  simp only [takeReorder, h, hs]
  rfl

theorem takeReorder_elsewhere (ha : tr.state ≠ .announced) (hm : tr.state ≠ .misorder) : takeReorder t s = refuse s .state := by
  simp only [takeReorder, h]
  rw [if_neg ha, if_neg hm]

end

theorem LotStore.admitTrain_toHead_queue (ls : LotStore) (t : Nat) :
    ((ls.toHead t).admitTrain t).queue = ls.queue.filter (· ≠ t) := by
  have h : (t :: ls.queue.filter (· ≠ t)).filter (· ≠ t) = ls.queue.filter (· ≠ t) := by simp
  exact h

/-- The part with a MISORDER train at the head, admitted. -/
def State.reordered (s : State) (t : Nat) : State := ((s.frameTaken .yard).onLots fun ls => ls.toHead t).admitAt t

section
variable {s : State} {t : BitVec 16} (hl : s.listens .yard = true)
include hl

theorem exec_reorder_absent (h : s.lots.trains.get t.toNat = none) :
    exec (.reorder .yard t) s = .next (s.rejected .yard .notFound) := by
  have hr : takeReorder t.toNat (s.frameTaken .yard) = refuse (s.frameTaken .yard) .notFound := by
    have h' : (s.frameTaken .yard).lots.trains.get t.toNat = none := h
    simp only [takeReorder, h']
  exact (exec_yard_answered (.reorder .yard t) rfl rfl rfl hl).trans
    ((congrArg (answered .yard) hr).trans (answered_refuse ..))

variable {tr : Train} (h : s.lots.trains.get t.toNat = some tr)
include h

theorem exec_reorder_elsewhere (ha : tr.state ≠ .announced) (hm : tr.state ≠ .misorder) :
    exec (.reorder .yard t) s = .next (s.rejected .yard .state) :=
  (exec_yard_answered (.reorder .yard t) rfl rfl rfl hl).trans
    ((congrArg (answered .yard) (takeReorder_elsewhere (s := s.frameTaken .yard) h ha hm)).trans (answered_refuse ..))

theorem exec_reorder_misorder (hm : tr.state = .misorder) :
    exec (.reorder .yard t) s = .next (s.doneOn .yard (s.reordered t.toNat) (Reply.done [])) :=
  (exec_yard_answered (.reorder .yard t) rfl rfl rfl hl).trans
    ((congrArg (answered .yard) (takeReorder_misorder (s := s.frameTaken .yard) h hm)).trans
      (answered_railDone s .yard (s.reordered t.toNat) _))

theorem exec_reorder_queued (ha : tr.state = .announced) : exec (.reorder .yard t) s = .next ((((s.frameTaken .yard).onLots
    fun ls => ls.toHead t.toNat).reface).giveReply .yard (Reply.done [])) :=
  (exec_yard_answered (.reorder .yard t) rfl rfl rfl hl).trans
    (congrArg (answered .yard) (takeReorder_queued (s := s.frameTaken .yard) h ha))

end

section
variable (s : State) (t : Nat)

theorem State.reordered_named : s.intakeNamed t (s.reordered t) :=
  ((s.frameTaken .yard).onLots fun ls => ls.toHead t).admitAt_named t

theorem State.reordered_cut : s.ejectCut (s.reordered t) := ((s.frameTaken .yard).onLots fun ls => ls.toHead t).admitAt_cut t

theorem State.reordered_lots : (s.reordered t).lots = (s.lots.toHead t).admitTrain t := rfl

theorem State.reordered_holds : (s.reordered t).holds .admitted = true := State.admitAt_holds ..

theorem State.reordered_checkNow : ((s.reordered t).port .yard).checkNow = (s.port .yard).checkNow :=
  (State.admitAt_checkNow ..).trans (s.frameTaken_checkNow .yard)

end

/-- Settles O16: a queued train goes to the head, and a MISORDER train is admitted at once. -/
theorem reorderMovesToHead : Obligations.ReorderMovesToHead := by
  intro s t hl
  cases h : s.lots.trains.get t.toNat with
  | none => exact exec_reorder_absent hl h
  | some tr =>
    dsimp only
    split
    · next ha => exact exec_reorder_queued hl h ha
    · next hm =>
      obtain ⟨ho, hu⟩ := (s.reordered_named t.toNat).railDone (s.frameTaken .yard)
      refine ⟨_, exec_reorder_misorder hl h hm, ?_, ?_, fun n hn => ?_, ?_, ho, hu,
        State.doneOn_holds _ (s.reordered_holds _), State.doneOn_replyLeft _ (s.reordered_checkNow _),
        s.reordered t.toNat, rfl, s.reordered_named _, s.reordered_cut _⟩
      · rw [State.doneOn_lots, State.reordered_lots, LotStore.admitTrain_toHead_queue]
      · rw [State.doneOn_lots, State.reordered_lots, LotStore.get_admitTrain_self (ls := s.lots.toHead t.toNat) h]
      · rw [State.doneOn_lots, State.reordered_lots, LotStore.get_admitTrain_ne hn]; rfl
      · rw [State.doneOn_lots]; rfl
    all_goals
      next hs => exact exec_reorder_elsewhere hl h (by rw [hs]; nofun) (by rw [hs]; nofun)

/-! ## ANNOUNCE TRAIN -/

/-- The part with a train announced, and the admission decision made again where INTAKE's unknown occupant carries its tag. -/
def State.announcing (s : State) (t k : Nat) (ns : List Nat) : State :=
  ((s.frameTaken .yard).onLots fun ls => ls.announce t k ns).announcedTag t

section
variable (s : State) (t k : Nat) (ns : List Nat)

theorem State.announcing_away (h : s.rail.unknownTag ≠ some t) :
    s.announcing t k ns = (s.frameTaken .yard).onLots fun ls => ls.announce t k ns := if_neg h

theorem State.announcing_here (h : s.rail.unknownTag = some t) :
    s.announcing t k ns = ((s.frameTaken .yard).onLots fun ls => ls.announce t k ns).decideAdmission t := if_pos h

theorem State.announcing_lots : (s.announcing t k ns).lots.lots = (s.lots.announce t k ns).lots := by
  by_cases h : s.rail.unknownTag = some t
  · rw [s.announcing_here t k ns h, State.decideAdmission_lots]; rfl
  · rw [s.announcing_away t k ns h]; rfl

theorem State.announcing_trains_ne {n : Nat} (hn : n ≠ t) :
    (s.announcing t k ns).lots.trains.get n = s.lots.trains.get n := by
  have ha : (s.lots.announce t k ns).trains.get n = s.lots.trains.get n := by
    rw [LotStore.announce_trains, Tbl.get_put_ne _ _ hn]
  by_cases h : s.rail.unknownTag = some t
  · rw [s.announcing_here t k ns h, State.decideAdmission_trains _ _ hn]; exact ha
  · rw [s.announcing_away t k ns h]; exact ha

theorem State.announcing_checkNow : ((s.announcing t k ns).port .yard).checkNow = (s.port .yard).checkNow := by
  by_cases h : s.rail.unknownTag = some t
  · rw [s.announcing_here t k ns h, State.decideAdmission_checkNow]; exact s.frameTaken_checkNow .yard
  · rw [s.announcing_away t k ns h]; exact s.frameTaken_checkNow .yard

end

section
variable {s : State} {t k : Nat} {ns : List Nat}

/-- The part with a train announced, before any admission. -/
def State.listed (s : State) (t k : Nat) (ns : List Nat) : State :=
  ((s.frameTaken .yard).onLots fun ls => ls.announce t k ns).mapRail Rail.endWait

theorem State.announcing_admitted (h : s.rail.unknownTag = some t) (hf : (s.lots.queue ++ [t]).head? = some t) :
    s.announcing t k ns = (s.listed t k ns).admitAt t := by
  rw [s.announcing_here t k ns h, State.decideAdmission_eq]
  have ha : ((s.frameTaken .yard).onLots fun ls => ls.announce t k ns).lots.admission t = .admitted :=
    (s.lots.announce_admission t k ns).trans (if_pos hf)
  rw [ha]
  rfl

theorem State.announcing_misorder (h : s.rail.unknownTag = some t) (hf : (s.lots.queue ++ [t]).head? ≠ some t) :
    s.announcing t k ns = (s.listed t k ns).misorderAt t := by
  rw [s.announcing_here t k ns h, State.decideAdmission_eq]
  have ha : ((s.frameTaken .yard).onLots fun ls => ls.announce t k ns).lots.admission t = .misorder :=
    (s.lots.announce_admission t k ns).trans (if_neg hf)
  rw [ha]
  rfl

theorem State.listed_train (s : State) (t k : Nat) (ns : List Nat) :
    (s.listed t k ns).lots.trains.get t = some (announcedTrain k ns) := by
  have h : (s.lots.announce t k ns).trains.get t = some (announcedTrain k ns) := by
    rw [LotStore.announce_trains, Tbl.get_put_self]
  exact h

theorem State.announcing_train : (s.announcing t k ns).lots.trains.get t = some
    { trolleys := k, lots := ns,
      state := if s.rail.unknownTag = some t then
        (if (s.lots.queue ++ [t]).head? = some t then .onRail else .misorder) else .announced,
      sec := if s.rail.unknownTag = some t then some 0 else none } := by
  have hl := s.listed_train t k ns
  by_cases h : s.rail.unknownTag = some t
  · rw [if_pos h, if_pos h]
    by_cases hf : (s.lots.queue ++ [t]).head? = some t
    · rw [if_pos hf, State.announcing_admitted h hf]
      exact LotStore.get_admitTrain_self hl
    · rw [if_neg hf, State.announcing_misorder h hf]
      exact LotStore.get_misorder_self hl
  · rw [if_neg h, if_neg h, s.announcing_away t k ns h]
    exact hl

theorem State.announcing_queue : (s.announcing t k ns).lots.queue =
    if s.rail.unknownTag = some t ∧ (s.lots.queue ++ [t]).head? = some t then s.lots.queue.filter (· ≠ t)
    else s.lots.queue ++ [t] := by
  have hl : (s.listed t k ns).lots.queue = s.lots.queue ++ [t] := LotStore.announce_queue ..
  by_cases h : s.rail.unknownTag = some t
  · by_cases hf : (s.lots.queue ++ [t]).head? = some t
    · rw [if_pos ⟨h, hf⟩, State.announcing_admitted h hf]
      have : (s.listed t k ns).lots.queue.filter (· ≠ t) = s.lots.queue.filter (· ≠ t) := by rw [hl]; simp
      exact this
    · rw [if_neg (fun e => hf e.2), State.announcing_misorder h hf]
      exact hl
  · rw [if_neg (fun e => h e.1), s.announcing_away t k ns h]
    exact hl

end

theorem State.announcing_frame (s : State) (t k : Nat) (ns : List Nat) :
    (s.announcing t k ns).accounts = s.accounts ∧ (s.announcing t k ns).log = s.log ∧
    (s.announcing t k ns).clock = s.clock ∧ (s.announcing t k ns).scan = s.scan ∧
    (s.announcing t k ns).inputs = s.inputs := by
  by_cases h : s.rail.unknownTag = some t
  · by_cases hf : (s.lots.queue ++ [t]).head? = some t
    · rw [State.announcing_admitted h hf]; exact ⟨rfl, rfl, rfl, rfl, rfl⟩
    · rw [State.announcing_misorder h hf]; exact ⟨rfl, rfl, rfl, rfl, rfl⟩
  · rw [s.announcing_away t k ns h]; exact ⟨rfl, rfl, rfl, rfl, rfl⟩

/-- INTAKE and its eject where the train announced is the unknown occupant (R27). -/
theorem State.announcing_intake {s : State} {t : Nat} (h : s.rail.unknownTag = some t) (k : Nat) (ns : List Nat) :
    s.intakeNamed t (s.announcing t k ns) ∧
    ((s.lots.queue ++ [t]).head? = some t →
      s.ejectCut (s.announcing t k ns) ∧ (s.announcing t k ns).holds .admitted = true) ∧
    ((s.lots.queue ++ [t]).head? ≠ some t →
      s.ejectGoesOn t (s.announcing t k ns) ∧ (s.announcing t k ns).holds .misorder = true) := by
  by_cases hf : (s.lots.queue ++ [t]).head? = some t
  · rw [State.announcing_admitted h hf]
    exact ⟨(s.listed t k ns).admitAt_named t, fun _ => ⟨(s.listed t k ns).admitAt_cut t, State.admitAt_holds ..⟩,
      fun hn => absurd hf hn⟩
  · rw [State.announcing_misorder h hf]
    exact ⟨(s.listed t k ns).misorderAt_named t, fun hn => absurd hn hf,
      fun _ => ⟨(s.listed t k ns).misorderAt_goesOn t, State.holds_raise_self ..⟩⟩

/-! ## The tests of ANNOUNCE TRAIN -/

theorem firstFailing_map (ok : Nat → Bool) (ns : List (BitVec 16)) :
    firstFailing ok (ns.map BitVec.toNat) = (ns.find? fun n => !ok n.toNat).map BitVec.toNat := by
  rw [firstFailing, List.find?_map]
  rfl

theorem LotStore.isDeclared_eq (ls : LotStore) (n : Nat) :
    ls.isDeclared n = (ls.lots.get n).any fun l => l.state = .declared := by
  unfold LotStore.isDeclared
  cases ls.lots.get n <;> rfl

/-- The lots of a list that are absent, and those that are not DECLARED. -/
def LotStore.absentLot (ls : LotStore) (n : BitVec 16) : Bool := (ls.lots.get n.toNat).isNone
def LotStore.undeclaredLot (ls : LotStore) (n : BitVec 16) : Bool := !(ls.lots.get n.toNat).any fun l => l.state = .declared

section
variable {s : State} {t : BitVec 16} {k : Byte} {ns : List (BitVec 16)}

theorem takeAnnounceTrain_eq : takeAnnounceTrain t.toNat k.toNat (ns.map BitVec.toNat) s =
    if ns.length = 0 ∨ 12 < ns.length then refuse s .length
    else if t = 0 ∨ k = 0 ∨ 6 < k.toNat ∨ ¬ ns.Nodup then refuse s .range
    else if (s.lots.trains.get t.toNat).isSome then refuse s .inUse
    else if 24 ≤ s.lots.trains.length then refuse s .full
    else match ns.find? s.lots.absentLot, ns.find? s.lots.undeclaredLot with
      | some n, _ => (s, { status := .notFound, payload := num2 n.toNat })
      | none, some n => (s, { status := .state, payload := num2 n.toNat })
      | none, none =>
        (((s.onLots fun ls => ls.announce t.toNat k.toNat (ns.map BitVec.toNat)).announcedTag t.toNat).railDone s,
          Reply.done (num1 (s.lots.queue.length + 1))) := by
  have hlots : ns.find? (fun n => !(s.lots.lots.get n.toNat).isSome) = ns.find? s.lots.absentLot := by
    congr 1; funext n; rw [LotStore.absentLot, ← Option.not_isSome]
  have hdecl : ns.find? (fun n => !s.lots.isDeclared n.toNat) = ns.find? s.lots.undeclaredLot := by
    congr 1; funext n; rw [LotStore.undeclaredLot, LotStore.isDeclared_eq]
  have hn : (ns.map BitVec.toNat).Nodup ↔ ns.Nodup := List.nodup_map_iff fun a b h => BitVec.eq_of_toNat_eq h
  have ht : t.toNat = 0 ↔ t = 0 := by bv_omega
  have hk : k.toNat = 0 ↔ k = 0 := by bv_omega
  have hlen : (s.onLots fun ls => ls.announce t.toNat k.toNat (ns.map BitVec.toNat)).lots.queue.length =
      s.lots.queue.length + 1 := by
    rw [State.onLots_lots, LotStore.announce_queue, List.length_append]; rfl
  simp only [takeAnnounceTrain, firstFailing_map, hlots, hdecl, hn, ht, hk, hlen, List.length_map, Config.trainLots,
    Config.trainCapacity]
  cases ns.find? s.lots.absentLot <;> cases ns.find? s.lots.undeclaredLot <;> rfl

end

section
variable {s : State} {t : BitVec 16} {k : Byte} {ns : List (BitVec 16)} (hl : s.listens .yard = true) (hlen : ns.length ≤ 30)
include hl hlen

/-- ANNOUNCE TRAIN on a port that listens: its tests in their order, and the train announced. -/
theorem exec_announceTrain : exec (.announceTrain .yard t k ns) s =
    if ns.length = 0 ∨ 12 < ns.length then .next (s.rejected .yard .length)
    else if t = 0 ∨ k = 0 ∨ 6 < k.toNat ∨ ¬ ns.Nodup then .next (s.rejected .yard .range)
    else if (s.lots.trains.get t.toNat).isSome then .next (s.rejected .yard .inUse)
    else if 24 ≤ s.lots.trains.length then .next (s.rejected .yard .full)
    else match ns.find? s.lots.absentLot, ns.find? s.lots.undeclaredLot with
      | some n, _ => .next (s.replied .yard { status := .notFound, payload := num2 n.toNat })
      | none, some n => .next (s.replied .yard { status := .state, payload := num2 n.toNat })
      | none, none => .next (s.doneOn .yard (s.announcing t.toNat k.toNat (ns.map BitVec.toNat))
          (Reply.done (num1 (s.lots.queue.length + 1)))) := by
  rw [exec_yard_answered (.announceTrain .yard t k ns) rfl rfl (decide_eq_true hlen) hl]
  simp only [takeCommand]
  rw [takeAnnounceTrain_eq]
  simp only [answered_ite, answered_refuse]
  simp only [State.frameTaken_lots]
  cases ns.find? s.lots.absentLot <;> cases ns.find? s.lots.undeclaredLot <;> rfl

end

/-- What the announcement leaves in a state that met every test. -/
theorem State.announcing_lot {s : State} {ns : List (BitVec 16)} (hd : ns.Nodup) (t k : Nat) {i : Nat} {n : BitVec 16}
    (h : ns[i]? = some n) : (s.announcing t k (ns.map BitVec.toNat)).lots.lots.get n.toNat =
      (s.lots.lots.get n.toNat).map fun l => { l with state := .announced, train := some t, place := some (i + 1) } := by
  have hd' : (ns.map BitVec.toNat).Nodup := hd.map fun a b h => BitVec.eq_of_toNat_eq h
  have h' : (ns.map BitVec.toNat)[i]? = some n.toNat := by rw [List.getElem?_map, h]; rfl
  rw [State.announcing_lots, LotStore.announce_lots, LotStore.get_giveLots _ _ _ _ hd' h', Nat.add_comm]
  rfl

/-- Settles O14: the tests, the lots and the queue, and INTAKE's unknown occupant named. -/
theorem announceTrainGivesLots : Obligations.AnnounceTrainGivesLots := by
  intro s t k ns hl hlen absent undeclared
  rw [exec_announceTrain hl hlen]
  by_cases h1 : ns.length = 0 ∨ 12 < ns.length
  · rw [if_pos h1, if_pos h1]
  by_cases h2 : t = 0 ∨ k = 0 ∨ 6 < k.toNat ∨ ¬ ns.Nodup
  · rw [if_neg h1, if_neg h1, if_pos h2, if_pos h2]
  by_cases h3 : (s.lots.trains.get t.toNat).isSome
  · simp only [if_neg h1, if_neg h2, if_pos h3]
  by_cases h4 : 24 ≤ s.lots.trains.length
  · simp only [if_neg h1, if_neg h2, if_neg h3, if_pos h4]
  simp only [if_neg h1, if_neg h2, if_neg h3, if_neg h4]
  have ha : ns.find? absent = ns.find? s.lots.absentLot := rfl
  have hu : ns.find? undeclared = ns.find? s.lots.undeclaredLot := rfl
  rw [ha, hu]
  cases ns.find? s.lots.absentLot with
  | some n => rfl
  | none =>
    cases ns.find? s.lots.undeclaredLot with
    | some n => rfl
    | none =>
      have hnd : ns.Nodup := not_not.mp fun h => h2 (.inr (.inr (.inr h)))
      let v := s.announcing t.toNat k.toNat (ns.map BitVec.toNat)
      obtain ⟨f1, f2, f3, f4, f5⟩ := s.announcing_frame t.toNat k.toNat (ns.map BitVec.toNat)
      refine ⟨_, rfl, ?_, ?_, fun n hn => ?_, fun i n hi => ?_, fun n hn => ?_, fun here => ?_,
        State.doneOn_replyLeft _ (s.announcing_checkNow ..), ?_, ?_, ?_, ?_, ?_⟩
      · rw [State.doneOn_lots, State.announcing_queue]
      · rw [State.doneOn_lots, State.announcing_train]
      · rw [State.doneOn_lots, State.announcing_trains_ne _ _ _ _ hn]
      · rw [State.doneOn_lots, State.announcing_lot hnd _ _ hi]
      · rw [State.doneOn_lots, State.announcing_lots, LotStore.announce_lots, LotStore.get_giveLots_ne _ _ _ _ hn]
      · obtain ⟨hnamed, hfirst, hlater⟩ := State.announcing_intake here k.toNat (ns.map BitVec.toNat)
        obtain ⟨ho, hu⟩ := hnamed.railDone (s.frameTaken .yard)
        exact ⟨ho, hu, fun hf => State.doneOn_holds _ (hfirst hf).2, fun hf => State.doneOn_holds _ (hlater hf).2,
          v, rfl, hnamed, fun hf => (hfirst hf).1, fun hf => (hlater hf).1⟩
      · rw [State.doneOn_accounts, f1]
      · rw [State.doneOn_log, f2]
      · rw [State.doneOn_clock, f3]
      · rw [State.doneOn_scan, f4]
      · rw [State.doneOn_inputs, f5]

end Sys2Proof.Machine

/-!
LOAD, AUTO and the clock's settings (R5, R93, R94, R101, R105, R111, R113).
-/

namespace Sys2Proof.Machine

theorem exec_desk_answered (i : Instr) {s : State} {code : Byte} {payload : Bytes}
    (hf : frameOf i = some (.desk, code, payload)) (hr : rolesOf code = some [.desk]) (hw : i.wellFormed = true)
    (hl : s.listens .desk = true) : exec i s = answered .desk (takeCommand i (s.frameTaken .desk)) :=
  exec_desk i hf hr hw hl

/-! ## A lot loaded -/

section
variable {w : RailWork}

/-- No jog of D4 or D5 outlives the loading of a lot (R42, R52). -/
theorem RailWork.lotLoaded_jog {j : Jog} (h : w.rail.jog = some j) (hc : j.chan = 4 ∨ j.chan = 5) :
    w.lotLoaded.rail.jog = none := by
  simp only [RailWork.lotLoaded, h]
  rw [if_pos hc, RailWork.endJog_some h]

end

section
variable (s : State) (m : Nat)

theorem State.loadLot_rail : (s.loadLot m).rail = s.work.lotLoaded.rail := by simp [State.loadLot, State.work]

/-- Loading from IDLE ends the face test. -/
theorem State.loadLot_test (h : s.clock.state = .idle) : (s.loadLot m).face.testTimer = none := by
  simp only [State.loadLot, State.setClock]
  split <;> simp [h]

theorem State.loadLot_holds_clock (h : s.clock.state = .idle) : (s.loadLot m).holds .clock = true :=
  State.setClock_holds_clock _ _ (by simp [h])

end

/-- The figures of a LOADED clock are those of its price (R184). -/
theorem State.image_loaded {s : State} (h : s.clock.state = .loaded) :
    s.imageNow.price = .price s.clock.price ∧ s.imageNow.ring = some (s.clock.price % 100) := by
  simp [State.imageNow, priceOf, ringOf, ringIndex, h]

/-- What a load leaves of every entry: the one LOADED returned to WAITING (R5). -/
theorem LotStore.get_load_other {ls : LotStore} {m k : Nat} {e : Lot} (hk : k ≠ m) (h : ls.lots.get k = some e) :
    (ls.load m).lots.get k = some (if e.state = .loaded then { e with state := .waiting } else e) := by
  simp only [LotStore.load, Tbl.get_modify_ne _ _ hk, Tbl.get_mapAll, h, Option.map_some]

theorem LotStore.lotPresented_iff {ls : LotStore} {l : Lot} :
    ls.lotPresented l = true ↔ ∃ x, l.train = some x ∧ ls.trainState x = some .presented := by
  unfold LotStore.lotPresented LotStore.trainState
  cases l.train with
  | none => simp
  | some x => cases h : ls.trains.get x <;> simp [h]

section
variable {ls : LotStore} {n : Nat} {l : Lot}

theorem LotStore.loadStatus_absent (h : ls.lots.get n = none) : ls.loadStatus n = .notFound := by
  simp only [LotStore.loadStatus, h]

theorem LotStore.loadStatus_ok (h : ls.lots.get n = some l)
    (hw : l.state = .waiting ∧ ∃ x, l.train = some x ∧ ls.trainState x = some .presented) : ls.loadStatus n = .ok := by
  simp only [LotStore.loadStatus, h]
  exact if_pos ⟨hw.1, LotStore.lotPresented_iff.mpr hw.2⟩

theorem LotStore.loadStatus_other (h : ls.lots.get n = some l)
    (hw : ¬ (l.state = .waiting ∧ ∃ x, l.train = some x ∧ ls.trainState x = some .presented)) : ls.loadStatus n = .state := by
  simp only [LotStore.loadStatus, h]
  exact if_neg fun e => hw ⟨e.1, LotStore.lotPresented_iff.mp e.2⟩

end

/-- The part after LOAD has taken a lot. -/
def State.loaded (s : State) (n : Nat) : State :=
  s.doneOn .desk ((s.frameTaken .desk).loadLot n) (Reply.done (num2 n ++
    num2 (((s.frameTaken .desk).loadLot n).railDone (s.frameTaken .desk)).clock.price))

section
variable {s : State} {n : BitVec 16} (hl : s.listens .desk = true)
include hl

theorem exec_load_busy (h : s.clock.state ≠ .idle ∧ s.clock.state ≠ .loaded) :
    exec (.load .desk n) s = .next (s.rejected .desk .busy) := by
  have ht : takeLoad n.toNat (s.frameTaken .desk) = refuse (s.frameTaken .desk) .busy := by
    unfold takeLoad
    split
    case h_5 hs => exact absurd hs h.1
    case h_6 hs => exact absurd hs h.2
    all_goals rfl
  exact (exec_desk_answered (.load .desk n) rfl rfl rfl hl).trans ((congrArg (answered .desk) ht).trans (answered_refuse ..))

variable (h : s.clock.state = .idle ∨ s.clock.state = .loaded)
include h

theorem exec_load_ready : exec (.load .desk n) s =
    if s.lots.loadStatus n.toNat = .ok then .next (s.loaded n.toNat)
    else .next (s.rejected .desk (s.lots.loadStatus n.toNat)) := by
  let a := s.frameTaken .desk
  have ht : takeLoad n.toNat a = if a.lots.loadStatus n.toNat = .ok then
      ((a.loadLot n.toNat).railDone a, Reply.done (num2 n.toNat ++ num2 ((a.loadLot n.toNat).railDone a).clock.price))
      else refuse a (a.lots.loadStatus n.toNat) := by
    unfold takeLoad
    rcases h with h | h
    · rw [show a.clock.state = .idle from h]
    · rw [show a.clock.state = .loaded from h]
  rw [exec_desk_answered (.load .desk n) rfl rfl rfl hl]
  refine (congrArg (answered .desk) ht).trans ?_
  rw [answered_ite, answered_refuse]
  rfl

theorem exec_load_refused {st : Status} (hs : s.lots.loadStatus n.toNat = st) (hne : st ≠ .ok) :
    exec (.load .desk n) s = .next (s.rejected .desk st) := by
  rw [exec_load_ready hl h, hs, if_neg hne]

end

/-- The face of a command that ends in an examination is the one the records give (R187). -/
theorem State.doneOn_image (s : State) (p : Role) (v : State) (x : Reply) :
    (s.doneOn p v x).face.image = (v.railDone (s.frameTaken p)).imageNow := v.railDone_imageOk _

section
variable {s : State} {n : Nat} {l : Lot} (h : s.lots.lots.get n = some l)
include h

theorem State.loadTaken_clock (b : State) :
    (((s.frameTaken .desk).loadLot n).railDone b).clock = s.clock.loadedAt n l.startPrice := by
  rw [State.railDone_clock]
  exact State.loadLot_clock (s.frameTaken .desk) (m := n) (e := l) h

theorem State.loaded_clock : (s.loaded n).clock = s.clock.loadedAt n l.startPrice := by
  rw [State.loaded, State.doneOn_clock]
  exact State.loadLot_clock (s.frameTaken .desk) (m := n) (e := l) h

theorem State.loaded_image : (s.loaded n).face.image.price = .price l.startPrice ∧
    (s.loaded n).face.image.ring = some (l.startPrice % 100) := by
  have hc := State.loadTaken_clock h (s.frameTaken .desk)
  obtain ⟨hp, hr⟩ := State.image_loaded (s := ((s.frameTaken .desk).loadLot n).railDone (s.frameTaken .desk))
    ((congrArg Clock.state hc).trans rfl)
  rw [State.loaded, State.doneOn_image, hp, hr, hc]
  exact ⟨rfl, rfl⟩

theorem State.loaded_reply : ((s.loaded n).port .desk).replyLeft =
    replyWords (s.port .desk).checkNow (Reply.done (num2 n ++ num2 l.startPrice)) := by
  rw [State.loaded, State.doneOn_replyLeft _ ((State.loadLot_checkNow ..).trans (s.frameTaken_checkNow .desk)),
    State.loadTaken_clock h]
  rfl

end

section
variable (s : State) (n : Nat)

theorem State.loaded_lots : (s.loaded n).lots = s.lots.load n := (State.doneOn_lots ..).trans (State.loadLot_lots ..)

theorem State.loaded_jog {j : Jog} (h : s.rail.jog = some j) (hc : j.chan = 4 ∨ j.chan = 5) : (s.loaded n).rail.jog = none := by
  refine (((s.frameTaken .desk).loadLot n).railDone_spares (s.frameTaken .desk)).jog.trans ?_
  rw [State.work, State.loadLot_rail]
  exact RailWork.lotLoaded_jog (w := (s.frameTaken .desk).work) h hc

theorem State.loaded_idle (h : s.clock.state = .idle) : (s.loaded n).holds .clock = true ∧ (s.loaded n).face.testTimer = none := by
  refine ⟨State.doneOn_holds _ ((s.frameTaken .desk).loadLot_holds_clock n h), ?_⟩
  obtain ⟨ps, e⟩ := ((s.frameTaken .desk).loadLot n).railDone_cases (s.frameTaken .desk)
  rw [State.loaded, State.doneOn, State.giveReply_face, e]
  exact (s.frameTaken .desk).loadLot_test n h

end

/-- Settles O32: the lot on the clock, its face and the refusals. -/
theorem loadTakesWaitingLot : Obligations.LoadTakesWaitingLot := by
  intro s n hl
  by_cases hb : s.clock.state ≠ .idle ∧ s.clock.state ≠ .loaded
  · rw [if_pos hb, exec_load_busy hl hb]
  rw [if_neg hb]
  have hr : s.clock.state = .idle ∨ s.clock.state = .loaded := by
    by_contra hn; exact hb (not_or.mp hn)
  cases hg : s.lots.lots.get n.toNat with
  | none => exact exec_load_refused hl hr (LotStore.loadStatus_absent hg) nofun
  | some l =>
    dsimp only
    by_cases hw : l.state = .waiting ∧ ∃ x, l.train = some x ∧ s.lots.trainState x = some .presented
    · rw [if_pos hw]
      have hexec : exec (.load .desk n) s = .next (s.loaded n.toNat) := by
        rw [exec_load_ready hl hr, if_pos (LotStore.loadStatus_ok hg hw)]
      obtain ⟨hprice, hring⟩ := State.loaded_image hg
      refine ⟨_, hexec, ?_⟩
      rw [State.loaded_clock hg, State.loaded_lots, State.loaded_reply hg]
      refine ⟨rfl, rfl, rfl, rfl, rfl, rfl, rfl, rfl, rfl, rfl, rfl, rfl, rfl, LotStore.get_load_self hg,
        fun m e hm he => LotStore.get_load_other hm he, rfl, rfl, hprice, hring, s.loaded_idle _,
        fun j hj hc => s.loaded_jog _ hj hc, rfl, ?_, ?_, ?_, ?_⟩
      · exact (State.doneOn_scan ..).trans (State.loadLot_scan ..)
      · exact (State.doneOn_accounts ..).trans (State.loadLot_accounts ..)
      · exact (State.doneOn_log ..).trans (State.loadLot_log ..)
      · exact (State.doneOn_inputs ..).trans (State.loadLot_inputs ..)
    · rw [if_neg hw]
      exact exec_load_refused hl hr (LotStore.loadStatus_other hg hw) nofun

/-! ## AUTO -/

theorem yesNo_true : yesNo true = [1] := rfl
theorem yesNo_false : yesNo false = [0] := rfl

theorem takeAuto_same {s : State} {v : Byte} (h : (v != 0) = s.clock.auto) :
    takeAuto v s = (s, Reply.done (yesNo s.clock.auto)) := by
  simp only [takeAuto, looseOnOf, h, if_true]

theorem takeAuto_on {s : State} {v : Byte} (hv : (v != 0) = true) (h : s.clock.auto = false) :
    takeAuto v s = (s.autoOn, Reply.done (yesNo s.autoOn.clock.auto)) := by
  simp only [takeAuto, looseOnOf, hv, h]
  rfl

/-- The part with auto mode on. -/
def State.autoSet (s : State) : State := s.onClock fun c => { c with auto := true }

theorem State.autoOn_idle {s : State} (h : s.clock.state = .idle) : s.autoOn = s.autoSet.autoLoad.railDone s := by
  simp only [State.autoOn, h]
  rfl

theorem State.autoOn_loaded {s : State} (h : s.clock.state = .loaded) :
    s.autoOn = s.onClock fun c => { c with auto := true, autoTimer := some (s.clock.autoDelay * 1000) } := by
  simp only [State.autoOn, h]
  rfl

theorem State.autoOn_later {s : State} (hi : s.clock.state ≠ .idle) (hl : s.clock.state ≠ .loaded) : s.autoOn = s.autoSet := by
  unfold State.autoOn
  cases h : s.clock.state with
  | idle => exact absurd h hi
  | loaded => exact absurd h hl
  | _ => rfl

/-- The first WAITING lot of the presented train is loaded. -/
theorem State.autoLoad_waiting {s : State} {n : Nat} {l : Lot} (hf : s.lots.firstWaiting = some n)
    (hn : s.lots.lots.get n = some l) (hp : ∃ x, l.train = some x ∧ s.lots.trainState x = some .presented) :
    s.autoLoad = s.loadLot n := by
  obtain ⟨-, -, e, -, -, -, he, hw⟩ := LotStore.firstWaiting_some hf
  obtain rfl : e = l := Option.some.inj (he.symm.trans hn)
  simp only [State.autoLoad, hf]
  exact if_pos (LotStore.loadStatus_ok hn ⟨hw, hp⟩)

/-- A lot loaded of itself keeps auto mode and the desk port's check setting. -/
theorem State.autoLoad_keeps (s : State) :
    s.autoLoad.clock.auto = s.clock.auto ∧ (s.autoLoad.port .desk).checkNow = (s.port .desk).checkNow := by
  rcases s.autoLoad_cases with ⟨m, e, -, -, he, -, ho⟩ | ⟨ho, -⟩ <;> rw [ho]
  · rw [State.loadLot_clock _ he, State.loadLot_checkNow]; exact ⟨rfl, rfl⟩
  · exact ⟨rfl, rfl⟩

section
variable {s : State} {v : Byte} (hl : s.listens .desk = true) (hv : v ≠ 0) (h : s.clock.auto = false)
include hl hv h

theorem exec_auto_on : exec (.auto .desk v) s = .next ((s.frameTaken .desk).autoOn.giveReply .desk
    (Reply.done (yesNo (s.frameTaken .desk).autoOn.clock.auto))) :=
  (exec_desk_answered (.auto .desk v) rfl rfl rfl hl).trans
    (congrArg (answered .desk) (takeAuto_on (s := s.frameTaken .desk) (bne_iff_ne.mpr hv) h))

/-- AUTO newly on in IDLE: the first WAITING lot of the presented train loaded, if the Lot Store takes the request. -/
theorem exec_auto_idle (hs : s.clock.state = .idle) : exec (.auto .desk v) s =
    .next (s.doneOn .desk (s.frameTaken .desk).autoSet.autoLoad (Reply.done [1])) := by
  rw [exec_auto_on hl hv h, State.autoOn_idle (s := s.frameTaken .desk) hs, State.railDone_clock,
    (State.autoLoad_keeps _).1]
  rfl

end

/-- Settles O35: the three settings, and AUTO in each clock state. -/
theorem clockSettings : Obligations.ClockSettings := by
  intro s hl t
  refine ⟨fun v => ?_, fun v => ?_, fun v => ?_, fun h => ?_, fun h => ?_, fun v hv => ⟨fun h => ?_, fun h => ?_⟩⟩
  · exact exec_desk_answered (.tick .desk v) rfl rfl rfl hl
  · exact exec_desk_answered (.showTime .desk v) rfl rfl rfl hl
  · rw [exec_desk_answered (.autoDelay .desk v) rfl rfl rfl hl]
    simp only [takeCommand, takeAutoDelay, clamp_byte v (show 0 ≤ 255 by decide), Nat.zero_max]
    rfl
  · have ht : takeAuto 0 t = (t.autoOff, Reply.done (yesNo t.autoOff.clock.auto)) := by
      have h' : t.clock.auto = true := h
      simp only [takeAuto, looseOnOf, h']
      rfl
    exact (exec_desk_answered (.auto .desk 0) rfl rfl rfl hl).trans (congrArg (answered .desk) ht)
  · refine (exec_desk_answered (.auto .desk 0) rfl rfl rfl hl).trans
      ((congrArg (answered .desk) (takeAuto_same (s := t) (v := 0) h.symm)).trans ?_)
    rw [show t.clock.auto = false from h, yesNo_false]; rfl
  · refine (exec_desk_answered (.auto .desk v) rfl rfl rfl hl).trans
      ((congrArg (answered .desk) (takeAuto_same (s := t) ((bne_iff_ne.mpr hv).trans h.symm))).trans ?_)
    rw [show t.clock.auto = true from h, yesNo_true]; rfl
  · have later (hi : s.clock.state ≠ .idle) (hld : s.clock.state ≠ .loaded) : exec (.auto .desk v) s =
        .next ((t.onClock fun c => { c with auto := true }).giveReply .desk (Reply.done [1])) := by
      rw [exec_auto_on hl hv h, State.autoOn_later (s := s.frameTaken .desk) hi hld]; rfl
    cases hs : s.clock.state with
    | loaded => dsimp only; rw [exec_auto_on hl hv h, State.autoOn_loaded (s := s.frameTaken .desk) hs, State.frameTaken_clock]; rfl
    | idle =>
      dsimp only
      obtain ⟨hauto, hcheck⟩ := State.autoLoad_keeps (s.frameTaken .desk).autoSet
      refine ⟨_, exec_auto_idle hl hv h hs, ?_, State.doneOn_replyLeft _ (hcheck.trans (s.frameTaken_checkNow .desk)),
        fun hw => ?_, fun n l x hf hn hx hp => ?_⟩
      · rw [State.doneOn_clock, hauto]; rfl
      · have hstill : (s.frameTaken .desk).autoSet.autoLoad = (s.frameTaken .desk).autoSet := by
          have hw' : (s.frameTaken .desk).autoSet.lots.firstWaiting = none := hw
          simp only [State.autoLoad, hw']
        rw [hstill, State.doneOn_clock, State.doneOn_lots]
        exact ⟨rfl, rfl⟩
      · have hauto : (s.frameTaken .desk).autoSet.autoLoad = (s.frameTaken .desk).autoSet.loadLot n :=
          State.autoLoad_waiting (s := (s.frameTaken .desk).autoSet) hf hn ⟨x, hx, hp⟩
        rw [hauto, State.doneOn_clock, State.doneOn_lots, State.loadLot_lots,
          State.loadLot_clock (s.frameTaken .desk).autoSet (m := n) (e := l) hn]
        exact ⟨rfl, rfl, rfl, rfl, LotStore.get_load_self hn⟩
    | _ => exact later (by rw [hs]; nofun) (by rw [hs]; nofun)

end Sys2Proof.Machine

/-!
The Seat Scanner (R72 to R87, R163): seats unbound, replies judged, LOGIN and LOGOUT.
-/

namespace Sys2Proof.Machine

/-! ## Seats -/

section
variable (s : State) (a : SeatAddr)

theorem State.onSeat_eq (f : Seat → Seat) :
    s.onSeat a f = { s with scan := { s.scan with seats := (s.onSeat a f).scan.seats } } := rfl

@[simp] theorem State.answer_seat (c : AnswerCode) (v : Nat) :
    (s.answer a c v).scan.seats[a] = { s.scan.seats[a] with answer := some { code := c, value := v } } :=
  s.onSeat_seat a _

theorem State.answer_seat_ne {b : SeatAddr} (c : AnswerCode) (v : Nat) (h : b ≠ a) :
    (s.answer a c v).scan.seats[b] = s.scan.seats[b] := s.onSeat_seat_ne _ h

@[simp] theorem State.unbindSeat_seat (b : Nat) :
    (s.unbindSeat a b).scan.seats[a] = { s.scan.seats[a] with buyer := none } :=
  ({ s with accounts := s.accounts.clearSeat b } : State).onSeat_seat a _

theorem Accounts.get_clearSeat_self (acc : Accounts) (b : Nat) :
    (acc.clearSeat b).buyers.get b = (acc.buyers.get b).map fun r => { r with seat := none } := by
  simp only [Accounts.clearSeat, Accounts.onBuyer, Tbl.get_modify_self]

theorem Accounts.get_clearSeat_ne (acc : Accounts) {b m : Nat} (h : m ≠ b) :
    (acc.clearSeat b).buyers.get m = acc.buyers.get m := by
  simp only [Accounts.clearSeat, Accounts.onBuyer, Tbl.get_modify_ne _ _ h]

end

/-! ## Every seat from an address unbound (R86) -/

section
variable (l : List (SeatAddr × Nat))

/-- Unbinding seats touches the seats and the buyers alone. -/
theorem State.unbindAll_eq (s : State) : s.unbindAll l =
    { s with scan := { s.scan with seats := (s.unbindAll l).scan.seats },
             accounts := { s.accounts with buyers := (s.unbindAll l).accounts.buyers } } := by
  induction l generalizing s with
  | nil => rfl
  | cons e l ih => exact ih _

theorem State.unbindAll_seat (s : State) (a : SeatAddr) : (s.unbindAll l).scan.seats[a] =
    if a ∈ l.map Prod.fst then { s.scan.seats[a] with buyer := none, answer := none } else s.scan.seats[a] := by
  induction l generalizing s with
  | nil => simp [State.unbindAll]
  | cons e l ih =>
    obtain ⟨x, b⟩ := e
    rw [State.unbindAll, ih]
    by_cases h : a = x
    · subst h
      have hx : ((s.unbindSeat a b).onSeat a fun y => { y with answer := none }).scan.seats[a] =
          { s.scan.seats[a] with buyer := none, answer := none } := by
        rw [State.onSeat_seat, State.unbindSeat_seat]
      rw [hx, if_pos (List.mem_map_of_mem (f := Prod.fst) List.mem_cons_self), ite_self]
    · have hm : a ∈ ((x, b) :: l).map Prod.fst ↔ a ∈ l.map Prod.fst := by simp [h]
      rw [State.onSeat_seat_ne _ _ h, State.unbindSeat_seat_ne _ _ h]
      simp only [hm]

theorem State.unbindAll_buyer (s : State) (n : Nat) : (s.unbindAll l).accounts.buyers.get n =
    (s.accounts.buyers.get n).map fun r => if n ∈ l.map Prod.snd then { r with seat := none } else r := by
  induction l generalizing s with
  | nil => simp [State.unbindAll]
  | cons e l ih =>
    obtain ⟨x, b⟩ := e
    rw [State.unbindAll, ih]
    have hs : ((s.unbindSeat x b).onSeat x fun y => { y with answer := none }).accounts = s.accounts.clearSeat b := rfl
    rw [hs]
    by_cases h : n = b
    · subst h
      rw [Accounts.get_clearSeat_self, Option.map_map]
      congr 1
      funext r
      have hm : n ∈ ((x, n) :: l).map Prod.snd := List.mem_map_of_mem (f := Prod.snd) List.mem_cons_self
      rw [if_pos hm, Function.comp_apply]
      dsimp only
      rw [ite_self]
    · rw [Accounts.get_clearSeat_ne _ h]
      simp [h]

theorem Scanner.length_boundFrom (sc : Scanner) (n : Nat) : (sc.boundFrom n).length =
    ((List.finRange 256).filter fun a => n ≤ a.val && sc.seats[a].buyer.isSome).length := by
  rw [Scanner.boundFrom, List.length_filterMap_eq_countP, List.countP_eq_length_filter]
  congr 2
  funext a
  by_cases hn : n ≤ a.val <;> simp [hn]

end

/-! ## SET SCAN COUNT and UNBIND -/

/-- The part after a SET SCAN COUNT that is taken. -/
def State.scanCountSet (s : State) (n : Nat) : State :=
  ({ s with scan := { s.scan with nextCount := some n } } : State).unbindAll (s.scan.boundFrom n)

/-- A reply's place on the ports does not depend on the other records. -/
theorem State.giveReply_ports {s t : State} (h : s.ports = t.ports) (p : Role) (x : Reply) :
    (s.giveReply p x).ports = (t.giveReply p x).ports := by
  have hp : s.port p = t.port p := congrArg (fun ps : Ports => ps.get p) h
  change s.ports.set p _ = t.ports.set p _
  rw [h, hp]

theorem State.scanCountSet_eq (s : State) (n : Nat) : s.scanCountSet n =
    { s with scan := { s.scan with nextCount := some n, seats := (s.scanCountSet n).scan.seats },
             accounts := { s.accounts with buyers := (s.scanCountSet n).accounts.buyers } } := State.unbindAll_eq _ _

theorem State.scanCountSet_seat (s : State) (n : Nat) (a : SeatAddr) : (s.scanCountSet n).scan.seats[a] =
    if n ≤ a.val ∧ s.scan.seats[a].buyer.isSome then { s.scan.seats[a] with buyer := none, answer := none }
    else s.scan.seats[a] := by
  refine (State.unbindAll_seat _ _ a).trans ?_
  have h : a ∈ (s.scan.boundFrom n).map Prod.fst ↔ n ≤ a.val ∧ s.scan.seats[a].buyer.isSome = true := by
    simp [Scanner.mem_boundFrom, Option.isSome_iff_exists, -Fin.getElem_fin]
  simp only [h]

theorem State.scanCountSet_buyer (s : State) (n b : Nat) : (s.scanCountSet n).accounts.buyers.get b =
    (s.accounts.buyers.get b).map fun r =>
      if ∃ a : SeatAddr, n ≤ a.val ∧ s.scan.seats[a].buyer = some b then { r with seat := none } else r := by
  refine (State.unbindAll_buyer _ _ b).trans ?_
  have h : b ∈ (s.scan.boundFrom n).map Prod.snd ↔ ∃ a : SeatAddr, n ≤ a.val ∧ s.scan.seats[a].buyer = some b := by
    simp [Scanner.mem_boundFrom, -Fin.getElem_fin]
  simp only [h]

/-- Settles O39: seats unbound from an address upward, and one by one. -/
theorem seatsAreUnbound : Obligations.SeatsAreUnbound := by
  intro s hl
  let t := s.frameTaken .desk
  have setCount (n : BitVec 16) := exec_desk_answered (.setScanCount .desk n) rfl rfl rfl hl
  have unbind (n : BitVec 16) := exec_desk_answered (.unbind .desk n) rfl rfl rfl hl
  simp only [takeCommand] at setCount unbind
  refine ⟨fun n h => ?_, fun n h8 h256 hs => ?_, fun n h8 h256 hr hc => ?_, fun n h => ?_, fun n a ha => ?_⟩
  · rw [setCount]
    exact (congrArg (answered .desk) (if_pos h)).trans (answered_refuse ..)
  · rw [setCount]
    exact (congrArg (answered .desk) ((if_neg (by omega)).trans (if_pos hs))).trans (answered_refuse ..)
  · have hn : ¬ (n.toNat < 8 ∨ 256 < n.toNat) := by omega
    have hb : ¬ (s.clock.state = .running ∨ s.clock.state = .contest) := not_or.mpr ⟨hr, hc⟩
    have hexec : exec (.setScanCount .desk n) s = .next ((t.scanCountSet n.toNat).giveReply .desk
        (Reply.done (num1 (s.scan.boundFrom n.toNat).length))) := by
      rw [setCount]
      exact congrArg (answered .desk) ((if_neg hn).trans (if_neg hb))
    have he := t.scanCountSet_eq n.toNat
    refine ⟨_, hexec, ?_, ?_, fun a => t.scanCountSet_seat n.toNat a, fun b => t.scanCountSet_buyer n.toNat b, ?_, ?_⟩
    · rw [State.giveReply_scan, he]
    · rw [State.giveReply_scan, he]; rfl
    · rw [he]; rfl
    · rw [State.giveReply_ports (t := t) (by rw [he]), ← Scanner.length_boundFrom]; rfl
  · rw [unbind]
    have ht : takeUnbind n.toNat t = refuse t .range := by
      simp only [takeUnbind, index_none (n := 256) h]
    exact (congrArg (answered .desk) ht).trans (answered_refuse ..)
  · cases hb : s.scan.seats[a].buyer with
    | none =>
      have ht : takeUnbind n.toNat t = refuse t .state := by
        have hb' : t.scan.seats[a].buyer = none := hb
        simp only [takeUnbind, index_some ha, hb']
      exact (unbind n).trans ((congrArg (answered .desk) ht).trans (answered_refuse ..))
    | some b =>
      have ht : takeUnbind n.toNat t = ((t.unbindSeat a b).answer a .released 0, Reply.done (num2 b)) := by
        have hb' : t.scan.seats[a].buyer = some b := hb
        simp only [takeUnbind, index_some ha, hb']
      refine ⟨_, (unbind n).trans (congrArg (answered .desk) ht), ?_, fun x hx => ?_, ?_, fun m hm => ?_, ?_, ?_⟩
      · rw [State.giveReply_scan, State.answer_seat, State.unbindSeat_seat]; rfl
      · rw [State.giveReply_scan, State.answer_seat_ne _ _ _ _ hx, State.unbindSeat_seat_ne _ _ hx]; rfl
      · exact Accounts.get_clearSeat_self s.accounts b
      · exact Accounts.get_clearSeat_ne s.accounts hm
      · rfl
      · rfl

/-! ## The judgement of a reply (R75, R77) -/

theorem SeatAddr.byte_eq {e : Byte} {a : SeatAddr} : e.toNat = a.val ↔ e = BitVec.ofNat 8 a.val := by
  rw [BitVec.toNat_eq, BitVec.toNat_ofNat, Nat.mod_eq_of_lt a.isLt]

/-- The bytes that carry a report from an address. -/
def Report.carriedBy (a : SeatAddr) (bs : List Byte) : Report → Prop
  | .none => bs = [BitVec.ofNat 8 a.val, 0]
  | .login b => ∃ v : BitVec 16, v.toNat = b ∧ bs = [BitVec.ofNat 8 a.val, 1] ++ split2 v
  | .logout => bs = [BitVec.ofNat 8 a.val, 2]
  | .quantity q => ∃ v : Byte, v.toNat = q ∧ bs = [BitVec.ofNat 8 a.val, 3, v]
  | .press n d => ∃ v : BitVec 16, v.toNat = d ∧ bs = [BitVec.ofNat 8 a.val, 4, n] ++ split2 v

theorem split2_join2 (x y : Byte) : split2 (join2 x y) = [x, y] := by
  have hx : (join2 x y).extractLsb' 8 8 = x := BitVec.extractLsb'_append_eq_left
  have hy : (join2 x y).extractLsb' 0 8 = y := BitVec.extractLsb'_append_eq_right
  rw [split2, hx, hy]

theorem reportOf_of_carriedBy {a : SeatAddr} {bs : List Byte} {r : Report} (h : r.carriedBy a bs) : reportOf a bs = some r := by
  have he : (BitVec.ofNat 8 a.val).toNat = a.val := SeatAddr.byte_eq.mpr rfl
  cases r with
  | none => rw [show bs = _ from h]; simp only [reportOf, he]; rfl
  | logout => rw [show bs = _ from h]; simp only [reportOf, he]; rfl
  | login b =>
    obtain ⟨v, rfl, rfl⟩ := h
    simp only [split2, List.cons_append, List.nil_append, reportOf, he, join2_extract]
    rfl
  | quantity q =>
    obtain ⟨v, rfl, rfl⟩ := h
    simp only [reportOf, he]
    rfl
  | press n d =>
    obtain ⟨v, rfl, rfl⟩ := h
    simp only [split2, List.cons_append, List.nil_append, reportOf, he, join2_extract]
    rfl

theorem carriedBy_of_reportOf {a : SeatAddr} {bs : List Byte} {r : Report} (h : reportOf a bs = some r) : r.carriedBy a bs := by
  unfold reportOf at h
  split at h
  · split_ifs at h with he h0 h2 <;> cases h
    · rw [SeatAddr.byte_eq.mp he, h0]; rfl
    · rw [SeatAddr.byte_eq.mp he, h2]; rfl
  · split_ifs at h with he
    cases h
    exact ⟨_, rfl, by rw [SeatAddr.byte_eq.mp he.1, he.2]⟩
  · split_ifs at h with he
    cases h
    exact ⟨_, rfl, by rw [split2_join2, SeatAddr.byte_eq.mp he.1, he.2]; rfl⟩
  · split_ifs at h with he
    cases h
    exact ⟨_, rfl, by rw [split2_join2, SeatAddr.byte_eq.mp he.1, he.2]; rfl⟩
  · cases h

theorem judge_iff {a : SeatAddr} {ws : List LinkWord} {r : Report} : judge a ws = some r ↔
    (∀ w ∈ ws, w.parityGood = true) ∧ r.carriedBy a (ws.map LinkWord.data) := by
  rw [judge, ← List.all_eq_true]
  by_cases h : ws.all LinkWord.parityGood = true
  · rw [if_pos h]
    exact ⟨fun e => ⟨h, carriedBy_of_reportOf e⟩, fun e => reportOf_of_carriedBy e.2⟩
  · rw [if_neg h]
    exact ⟨nofun, fun e => absurd e.1 h⟩

/-! ## The end of a reply window (R78, R79) -/

/-- The part with the reply window of a poll ended. -/
def State.windowOver (s : State) : State := { s with scan := { s.scan with stage := .ended } }

section
variable {s : State} {a : SeatAddr} {ws : List LinkWord} (hp : s.scan.pos = .seat a) (hs : s.scan.stage = .sent)
include hp hs

theorem exec_windowEnd : exec (.replyWindowEnd ws) s = .next (s.windowEnd a ws).reface := by
  show execReplyWindowEnd ws s = _
  simp only [execReplyWindowEnd, hp, hs]

theorem exec_badReply (h : judge a ws = none) : exec (.replyWindowEnd ws) s = .next (s.windowOver.noGoodReply a).reface := by
  rw [exec_windowEnd hp hs]
  simp only [State.windowEnd, h]
  rfl

theorem exec_goodReply {r : Report} (h : judge a ws = some r) :
    exec (.replyWindowEnd ws) s = .next ((s.windowOver.goodReply a).actOn a r).reface := by
  rw [exec_windowEnd hp hs]
  simp only [State.windowEnd, h]
  rfl

end

section
variable (s : State) (a : SeatAddr)

/-- A good reply leaves the seat's buyer, quantity and answer, and every other seat. -/
theorem State.goodReply_cases : ∃ ps, s.goodReply a =
    { s.onSeat a (fun x => { x with verdict := .accepted, silence := 0, link := .online }) with ports := ps } ∧
    (s.scan.seats[a].link = .offline → (s.goodReply a).holds .seat = true) := by
  unfold State.goodReply
  dsimp only
  by_cases h : s.scan.seats[a].link = .offline
  · rw [if_pos h]; exact ⟨_, rfl, fun _ => State.holds_raise_self ..⟩
  · rw [if_neg h]; exact ⟨_, rfl, fun hl => absurd hl h⟩

/-- A seat's record after a bad reply or none. -/
def Seat.unheard (x : Seat) : Seat :=
  { x with verdict := .refused, silence := min (x.silence + 1) 16,
           link := if 15 ≤ x.silence ∧ x.link = .online then .offline else x.link }

/-- A bad reply leaves the seat's buyer, quantity and answer, and every other seat. -/
theorem State.noGoodReply_cases : ∃ ps, s.noGoodReply a = { s.onSeat a Seat.unheard with ports := ps } ∧
    (15 ≤ s.scan.seats[a].silence → s.scan.seats[a].link = .online → (s.noGoodReply a).holds .seat = true) ∧
    (s.scan.seats[a].silence < 15 → ps = s.ports) := by
  have h16 : min (s.scan.seats[a].silence + 1) Config.maxSilence = Config.maxSilence ↔ 15 ≤ s.scan.seats[a].silence := by
    rw [Config.maxSilence]; omega
  have hon : (s.onSeat a fun x => { x with
      verdict := .refused, silence := min (s.scan.seats[a].silence + 1) Config.maxSilence,
      link := if 15 ≤ s.scan.seats[a].silence ∧ s.scan.seats[a].link = .online then .offline else x.link }) =
      s.onSeat a Seat.unheard := rfl
  unfold State.noGoodReply
  dsimp only
  simp only [h16]
  rw [hon]
  by_cases h : 15 ≤ s.scan.seats[a].silence ∧ s.scan.seats[a].link = .online
  · rw [if_pos h]
    exact ⟨_, rfl, fun _ _ => State.holds_raise_self .., fun hl => absurd h.1 (Nat.not_le.mpr hl)⟩
  · rw [if_neg h]
    exact ⟨s.ports, rfl, fun h1 h2 => absurd ⟨h1, h2⟩ h, fun _ => rfl⟩

end

/-- The part after a good reply, before its report is acted on. -/
def State.heard (s : State) (a : SeatAddr) : State := s.windowOver.goodReply a

section
variable (s : State) (a : SeatAddr)

theorem State.heard_seat : (s.heard a).scan.seats[a] = { s.scan.seats[a] with verdict := .accepted, silence := 0, link := .online } := by
  obtain ⟨ps, e, -⟩ := s.windowOver.goodReply_cases a
  rw [State.heard, e]
  exact s.windowOver.onSeat_seat a fun x => { x with verdict := .accepted, silence := 0, link := .online }

theorem State.heard_seat_ne {b : SeatAddr} (h : b ≠ a) : (s.heard a).scan.seats[b] = s.scan.seats[b] := by
  obtain ⟨ps, e, -⟩ := s.windowOver.goodReply_cases a
  rw [State.heard, e]
  exact s.windowOver.onSeat_seat_ne (fun x => { x with verdict := .accepted, silence := 0, link := .online }) h

theorem State.heard_scan : (s.heard a).scan = { s.scan with stage := .ended, seats := (s.heard a).scan.seats } := by
  obtain ⟨ps, e, -⟩ := s.windowOver.goodReply_cases a
  rw [State.heard, e]
  rfl

theorem State.heard_eq : s.heard a = { s with scan := (s.heard a).scan, ports := (s.heard a).ports } := by
  obtain ⟨ps, e, -⟩ := s.windowOver.goodReply_cases a
  rw [State.heard, e]
  rfl

theorem State.heard_holds (h : s.scan.seats[a].link = .offline) : (s.heard a).holds .seat = true := by
  obtain ⟨ps, -, hh⟩ := s.windowOver.goodReply_cases a
  exact hh h

@[simp] theorem State.heard_lots : (s.heard a).lots = s.lots := by rw [State.heard_eq]
@[simp] theorem State.heard_clock : (s.heard a).clock = s.clock := by rw [State.heard_eq]
@[simp] theorem State.heard_accounts : (s.heard a).accounts = s.accounts := by rw [State.heard_eq]
@[simp] theorem State.heard_log : (s.heard a).log = s.log := by rw [State.heard_eq]

end

/-! ## What a report leaves -/

/-- What every report leaves: the cycle's stage, the seats' verdicts, silence counts and links, and the events held. -/
structure State.Acted (s t : State) : Prop where
  stage : t.scan.stage = s.scan.stage
  seats : ∀ a : SeatAddr, t.scan.seats[a].verdict = s.scan.seats[a].verdict ∧
    t.scan.seats[a].silence = s.scan.seats[a].silence ∧ t.scan.seats[a].link = s.scan.seats[a].link
  holds : ∀ e, s.holds e = true → t.holds e = true

section
variable {s t u : State}

theorem State.Acted.refl (s : State) : s.Acted s := ⟨rfl, fun _ => ⟨rfl, rfl, rfl⟩, fun _ h => h⟩

theorem State.Acted.onSeat (h : s.Acted t) (a : SeatAddr) {f : Seat → Seat}
    (hf : ∀ x, (f x).verdict = x.verdict ∧ (f x).silence = x.silence ∧ (f x).link = x.link) : s.Acted (t.onSeat a f) := by
  refine ⟨h.stage, fun b => ?_, h.holds⟩
  by_cases hb : b = a
  · subst hb
    rw [State.onSeat_seat]
    obtain ⟨h1, h2, h3⟩ := h.seats b
    obtain ⟨f1, f2, f3⟩ := hf t.scan.seats[b]
    exact ⟨f1.trans h1, f2.trans h2, f3.trans h3⟩
  · rw [State.onSeat_seat_ne _ _ hb]; exact h.seats b

theorem State.Acted.answer (h : s.Acted t) (a : SeatAddr) (c : AnswerCode) (v : Nat) : s.Acted (t.answer a c v) :=
  h.onSeat a fun _ => ⟨rfl, rfl, rfl⟩

theorem State.Acted.of_eq (h : s.Acted t) (hs : u.scan = t.scan) (hh : ∀ e, t.holds e = true → u.holds e = true) : s.Acted u :=
  ⟨(congrArg Scanner.stage hs).trans h.stage, fun a => by rw [hs]; exact h.seats a, fun e he => hh e (h.holds e he)⟩

/-- What a press can do: nothing, an answer to its seat, a contest opened, or a contender added. -/
inductive PressDone (s : State) (p : Press) : State → Prop where
  | kept : PressDone s p s
  | answered (c : AnswerCode) : PressDone s p (s.answer p.seat c 0)
  | opened (x : Contender) : PressDone s p (s.openContest x)
  | joined (x : Contender) : PressDone s p (s.insertPress x)

theorem State.pressRunning_done (s : State) (p : Press) : PressDone s p (s.pressRunning p) := by
  unfold State.pressRunning
  split
  · exact .answered _
  · exact .answered _
  · split
    · exact .answered _
    · split_ifs
      · exact .opened _
      · exact .answered _

theorem State.pressContest_done (s : State) (p : Press) : PressDone s p (s.pressContest p) := by
  unfold State.pressContest
  by_cases hs : (s.clock.contenders.any fun x => x.seat = p.seat) = true
  · rw [if_pos hs]; exact .kept
  by_cases hb : (s.clock.contenders.any fun x => p.buyer = some x.buyer) = true
  · rw [if_neg hs, if_pos hb]; exact .kept
  rw [if_neg hs, if_neg hb]
  cases p.cls with
  | stale => exact .answered _
  | early => exact .answered _
  | timed t =>
    dsimp only
    by_cases hl : (s.clock.stopTime.any fun ts => ts < t) = true
    · rw [if_pos hl]; exact .answered _
    rw [if_neg hl]
    cases s.bidder p.buyer with
    | none => exact .answered _
    | some b =>
      dsimp only
      split_ifs
      · exact .joined _
      · exact .answered _

theorem State.press_done (s : State) (p : Press) : PressDone s p (s.press p) := by
  unfold State.press
  cases s.clock.state with
  | running => exact s.pressRunning_done p
  | contest => exact s.pressContest_done p
  | _ => exact .answered _

theorem State.acted_press (s : State) (p : Press) : s.Acted (s.press p) := by
  have hd := s.press_done p
  generalize s.press p = t at hd ⊢
  cases hd with
  | kept => exact .refl s
  | answered c => exact (State.Acted.refl s).answer _ _ _
  | opened x => exact (State.Acted.refl s).of_eq (State.setClock_scan ..) fun e he => State.holds_setClock _ _ _ _ he
  | joined x =>
    have h : s.Acted (s.onClock fun c => { c with contenders := (insertContender x s.clock.contenders).take Config.contenderCapacity }) :=
      (State.Acted.refl s).of_eq rfl fun _ h => h
    unfold State.insertPress
    dsimp only
    split
    · exact h
    · exact h.answer _ _ _

theorem State.acted_login (s : State) (a : SeatAddr) (b : Nat) : s.Acted (s.login a b) := by
  unfold State.login
  split_ifs
  · exact (State.Acted.refl s).answer _ _ _
  · split
    · exact (State.Acted.refl s).answer _ _ _
    · next acc _ =>
      have h : s.Acted { s with accounts := acc } := .of_eq (.refl s) rfl fun _ h => h
      exact (h.onSeat a (f := fun x => { x with buyer := some b, quantity := 1 }) fun _ => ⟨rfl, rfl, rfl⟩).answer _ _ _

theorem State.acted_logout (s : State) (a : SeatAddr) : s.Acted (s.logout a) := by
  unfold State.logout
  split
  · next b _ =>
    have h : s.Acted { s with accounts := s.accounts.clearSeat b } := .of_eq (.refl s) rfl fun _ h => h
    exact (h.onSeat a (f := fun x => { x with buyer := none }) fun _ => ⟨rfl, rfl, rfl⟩).answer _ _ _
  · exact .refl s

theorem State.acted_actOn (s : State) (a : SeatAddr) (r : Report) : s.Acted (s.actOn a r) := by
  cases r with
  | none => exact .refl s
  | login b => exact s.acted_login a b
  | logout => exact s.acted_logout a
  | quantity q =>
    exact (State.Acted.refl s).onSeat a (f := fun x => { x with quantity := max 1 q }) fun _ => ⟨rfl, rfl, rfl⟩
  | press n d => exact s.acted_press _

end

/-- Settles O41: the judgement, the verdict, the silence count and the link, and the QUANTITY report. -/
theorem repliesAreJudged : Obligations.RepliesAreJudged := by
  refine ⟨fun a ws r => judge_iff.trans (and_congr_right fun _ => by cases r <;> rfl), fun s a ws hp hs => ⟨fun h => ?_, fun r h => ?_⟩⟩
  · obtain ⟨ps, e, hseat, hquiet⟩ := s.windowOver.noGoodReply_cases a
    have hx : (s.windowOver.noGoodReply a).scan.seats[a] = s.scan.seats[a].unheard := by
      rw [e]; exact s.windowOver.onSeat_seat a _
    refine ⟨_, exec_badReply hp hs h, ?_, ?_, ?_, fun h15 => ⟨?_, fun ho => ?_⟩, fun h15 => ⟨?_, ?_⟩, ?_, ?_, ?_,
      fun b hb => ?_, ?_, ?_, ?_, ?_⟩
    · rw [State.reface_scan, e]; rfl
    · rw [State.reface_scan, hx]; rfl
    · rw [State.reface_scan, hx]; rfl
    · rw [State.reface_scan, hx]
      cases hl : s.scan.seats[a].link with
      | online => exact if_pos ⟨h15, hl⟩
      | offline => exact (if_neg fun hn => by rw [hl] at hn; exact absurd hn.2 nofun).trans hl
    · exact (State.reface_holds ..).trans (hseat h15 ho)
    · rw [State.reface_scan, hx]; exact if_neg fun hn => absurd hn.1 (Nat.not_le.mpr h15)
    · rw [State.reface_ports, e]; exact hquiet h15
    · rw [State.reface_scan, hx]; rfl
    · rw [State.reface_scan, hx]; rfl
    · rw [State.reface_scan, hx]; rfl
    · rw [State.reface_scan, e]; exact s.windowOver.onSeat_seat_ne _ hb
    · rw [State.reface_clock, e]; rfl
    · rw [State.reface_accounts, e]; rfl
    · rw [State.reface_log, e]; rfl
    · rw [State.reface_lots, e]; rfl
  · have hact := (s.heard a).acted_actOn a r
    obtain ⟨hv, hsil, hlink⟩ := hact.seats a
    rw [s.heard_seat a] at hv hsil hlink
    refine ⟨_, exec_goodReply hp hs h, hact.stage.trans (by rw [State.heard_scan]), hv, hsil, hlink,
      fun ho => hact.holds _ (s.heard_holds a ho), ?_, ?_⟩
    · rintro rfl
      exact ⟨(congrArg Seat.buyer (s.heard_seat a)).trans rfl, (congrArg Seat.quantity (s.heard_seat a)).trans rfl,
        (congrArg Seat.answer (s.heard_seat a)).trans rfl, s.heard_clock a, s.heard_accounts a⟩
    · rintro q rfl
      have hq : ((s.heard a).onSeat a fun x => { x with quantity := max 1 q }).scan.seats[a] =
          { s.scan.seats[a] with verdict := .accepted, silence := 0, link := .online, quantity := max 1 q } := by
        rw [State.onSeat_seat, State.heard_seat]
      exact ⟨(congrArg Seat.quantity hq).trans rfl, (congrArg Seat.buyer hq).trans rfl, (congrArg Seat.answer hq).trans rfl,
        s.heard_clock a, s.heard_accounts a⟩

/-! ## LOGIN and LOGOUT (R80, R81, R163) -/

/-- A LOGIN that the Account Store takes: an ACTIVE buyer, bound nowhere or at this seat. -/
def Accounts.MayLogin (acc : Accounts) (a : SeatAddr) (b : Nat) : Prop :=
  b ≠ 0 ∧ ∃ r, acc.buyers.get b = some r ∧ r.state = .active ∧ (r.seat = none ∨ r.seat = some a)

theorem Accounts.seatRequest_isSome {acc : Accounts} {a : SeatAddr} {b : Nat} (c : Option Nat) :
    (acc.seatRequest a b c).isSome = true ↔ acc.MayLogin a b := by
  unfold Accounts.seatRequest Accounts.MayLogin
  by_cases h0 : b = 0
  · simp [h0]
  cases hb : acc.buyers.get b with
  | none => simp [h0]
  | some r =>
    cases hs : r.state with
    | suspended => simp [h0, hs]
    | active =>
      cases hx : r.seat with
      | none => simp [h0, hs, hx]
      | some y => by_cases hy : y = a <;> simp [h0, hs, hx, hy]

theorem Scanner.leaving_eq (sc : Scanner) (a : SeatAddr) :
    sc.leaving a = !(sc.nextCount.all fun n => decide (a.val < n)) := by
  unfold Scanner.leaving
  cases sc.nextCount with
  | none => rfl
  | some n => by_cases h : a.val < n <;> simp [h, Nat.not_lt.mp]

section
variable {s : State} {a : SeatAddr} {b : Nat}

theorem State.login_denied (h : ¬ (s.accounts.MayLogin a b ∧ s.scan.leaving a = false)) : s.login a b = s.answer a .denied 0 := by
  unfold State.login
  split_ifs with hl
  · rfl
  · have hn : s.accounts.seatRequest a b s.scan.seats[a].buyer = none := by
      rw [← Option.not_isSome_iff_eq_none, Accounts.seatRequest_isSome]
      exact fun hm => h ⟨hm, Bool.eq_false_iff.mpr hl⟩
    rw [hn]

theorem State.login_taken (h : s.accounts.MayLogin a b) (hl : s.scan.leaving a = false) :
    ∃ acc, s.accounts.seatRequest a b s.scan.seats[a].buyer = some acc ∧ s.login a b =
      (({ s with accounts := acc } : State).onSeat a fun x => { x with buyer := some b, quantity := 1 }).answer a .ready 1 := by
  obtain ⟨acc, hacc⟩ := Option.isSome_iff_exists.mp ((Accounts.seatRequest_isSome s.scan.seats[a].buyer).mpr h)
  refine ⟨acc, hacc, ?_⟩
  unfold State.login
  rw [if_neg (by rw [hl]; nofun), hacc]

/-- A LOGIN touches the buyers and one seat alone. -/
theorem State.login_frame (s : State) (a : SeatAddr) (b : Nat) : (s.login a b).clock = s.clock ∧ (s.login a b).log = s.log ∧
    (s.login a b).lots = s.lots ∧ ∀ x, x ≠ a → (s.login a b).scan.seats[x] = s.scan.seats[x] := by
  by_cases h : s.accounts.MayLogin a b ∧ s.scan.leaving a = false
  · obtain ⟨acc, -, e⟩ := State.login_taken h.1 h.2
    rw [e]
    refine ⟨rfl, rfl, rfl, fun x hx => ?_⟩
    rw [State.answer_seat_ne _ _ _ _ hx, State.onSeat_seat_ne _ _ hx]
  · rw [State.login_denied h]
    exact ⟨rfl, rfl, rfl, fun x hx => State.answer_seat_ne _ _ _ _ hx⟩

/-- A LOGIN that is taken binds the seat and its buyer, and the seat's former buyer loses the seat (R80, R163). -/
theorem State.login_binds (h : s.accounts.MayLogin a b) (hl : s.scan.leaving a = false) :
    (s.login a b).scan.seats[a] =
      { s.scan.seats[a] with buyer := some b, quantity := 1, answer := some { code := .ready, value := 1 } } ∧
    (s.login a b).accounts.buyers.get b = (s.accounts.buyers.get b).map (fun r => { r with seat := some a }) ∧
    (∀ c, s.scan.seats[a].buyer = some c → c ≠ b →
      (s.login a b).accounts.buyers.get c = (s.accounts.buyers.get c).map fun r => { r with seat := none }) ∧
    ∀ c, c ≠ b → s.scan.seats[a].buyer ≠ some c → (s.login a b).accounts.buyers.get c = s.accounts.buyers.get c := by
  obtain ⟨acc, hacc, e⟩ := State.login_taken h hl
  obtain ⟨r, hb, -, hget⟩ := Accounts.get_seatRequest hacc
  have hacc' : (s.login a b).accounts = acc := by rw [e]; rfl
  rw [hacc']
  refine ⟨?_, ?_, fun c hc hne => ?_, fun c hne hc => ?_⟩
  · rw [e, State.answer_seat, State.onSeat_seat]
  · rw [hget, if_pos rfl, hb]; rfl
  · rw [hget, if_neg hne]
    simp only [hc, if_true]
  · rw [hget, if_neg hne]
    simp only [hc, if_false, Option.map_id']

end

section
variable (s : State) (a : SeatAddr)

theorem State.logout_frame : (s.logout a).clock = s.clock ∧ (s.logout a).log = s.log ∧
    (s.logout a).lots = s.lots ∧ ∀ x, x ≠ a → (s.logout a).scan.seats[x] = s.scan.seats[x] := by
  unfold State.logout
  cases s.scan.seats[a].buyer with
  | none => exact ⟨rfl, rfl, rfl, fun _ _ => rfl⟩
  | some b =>
    refine ⟨rfl, rfl, rfl, fun x hx => ?_⟩
    dsimp only
    rw [State.answer_seat_ne _ _ _ _ hx, State.unbindSeat_seat_ne _ _ hx]

variable {s a}

theorem State.logout_unbound (h : s.scan.seats[a].buyer = none) : s.logout a = s := by
  unfold State.logout
  rw [h]

theorem State.logout_bound {b : Nat} (h : s.scan.seats[a].buyer = some b) :
    (s.logout a).scan.seats[a] =
      { s.scan.seats[a] with buyer := none, answer := some { code := .released, value := 0 } } ∧
    (s.logout a).accounts = s.accounts.clearSeat b := by
  unfold State.logout
  rw [h]
  dsimp only
  exact ⟨by rw [State.answer_seat, State.unbindSeat_seat], rfl⟩

end

/-- Settles O42: a LOGIN binds one seat and one buyer, or is answered DENIED, and a LOGOUT ends a binding. -/
theorem loginBindsAndLogoutReleases : Obligations.LoginBindsAndLogoutReleases := by
  intro s a ws hp hs
  have hseat := s.heard_seat a
  refine ⟨fun b h => ?_, fun h => ?_⟩
  · have hleave : (s.heard a).scan.leaving a = !(s.scan.nextCount.all fun n => decide (a.val < n)) := by
      rw [State.heard_scan, Scanner.leaving_eq]
    obtain ⟨h1, h2, h3, h4⟩ := (s.heard a).login_frame a b
    refine ⟨((s.heard a).login a b).reface, exec_goodReply hp hs h, h1.trans (s.heard_clock a), h2.trans (s.heard_log a),
      h3.trans (s.heard_lots a), fun x hx => (h4 x hx).trans (s.heard_seat_ne a hx), ?_⟩
    split_ifs with hm
    · obtain ⟨h0, hr, hn⟩ := hm
      obtain ⟨b1, b2, b3, b4⟩ := State.login_binds (s := s.heard a) (a := a) (b := b)
        (by rw [State.heard_accounts]; exact ⟨h0, hr⟩) (by rw [hleave, hn]; rfl)
      rw [hseat] at b1 b3 b4
      rw [State.heard_accounts] at b2 b3 b4
      exact ⟨(congrArg Seat.buyer b1).trans rfl, (congrArg Seat.quantity b1).trans rfl, (congrArg Seat.answer b1).trans rfl,
        b2, b3, b4⟩
    · have hd := State.login_denied (s := s.heard a) (a := a) (b := b) fun hy => hm (by
        rw [State.heard_accounts, hleave, Bool.not_eq_false'] at hy
        exact ⟨hy.1.1, hy.1.2, hy.2⟩)
      have hx : ((s.heard a).login a b).scan.seats[a] = { s.scan.seats[a] with
          verdict := .accepted, silence := 0, link := .online, answer := some { code := .denied, value := 0 } } := by
        rw [hd, State.answer_seat, hseat]
      exact ⟨(congrArg Seat.buyer hx).trans rfl, (congrArg Seat.quantity hx).trans rfl, (congrArg Seat.answer hx).trans rfl,
        (congrArg State.accounts hd).trans (s.heard_accounts a)⟩
  · obtain ⟨h1, h2, h3, h4⟩ := (s.heard a).logout_frame a
    refine ⟨((s.heard a).logout a).reface, exec_goodReply hp hs h, h1.trans (s.heard_clock a), h2.trans (s.heard_log a),
      h3.trans (s.heard_lots a), fun x hx => (h4 x hx).trans (s.heard_seat_ne a hx), ?_⟩
    cases hb : s.scan.seats[a].buyer with
    | none =>
      have hl := State.logout_unbound (s := s.heard a) (a := a) (by rw [hseat]; exact hb)
      have hx : ((s.heard a).logout a).scan.seats[a] =
          { s.scan.seats[a] with verdict := .accepted, silence := 0, link := .online } := by rw [hl, hseat]
      exact ⟨(congrArg Seat.quantity hx).trans rfl, (congrArg Seat.buyer hx).trans hb, (congrArg Seat.answer hx).trans rfl,
        (congrArg State.accounts hl).trans (s.heard_accounts a)⟩
    | some b =>
      obtain ⟨hx, hacc⟩ := State.logout_bound (s := s.heard a) (a := a) (b := b) (by rw [hseat]; exact hb)
      rw [hseat] at hx
      rw [State.heard_accounts] at hacc
      refine ⟨(congrArg Seat.quantity hx).trans rfl, (congrArg Seat.buyer hx).trans rfl, (congrArg Seat.answer hx).trans rfl,
        ?_, fun c hc => ?_⟩
      · rw [State.reface_accounts, hacc, Accounts.get_clearSeat_self]
      · rw [State.reface_accounts, hacc, Accounts.get_clearSeat_ne _ hc]

end Sys2Proof.Machine

/-!
Presses (R84, R130 to R136): their classification, the contest a press opens, and the contest it joins.
-/

namespace Sys2Proof.Machine

/-! ## A press on the seat of the poll -/

/-- The press that a report of seat `a` hands over. -/
def State.pressOf (s : State) (a : SeatAddr) (n : Byte) (d : Nat) : Press :=
  { seat := a, buyer := s.scan.seats[a].buyer, quantity := s.scan.seats[a].quantity, cls := s.classify n d }

section
variable (s : State) (a : SeatAddr)

theorem State.heard_curLot : (s.heard a).curLot = s.curLot := by rw [State.heard_eq]; rfl

theorem State.heard_classify (n : Byte) (d : Nat) : (s.heard a).classify n d = s.classify n d := by
  have hb : (s.heard a).scan.beacons = s.scan.beacons := by rw [State.heard_scan]
  unfold State.classify
  rw [hb, State.heard_clock]

/-- A press report is judged by the records as they stood before the reply. -/
theorem State.heard_press (n : Byte) (d : Nat) : (s.heard a).actOn a (.press n d) = (s.heard a).press (s.pressOf a n d) := by
  have hx := s.heard_seat a
  simp only [State.actOn, State.pressReport, State.heard_classify, hx]
  rfl

theorem exec_press {s : State} {a : SeatAddr} {ws : List LinkWord} {n : Byte} {d : Nat} (hp : s.scan.pos = .seat a)
    (hs : s.scan.stage = .sent) (h : judge a ws = some (.press n d)) :
    exec (.replyWindowEnd ws) s = .next ((s.heard a).press (s.pressOf a n d)).reface := by
  rw [← State.heard_press]
  exact exec_goodReply hp hs h

end

/-- What a press at seat `a` leaves as it is: every block but the clock, the table of beacons, the other seats, and the buyer
and quantity of its own. -/
structure State.PressFrame (s : State) (a : SeatAddr) (u : State) : Prop where
  lots : u.lots = s.lots
  accounts : u.accounts = s.accounts
  log : u.log = s.log
  beacons : u.scan.beacons = s.scan.beacons
  others : ∀ x, x ≠ a → u.scan.seats[x] = s.scan.seats[x]
  buyer : u.scan.seats[a].buyer = s.scan.seats[a].buyer
  quantity : u.scan.seats[a].quantity = s.scan.seats[a].quantity

section
variable (s : State) (a : SeatAddr)

/-- The part with a press of seat `a` answered. -/
def State.pressAnswered (c : AnswerCode) : State := ((s.heard a).answer a c 0).reface

theorem State.pressAnswered_seat (c : AnswerCode) : (s.pressAnswered a c).scan.seats[a] = { s.scan.seats[a] with
    verdict := .accepted, silence := 0, link := .online, answer := some { code := c, value := 0 } } := by
  rw [State.pressAnswered, State.reface_scan, State.answer_seat, State.heard_seat]

theorem State.pressAnswered_facts (c : AnswerCode) : s.PressFrame a (s.pressAnswered a c) ∧
    (s.pressAnswered a c).scan.seats[a].answer = some { code := c, value := 0 } ∧ (s.pressAnswered a c).clock = s.clock := by
  have hx := s.pressAnswered_seat a c
  refine ⟨⟨s.heard_lots a, s.heard_accounts a, s.heard_log a, ?_, fun x hne => ?_, (congrArg Seat.buyer hx).trans rfl,
    (congrArg Seat.quantity hx).trans rfl⟩, (congrArg Seat.answer hx).trans rfl, s.heard_clock a⟩
  · change (s.heard a).scan.beacons = _
    rw [State.heard_scan]
  · rw [State.pressAnswered, State.reface_scan, State.answer_seat_ne _ _ _ _ hne, State.heard_seat_ne _ _ hne]

/-- The part with a contest opened by a contender of seat `a`. -/
def State.pressOpened (x : Contender) : State := ((s.heard a).openContest x).reface

theorem State.pressOpened_facts (x : Contender) (hs : s.clock.state ≠ .contest) : s.PressFrame a (s.pressOpened a x) ∧
    (s.pressOpened a x).clock = { s.clock with
      state := .contest, halt := none, tickTimer := none, stopTime := some s.clock.runTime, stopPrice := some s.clock.price,
      contenders := [x], opener := some x.seat } ∧
    (s.pressOpened a x).holds .clock = true ∧ (s.pressOpened a x).scan.seats[a].answer = s.scan.seats[a].answer := by
  have hscan : (s.pressOpened a x).scan = (s.heard a).scan := by
    rw [State.pressOpened, State.reface_scan, State.openContest, State.setClock_scan, State.onClock_scan]
  have hx : (s.pressOpened a x).scan.seats[a] = { s.scan.seats[a] with verdict := .accepted, silence := 0, link := .online } := by
    rw [hscan, State.heard_seat]
  refine ⟨⟨?_, ?_, ?_, ?_, fun y hy => ?_, (congrArg Seat.buyer hx).trans rfl, (congrArg Seat.quantity hx).trans rfl⟩, ?_, ?_,
    (congrArg Seat.answer hx).trans rfl⟩
  · rw [State.pressOpened, State.reface_lots, State.openContest, State.setClock_lots, State.onClock_lots, State.heard_lots]
  · rw [State.pressOpened, State.reface_accounts, State.openContest, State.setClock_accounts, State.onClock_accounts,
      State.heard_accounts]
  · rw [State.pressOpened, State.reface_log, State.openContest, State.setClock_log, State.onClock_log, State.heard_log]
  · rw [hscan, State.heard_scan]
  · rw [hscan, State.heard_seat_ne _ _ hy]
  · rw [State.pressOpened, State.reface_clock, State.openContest, State.setClock_clock, State.onClock_clock, State.heard_clock]
  · refine (State.reface_holds ..).trans (State.setClock_holds_clock _ _ ?_)
    rw [State.onClock_clock, State.heard_clock]
    exact hs

end

/-! ## The tests of a press (R84, R131, R132) -/

section
variable (s : State)

theorem State.quantityPasses_eq (q : Nat) :
    s.quantityPasses q = !(s.curLot.any fun l => decide (q < l.minimum ∧ l.minimum ≤ l.remaining)) := by
  unfold State.quantityPasses
  cases s.curLot with
  | none => rfl
  | some l =>
    simp only [quantityOk, Option.any_some]
    rw [Bool.eq_iff_iff]
    simp

variable {s}

theorem State.classify_unnamed {n : Byte} (h : s.scan.beacons.find? (fun b => b.number = n) = none) (d : Nat) :
    s.classify n d = .stale := by
  simp only [State.classify, h]

theorem State.classify_named {n : Byte} {b : BeaconRec} (h : s.scan.beacons.find? (fun b => b.number = n) = some b) (d : Nat) :
    s.classify n d = if b.segment ≠ s.clock.segment then .stale else if b.running = false then .early
      else .timed (min (b.runTime + d) s.clock.runTime) := by
  simp only [State.classify, h, Bool.not_eq_true]

theorem Accounts.isActive_eq (x : Accounts) (b : Nat) :
    x.isActive b = (x.buyers.get b).any fun r => decide (r.state = .active) := by
  unfold Accounts.isActive
  cases x.buyers.get b <;> rfl

/-- The buyer of a bound seat, with its record. -/
def State.bidderRecord (s : State) (b : Option Nat) : Option (Nat × Buyer) :=
  b.bind fun x => (s.accounts.buyers.get x).map fun r => (x, r)

theorem State.bidder_eq (b : Option Nat) : s.bidder b = match s.bidderRecord b with
    | none => none
    | some (x, r) => if r.state = .suspended then none else some x := by
  cases b with
  | none => rfl
  | some x =>
    simp only [State.bidder, State.bidderRecord, Accounts.isActive_eq, Option.bind_some]
    cases s.accounts.buyers.get x with
    | none => rfl
    | some r => cases h : r.state <;> simp [h]

end

/-! ## A press outside CONTEST (R130 to R133) -/

section
variable {s : State} {a : SeatAddr} {ws : List LinkWord} {n : Byte} {d : Nat}

/-- The outcome of a press, its frame and what the press itself does. -/
theorem State.PressFrame.outcome {u : State} {P : State → Prop} (hf : s.PressFrame a u)
    (h : exec (.replyWindowEnd ws) s = .next u) (hP : P u) :
    ∃ u, exec (.replyWindowEnd ws) s = .next u ∧
      u.lots = s.lots ∧ u.accounts = s.accounts ∧ u.log = s.log ∧ u.scan.beacons = s.scan.beacons ∧
      (∀ x, x ≠ a → u.scan.seats[x] = s.scan.seats[x]) ∧ u.scan.seats[a].buyer = s.scan.seats[a].buyer ∧
      u.scan.seats[a].quantity = s.scan.seats[a].quantity ∧ P u :=
  ⟨u, h, hf.lots, hf.accounts, hf.log, hf.beacons, hf.others, hf.buyer, hf.quantity, hP⟩

theorem State.heard_bidder (b : Option Nat) : (s.heard a).bidder b = s.bidder b := by
  cases b with
  | none => rfl
  | some x => simp only [State.bidder, State.heard_accounts]

theorem State.heard_quantityPasses (q : Nat) : (s.heard a).quantityPasses q = s.quantityPasses q := by
  simp only [State.quantityPasses, State.heard_curLot]

/-- What becomes of a press in RUNNING, from its classification, its bidder and the quantity test. -/
theorem State.pressRunning_heard (hst : s.clock.state = .running) :
    ((s.heard a).press (s.pressOf a n d)).reface = match s.classify n d with
      | .stale => s.pressAnswered a .late
      | .early => s.pressAnswered a .wait
      | .timed t => match s.bidder s.scan.seats[a].buyer with
        | none => s.pressAnswered a .denied
        | some x => if s.quantityPasses s.scan.seats[a].quantity
            then s.pressOpened a { seat := a, buyer := x, quantity := s.scan.seats[a].quantity, time := t }
            else s.pressAnswered a .qty := by
  have hh : (s.heard a).clock.state = .running := (congrArg Clock.state (s.heard_clock a)).trans hst
  simp only [State.press, hh, State.pressRunning, State.pressOf, State.heard_bidder, State.heard_quantityPasses]
  cases s.classify n d with
  | stale => rfl
  | early => rfl
  | timed t =>
    cases s.bidder s.scan.seats[a].buyer with
    | none => rfl
    | some x => cases s.quantityPasses s.scan.seats[a].quantity <;> rfl

theorem State.press_waits (hst : s.clock.state = .idle ∨ s.clock.state = .loaded ∨ s.clock.state = .halted) :
    ((s.heard a).press (s.pressOf a n d)).reface = s.pressAnswered a .wait := by
  have hh := congrArg Clock.state (s.heard_clock a)
  rcases hst with h | h | h <;> simp only [State.press, hh, h] <;> rfl

theorem State.press_late (hst : s.clock.state = .showing) :
    ((s.heard a).press (s.pressOf a n d)).reface = s.pressAnswered a .late := by
  have hh := congrArg Clock.state (s.heard_clock a)
  simp only [State.press, hh, hst]
  rfl

end

/-- Settles O43: the clock state and the classification decide; in RUNNING the bidder and the quantity test decide the rest. -/
theorem pressOpensContest : Obligations.PressOpensContest := by
  intro s a ws n d hp hs hj hc
  have hx := exec_press hp hs hj
  have answered : ∀ c, ((s.heard a).press (s.pressOf a n d)).reface = s.pressAnswered a c →
      exec (.replyWindowEnd ws) s = .next (s.pressAnswered a c) := fun c h => hx.trans (congrArg _ h)
  have facts := s.pressAnswered_facts a
  cases hst : s.clock.state with
  | idle => exact (facts .wait).1.outcome (answered _ (State.press_waits (.inl hst))) (facts .wait).2
  | loaded => exact (facts .wait).1.outcome (answered _ (State.press_waits (.inr (.inl hst)))) (facts .wait).2
  | halted => exact (facts .wait).1.outcome (answered _ (State.press_waits (.inr (.inr hst)))) (facts .wait).2
  | showing => exact (facts .late).1.outcome (answered _ (State.press_late hst)) (facts .late).2
  | contest => exact absurd hst hc
  | running =>
    have hr := State.pressRunning_heard (a := a) (n := n) (d := d) hst
    simp only
    cases hb : s.scan.beacons.find? fun b => b.number = n with
    | none =>
      rw [State.classify_unnamed hb] at hr
      exact (facts .late).1.outcome (answered _ hr) (facts .late).2
    | some b =>
      rw [State.classify_named hb] at hr
      by_cases hseg : b.segment ≠ s.clock.segment
      · simp only [if_pos hseg] at hr ⊢
        exact (facts .late).1.outcome (answered _ hr) (facts .late).2
      by_cases hrun : b.running = false
      · simp only [if_neg hseg, if_pos hrun] at hr ⊢
        exact (facts .wait).1.outcome (answered _ hr) (facts .wait).2
      simp only [if_neg hseg, if_neg hrun, State.bidder_eq] at hr ⊢
      change ∃ u, _ ∧ _ ∧ _ ∧ _ ∧ _ ∧ _ ∧ _ ∧ _ ∧ (match s.bidderRecord s.scan.seats[a].buyer with
        | none => (_ : Prop)
        | some (x, r) => (_ : Prop))
      cases hbid : s.bidderRecord s.scan.seats[a].buyer with
      | none =>
        simp only [hbid] at hr ⊢
        exact (facts .denied).1.outcome (answered _ hr) (facts .denied).2
      | some xr =>
        obtain ⟨x, r⟩ := xr
        by_cases hsus : r.state = .suspended
        · simp only [hbid, if_pos hsus] at hr ⊢
          exact (facts .denied).1.outcome (answered _ hr) (facts .denied).2
        by_cases hq : (s.curLot.any fun l => decide (s.scan.seats[a].quantity < l.minimum ∧ l.minimum ≤ l.remaining)) = true
        · simp only [hbid, if_neg hsus, State.quantityPasses_eq, hq, if_pos] at hr ⊢
          exact (facts .qty).1.outcome (answered _ hr) (facts .qty).2
        · have hopen := s.pressOpened_facts a
            { seat := a, buyer := x, quantity := s.scan.seats[a].quantity, time := min (b.runTime + d) s.clock.runTime } hc
          simp only [hbid, if_neg hsus, State.quantityPasses_eq, Bool.eq_false_of_not_eq_true hq, Bool.not_false,
            if_pos] at hr ⊢
          exact hopen.1.outcome (hx.trans (congrArg _ hr)) hopen.2

/-! ## A press in CONTEST (R135, R136) -/

section
variable {s : State} {a : SeatAddr} {n : Byte} {d : Nat}

/-- The part with a contender of seat `a` entered in the contest. -/
def State.pressJoined (s : State) (a : SeatAddr) (x : Contender) : State := ((s.heard a).insertPress x).reface

/-- A press of a seat or buyer in the list changes nothing. -/
theorem State.pressContest_listed {p : Press}
    (h : ∃ y ∈ s.clock.contenders, y.seat = p.seat ∨ p.buyer = some y.buyer) : s.pressContest p = s := by
  obtain ⟨y, hy, h⟩ := h
  unfold State.pressContest
  by_cases hseat : s.clock.contenders.any (fun x => x.seat = p.seat) = true
  · rw [if_pos hseat]
  · rw [if_neg hseat, if_pos]
    have hne : y.seat ≠ p.seat := fun e => hseat (List.any_eq_true.mpr ⟨y, hy, decide_eq_true e⟩)
    exact List.any_eq_true.mpr ⟨y, hy, decide_eq_true (h.resolve_left hne)⟩

/-- Any other press goes by its classification, the stop time, its bidder and the quantity test. -/
theorem State.pressContest_unlisted {p : Press}
    (h : ¬ ∃ y ∈ s.clock.contenders, y.seat = p.seat ∨ p.buyer = some y.buyer) :
    s.pressContest p = match p.cls with
      | .stale => s.answer p.seat .late 0
      | .early => s.answer p.seat .late 0
      | .timed t => if s.clock.stopTime.any (fun ts => ts < t) then s.answer p.seat .late 0
        else match s.bidder p.buyer with
        | none => s.answer p.seat .denied 0
        | some x => if s.quantityPasses p.quantity
            then s.insertPress { seat := p.seat, buyer := x, quantity := p.quantity, time := t }
            else s.answer p.seat .qty 0 := by
  have hseat : ¬ s.clock.contenders.any (fun x => x.seat = p.seat) = true := fun e => by
    obtain ⟨y, hy, e⟩ := List.any_eq_true.mp e
    exact h ⟨y, hy, .inl (of_decide_eq_true e)⟩
  have hbuyer : ¬ s.clock.contenders.any (fun x => p.buyer = some x.buyer) = true := fun e => by
    obtain ⟨y, hy, e⟩ := List.any_eq_true.mp e
    exact h ⟨y, hy, .inr (of_decide_eq_true e)⟩
  unfold State.pressContest
  exact (if_neg hseat).trans ((if_neg hbuyer).trans rfl)

theorem State.press_contest (hst : s.clock.state = .contest) (p : Press) : s.press p = s.pressContest p := by
  simp only [State.press, hst]

/-- A contender of the list of the seat or the buyer of a press of seat `a`. -/
def State.Listed (s : State) (a : SeatAddr) : Prop :=
  ∃ y ∈ s.clock.contenders, y.seat = a ∨ s.scan.seats[a].buyer = some y.buyer

theorem State.press_listed (hst : s.clock.state = .contest) (h : s.Listed a) :
    ((s.heard a).press (s.pressOf a n d)).reface = (s.heard a).reface := by
  have hh := (congrArg Clock.state (s.heard_clock a)).trans hst
  have hl := State.pressContest_listed (s := s.heard a) (p := s.pressOf a n d) (by rw [State.heard_clock]; exact h)
  rw [State.press_contest hh, hl]

theorem State.press_unlisted (hst : s.clock.state = .contest) (h : ¬ s.Listed a) :
    ((s.heard a).press (s.pressOf a n d)).reface = match s.classify n d with
      | .stale => s.pressAnswered a .late
      | .early => s.pressAnswered a .late
      | .timed t => if s.clock.stopTime.any (fun ts => ts < t) then s.pressAnswered a .late
        else match s.bidder s.scan.seats[a].buyer with
        | none => s.pressAnswered a .denied
        | some x => if s.quantityPasses s.scan.seats[a].quantity
            then s.pressJoined a { seat := a, buyer := x, quantity := s.scan.seats[a].quantity, time := t }
            else s.pressAnswered a .qty := by
  have hh := (congrArg Clock.state (s.heard_clock a)).trans hst
  have hl := State.pressContest_unlisted (s := s.heard a) (p := s.pressOf a n d) (by rw [State.heard_clock]; exact h)
  rw [State.press_contest hh, hl]
  simp only [State.heard_bidder, State.heard_quantityPasses, State.heard_clock, State.pressOf]
  cases s.classify n d with
  | stale => rfl
  | early => rfl
  | timed t =>
    simp only
    cases s.clock.stopTime.any (fun ts => ts < t) with
    | true => rfl
    | false =>
      cases s.bidder s.scan.seats[a].buyer with
      | none => rfl
      | some x => cases s.quantityPasses s.scan.seats[a].quantity <;> rfl

/-- The nine contenders of a list with one more: the ninth, where there is one. -/
theorem drop_insertContender {x : Contender} {l : List Contender} (h : l.length ≤ Config.contenderCapacity) :
    (insertContender x l).drop Config.contenderCapacity = [] ∨
      ∃ z, (insertContender x l).drop Config.contenderCapacity = [z] := by
  have hlen := (perm_insertContender x l).length_eq
  have hd := List.length_drop (i := Config.contenderCapacity) (l := insertContender x l)
  match hz : (insertContender x l).drop Config.contenderCapacity with
  | [] => exact .inl rfl
  | [z] => exact .inr ⟨z, rfl⟩
  | _ :: _ :: _ =>
    rw [hz] at hd
    simp only [List.length_cons] at hlen hd
    omega

theorem State.heard_answer (x : SeatAddr) : (s.heard a).scan.seats[x].answer = s.scan.seats[x].answer := by
  by_cases hx : x = a
  · subst hx
    exact (congrArg Seat.answer (s.heard_seat x)).trans rfl
  · exact congrArg Seat.answer (s.heard_seat_ne a hx)

theorem State.pressJoined_clock (x : Contender) : (s.pressJoined a x).clock =
    { s.clock with contenders := (insertContender x s.clock.contenders).take Config.contenderCapacity } := by
  rw [State.pressJoined, State.reface_clock, State.insertPress_clock, State.heard_clock]

/-- The ninth contender is answered LATE. -/
theorem State.pressJoined_answer {x : Contender} (h : s.clock.contenders.length ≤ Config.contenderCapacity) :
    (∀ z ∈ (insertContender x s.clock.contenders).drop Config.contenderCapacity,
      (s.pressJoined a x).scan.seats[z.seat].answer = some { code := .late, value := 0 }) ∧
    ∀ y : SeatAddr, (∀ z ∈ (insertContender x s.clock.contenders).drop Config.contenderCapacity, z.seat ≠ y) →
      (s.pressJoined a x).scan.seats[y].answer = s.scan.seats[y].answer := by
  simp only [State.pressJoined, State.reface_scan, State.insertPress, State.heard_clock]
  rcases drop_insertContender (x := x) h with hd | ⟨z, hd⟩
  · simp only [hd]
    exact ⟨fun z hz => absurd hz (by simp), fun y _ => State.heard_answer y⟩
  · simp only [hd]
    refine ⟨fun z' hz => ?_, fun y hy => ?_⟩
    · obtain rfl := List.mem_singleton.mp hz
      rw [State.answer_seat]
    · rw [State.answer_seat_ne _ _ _ _ (hy z (by simp)).symm]
      exact State.heard_answer y

end

/-- The outcome of a press in CONTEST: the blocks it leaves, the clock record but for the list, and what the press does. -/
theorem exec_contestPress {s u : State} {ws : List LinkWord} {P : State → Prop} (h : exec (.replyWindowEnd ws) s = .next u)
    (hl : u.lots = s.lots) (ha : u.accounts = s.accounts) (hlog : u.log = s.log)
    (hc : u.clock = { s.clock with contenders := u.clock.contenders }) (hP : P u) :
    ∃ u, exec (.replyWindowEnd ws) s = .next u ∧ u.lots = s.lots ∧ u.accounts = s.accounts ∧ u.log = s.log ∧
      u.clock = { s.clock with contenders := u.clock.contenders } ∧ P u :=
  ⟨u, h, hl, ha, hlog, hc, hP⟩

/-- The outcome of a press in CONTEST that is answered. -/
theorem State.PressFrame.contest {s u : State} {a : SeatAddr} {ws : List LinkWord} {P : State → Prop} (hf : s.PressFrame a u)
    (h : exec (.replyWindowEnd ws) s = .next u) (hc : u.clock = s.clock) (hP : P u) :
    ∃ u, exec (.replyWindowEnd ws) s = .next u ∧ u.lots = s.lots ∧ u.accounts = s.accounts ∧ u.log = s.log ∧
      u.clock = { s.clock with contenders := u.clock.contenders } ∧ P u :=
  ⟨u, h, hf.lots, hf.accounts, hf.log, by rw [hc], hP⟩

theorem State.pressJoined_lots {s : State} {a : SeatAddr} (x : Contender) : (s.pressJoined a x).lots = s.lots := by
  rw [State.pressJoined, State.reface_lots, State.insertPress]
  split <;> exact s.heard_lots a

theorem State.pressJoined_accounts {s : State} {a : SeatAddr} (x : Contender) :
    (s.pressJoined a x).accounts = s.accounts := by
  rw [State.pressJoined, State.reface_accounts, State.insertPress]
  split <;> exact s.heard_accounts a

theorem State.pressJoined_log {s : State} {a : SeatAddr} (x : Contender) : (s.pressJoined a x).log = s.log := by
  rw [State.pressJoined, State.reface_log, State.insertPress]
  split <;> exact s.heard_log a

theorem State.curLot_of {s : State} {k : Nat} {l : Lot} (hk : s.clock.lot = some k) (hl : s.lots.lots.get k = some l) :
    s.curLot = some l := by
  simp only [State.curLot, hk, hl]

/-- Settles O44: a listed press changes nothing, and any other goes by classification, stop time, bidder and quantity. -/
theorem pressJoinsContest : Obligations.PressJoinsContest := by
  intro s a ws n d k l ts hp hs hj hst hok hk hl hts
  have hx := exec_press hp hs hj
  obtain ⟨hlen, ⟨hord, -, -⟩, -, -⟩ := s.contestOk_iff.mp hok
  simp only
  by_cases hlisted : s.Listed a
  · simp only [if_pos (show ∃ y ∈ _, _ from hlisted)]
    refine exec_contestPress (hx.trans (congrArg _ (State.press_listed hst hlisted))) (s.heard_lots a) (s.heard_accounts a)
      (s.heard_log a) ?_ ⟨s.heard_clock a, State.heard_answer⟩
    rw [State.reface_clock, State.heard_clock]
  simp only [if_neg (show ¬ ∃ y ∈ _, _ from hlisted)]
  have hr := State.press_unlisted (n := n) (d := d) hst hlisted
  have answered : ∀ c, ((s.heard a).press (s.pressOf a n d)).reface = s.pressAnswered a c →
      exec (.replyWindowEnd ws) s = .next (s.pressAnswered a c) := fun c h => hx.trans (congrArg _ h)
  have facts : ∀ c, s.PressFrame a (s.pressAnswered a c) ∧ (s.pressAnswered a c).clock = s.clock ∧
      (s.pressAnswered a c).clock = s.clock ∧
      (s.pressAnswered a c).scan.seats[a].answer = some { code := c, value := 0 } ∧
      ∀ x : SeatAddr, x ≠ a → (s.pressAnswered a c).scan.seats[x] = s.scan.seats[x] := fun c =>
    let ⟨hf, ha, hc⟩ := s.pressAnswered_facts a c
    ⟨hf, hc, hc, ha, hf.others⟩
  cases hb : s.scan.beacons.find? fun b => b.number = n with
  | none =>
    rw [State.classify_unnamed hb] at hr
    exact (facts .late).1.contest (answered _ hr) (facts .late).2.1 (facts .late).2.2
  | some b =>
    rw [State.classify_named hb] at hr
    simp only
    by_cases hlate : b.segment ≠ s.clock.segment ∨ b.running = false ∨ ts < min (b.runTime + d) s.clock.runTime
    · have hr' : ((s.heard a).press (s.pressOf a n d)).reface = s.pressAnswered a .late := by
        rw [hr]
        by_cases hseg : b.segment ≠ s.clock.segment
        · rw [if_pos hseg]
        by_cases hrun : b.running = false
        · rw [if_neg hseg, if_pos hrun]
        · simp only [if_neg hseg, if_neg hrun, hts, Option.any_some]
          rw [if_pos (decide_eq_true ((hlate.resolve_left hseg).resolve_left hrun))]
      simp only [if_pos hlate]
      exact (facts .late).1.contest (answered _ hr') (facts .late).2.1 (facts .late).2.2
    have hr' := hr
    rw [if_neg (fun h => hlate (.inl h)), if_neg (fun h => hlate (.inr (.inl h)))] at hr'
    have hntime : ¬ (s.clock.stopTime.any fun u => decide (u < min (b.runTime + d) s.clock.runTime)) = true := by
      rw [hts, Option.any_some]
      exact fun h => hlate (.inr (.inr (of_decide_eq_true h)))
    simp only [if_neg hntime, State.bidder_eq] at hr'
    simp only [if_neg hlate]
    change ∃ u, _ ∧ _ ∧ _ ∧ _ ∧ _ ∧ (match s.bidderRecord s.scan.seats[a].buyer with
      | none => (_ : Prop)
      | some (x, r) => (_ : Prop))
    cases hbid : s.bidderRecord s.scan.seats[a].buyer with
    | none =>
      simp only [hbid] at hr' ⊢
      exact (facts .denied).1.contest (answered _ hr') (facts .denied).2.1 (facts .denied).2.2
    | some xr =>
      obtain ⟨x, r⟩ := xr
      by_cases hsus : r.state = .suspended
      · simp only [hbid, if_pos hsus] at hr' ⊢
        exact (facts .denied).1.contest (answered _ hr') (facts .denied).2.1 (facts .denied).2.2
      have hpass : s.quantityPasses s.scan.seats[a].quantity =
          !decide (s.scan.seats[a].quantity < l.minimum ∧ l.minimum ≤ l.remaining) := by
        rw [State.quantityPasses_eq, State.curLot_of hk hl, Option.any_some]
      by_cases hq : s.scan.seats[a].quantity < l.minimum ∧ l.minimum ≤ l.remaining
      · simp only [hbid, if_neg hsus, hpass, decide_eq_true hq, if_pos hq, Bool.not_true, Bool.false_eq_true, if_false]
          at hr' ⊢
        exact (facts .qty).1.contest (answered _ hr') (facts .qty).2.1 (facts .qty).2.2
      simp only [hbid, if_neg hsus, hpass, decide_eq_false hq, if_neg hq, Bool.not_false, if_true] at hr' ⊢
      refine exec_contestPress (hx.trans (congrArg _ hr')) (State.pressJoined_lots _) (State.pressJoined_accounts _)
        (State.pressJoined_log _) ?_ ?_
      · rw [State.pressJoined_clock]
      · refine ⟨_, perm_insertContender _ _, ?_, congrArg Clock.contenders (State.pressJoined_clock _),
          State.pressJoined_answer hlen⟩
        have hfresh : ∀ y ∈ s.clock.contenders, y.seat ≠ a := fun y hy e => hlisted ⟨y, hy, .inl e⟩
        exact (pairwise_insertContender hord hfresh).imp fun h => (Contender.before_iff _ _).mp h

end Sys2Proof.Machine

/-!
Beacons and polls (R72 to R76), and what a contest's close does to the records of the seats (R139).
-/

namespace Sys2Proof.Machine

/-! ## The scan's places (R72) -/

theorem index_val {n v : Nat} {x : Fin n} (h : index n v = some x) : v = x.val := by
  unfold index at h
  split at h
  · exact congrArg Fin.val (Option.some.inj h)
  · exact absurd h nofun

theorem Scanner.beaconNext_iff (sc : Scanner) : sc.beaconNext = true ↔ sc.pos = .beacon ∧ sc.stage = .due ∨
    sc.stage = .ended ∧ ∃ a, sc.pos = .seat a ∧ sc.scanCount ≤ a.val + 1 := by
  unfold Scanner.beaconNext
  cases sc.pos <;> cases sc.stage <;> simp

theorem Scanner.pollNext_iff (sc : Scanner) (a : SeatAddr) : sc.pollNext = some a ↔
    sc.pos = .beacon ∧ sc.stage = .sent ∧ a = 0 ∨
      sc.stage = .ended ∧ ∃ b, sc.pos = .seat b ∧ a.val = b.val + 1 ∧ a.val < sc.scanCount := by
  unfold Scanner.pollNext
  cases sc.pos with
  | beacon => cases sc.stage <;> simp [eq_comm]
  | seat b =>
    cases sc.stage with
    | due => simp
    | sent => simp
    | ended =>
      simp only [reduceCtorEq, false_and, false_or, true_and, ScanPos.seat.injEq, exists_eq_left']
      by_cases hn : b.val + 1 < sc.scanCount
      · rw [if_pos hn]
        refine ⟨fun h => ?_, fun ⟨he, _⟩ => index_some he.symm⟩
        have he : b.val + 1 = a.val := index_val h
        omega
      · rw [if_neg hn]
        exact ⟨nofun, fun ⟨he, hl⟩ => absurd (he ▸ hl) hn⟩

/-! ## The poll (R75, R76) -/

/-- The part with the scan at the slot of seat `a`. -/
def State.atSeat (s : State) (a : SeatAddr) : State := { s with scan := { s.scan with pos := .seat a } }

theorem exec_pollSlot {s : State} {a : SeatAddr} (h : s.scan.pollNext = some a) :
    exec .pollSlot s = .next (((s.atSeat a).pollNotice a).sendPoll a).reface := by
  change execPollSlot s = _
  unfold execPollSlot
  rw [h]
  rfl

/-- The answer of a poll: the seat's pending answer, or none. -/
def State.pollOf (s : State) (a : SeatAddr) : Option Answer → List LinkWord
  | some y => s.pollWith a y.code.code y.value
  | none => s.pollWith a 0 0

theorem Verdict.pollByte_eq (v : Verdict) : v.pollByte = if v = .accepted then 1 else 0 := by cases v <;> rfl

section
variable (s : State) (a : SeatAddr)

theorem State.sendPoll_sent : (s.sendPoll a).scan.sent = s.pollOf a s.scan.seats[a].answer := by
  change (s.scan.seats[a].pollBytes a).map LinkWord.sound = _
  rw [Seat.pollBytes, Verdict.pollByte_eq]
  cases s.scan.seats[a].answer <;> rfl

theorem State.sendPoll_seat : (s.sendPoll a).scan.seats[a] = { s.scan.seats[a] with answer := none } :=
  Vector.getElem_set_self ..

theorem State.sendPoll_seat_ne {x : SeatAddr} (h : x ≠ a) : (s.sendPoll a).scan.seats[x] = s.scan.seats[x] :=
  Vector.getElem_set_ne a.isLt x.isLt fun e => h (Fin.ext e.symm)

/-- Two states in which a seat has the same verdict send it the same words. -/
theorem State.pollOf_congr {s t : State} {a : SeatAddr} (h : t.scan.seats[a].verdict = s.scan.seats[a].verdict) :
    t.pollOf a = s.pollOf a := by
  funext y
  cases y <;> simp only [State.pollOf, State.pollWith, h]

end

/-! ## What the close of a contest leaves of the seats -/

/-- Nothing of the scanner but answers of seats differs. -/
structure State.Answers (s t : State) : Prop where
  scan : t.scan = { s.scan with seats := t.scan.seats }
  seats : ∀ x : SeatAddr, t.scan.seats[x] = { s.scan.seats[x] with answer := t.scan.seats[x].answer }

section
variable {s t u : State}

theorem State.Answers.of_scan (h : t.scan = s.scan) : s.Answers t := ⟨by rw [h], fun x => by rw [h]⟩

theorem State.Answers.trans (h : s.Answers t) (h' : t.Answers u) : s.Answers u where
  scan := by rw [h'.scan, h.scan]
  seats x := by rw [h'.seats x, h.seats x]

theorem State.Answers.same_scan (h : s.Answers t) (hu : u.scan = t.scan) : s.Answers u := h.trans (.of_scan hu)

theorem State.answers_answer (a : SeatAddr) (c : AnswerCode) (v : Nat) : s.Answers (s.answer a c v) where
  scan := rfl
  seats x := by
    by_cases hx : x = a
    · subst hx
      rw [State.answer_seat]
    · rw [State.answer_seat_ne _ _ _ _ hx]

theorem State.answers_answerLate (xs : List Contender) : s.Answers (s.answerLate xs) := by
  induction xs generalizing s with
  | nil => exact .of_scan rfl
  | cons x xs ih => exact (State.answers_answer ..).trans ih

theorem State.writeRefusal_scan (b total : Nat) (v : Int) : (s.writeRefusal b total v).scan = s.scan := State.raise_scan ..

theorem State.closeNone_scan : s.closeNone.scan = s.scan :=
  (State.onClock_scan ..).trans ((State.setClock_scan ..).trans (State.onClock_scan ..))

/-- A sale's record in the log, in the winner's account and in its lot, before any answer (R144, R145). -/
def State.struck (s : State) (n : Nat) (x : Contender) (u p : Nat) (a : Amounts) : State :=
  ((s.append (purchaseOf s.clock n x u p a)).onBuyer x.buyer fun b => b.raisePending a.total).onLots fun ls =>
    ls.strike n u p x.buyer

/-- A sale's record, and the answers of the winner and of the contenders after it. -/
def State.wonOver (s : State) (n : Nat) (x : Contender) (after : List Contender) (u p : Nat) (a : Amounts) : State :=
  ((s.struck n x u p a).answer x.seat .won u).answerLate after

theorem State.closeWon_eq (n : Nat) (x : Contender) (after : List Contender) (u p : Nat) (a : Amounts) :
    s.closeWon n x after u p a = ((s.wonOver n x after u p a).endContest.enterShowing .sale).raise .sale := rfl

theorem State.closeWon_scan (n : Nat) (x : Contender) (after : List Contender) (u p : Nat) (a : Amounts) :
    (s.closeWon n x after u p a).scan = (s.wonOver n x after u p a).scan := by
  rw [State.closeWon_eq, State.raise_scan, State.enterShowing_scan, State.endContest, State.onClock_scan]

theorem State.struck_scan (n : Nat) (x : Contender) (u p : Nat) (a : Amounts) : (s.struck n x u p a).scan = s.scan :=
  State.append_scan ..

theorem State.answers_wonOver (n : Nat) (x : Contender) (after : List Contender) (u p : Nat) (a : Amounts) :
    s.Answers (s.wonOver n x after u p a) :=
  ((State.Answers.of_scan (State.struck_scan ..)).trans (State.answers_answer ..)).trans (State.answers_answerLate _)

/-- The close of a contest writes nothing of the scanner but answers. -/
theorem State.answers_cascade (n : Nat) (l : Lot) (xs : List Contender) : s.Answers (s.cascade n l xs) := by
  induction xs generalizing s with
  | nil => exact .of_scan State.closeNone_scan
  | cons x xs ih =>
    unfold State.cascade
    split
    · exact (State.answers_answer ..).trans ih
    · exact (State.answers_answer ..).trans ih
    · exact ((State.answers_answer ..).same_scan (State.writeRefusal_scan ..)).trans ih
    · exact (State.answers_wonOver ..).same_scan (State.closeWon_scan ..)

theorem State.answers_closeContest : s.Answers s.closeContest := by
  unfold State.closeContest
  split
  · exact State.answers_cascade ..
  · exact .of_scan State.closeNone_scan

end

/-! ## Beacon and poll -/

section
variable {s : State} {n : Nat}

theorem State.cycleStart_none (h : s.scan.nextCount = none) : s.cycleStart = s := by simp only [State.cycleStart, h]

/-- A next scan count waits while a contest is open. -/
theorem State.cycleStart_contest (h : s.clock.state = .contest) : s.cycleStart = s := by
  unfold State.cycleStart
  cases s.scan.nextCount with
  | none => rfl
  | some n => exact if_pos h

theorem State.cycleStart_adopts (h : s.scan.nextCount = some n) (hc : s.clock.state ≠ .contest) :
    s.cycleStart = { s with scan := s.scan.adopt n } := by
  simp only [State.cycleStart, h, if_neg hc]

/-- What the start of a cycle leaves, and the count it takes. -/
theorem State.cycleStart_facts (s : State) :
    s.cycleStart = { s with scan := s.cycleStart.scan } ∧ s.cycleStart.scan.beaconNo = s.scan.beaconNo ∧
    s.cycleStart.scan.beacons = s.scan.beacons ∧
    match s.scan.nextCount with
    | some n =>
      if s.clock.state = .contest then
        s.cycleStart.scan.scanCount = s.scan.scanCount ∧ s.cycleStart.scan.nextCount = some n ∧
          s.cycleStart.scan.seats = s.scan.seats
      else s.cycleStart.scan.scanCount = n ∧ s.cycleStart.scan.nextCount = none ∧ ∀ a : SeatAddr,
        s.cycleStart.scan.seats[a] = if n ≤ a.val then { s.scan.seats[a] with answer := none } else s.scan.seats[a]
    | none => s.cycleStart.scan.scanCount = s.scan.scanCount ∧ s.cycleStart.scan.nextCount = none ∧
        s.cycleStart.scan.seats = s.scan.seats := by
  cases hn : s.scan.nextCount with
  | none =>
    rw [State.cycleStart_none hn]
    exact ⟨rfl, rfl, rfl, rfl, hn, rfl⟩
  | some n =>
    simp only
    by_cases h : s.clock.state = .contest
    · rw [State.cycleStart_contest h, if_pos h]
      exact ⟨rfl, rfl, rfl, rfl, hn, rfl⟩
    · rw [State.cycleStart_adopts hn h, if_neg h]
      dsimp only [Scanner.adopt]
      exact ⟨rfl, rfl, rfl, rfl, rfl, fun a => Vector.getElem_ofFn a.isLt⟩

end

theorem exec_beacon {s : State} (h : s.scan.beaconNext = true) : exec .beacon s = .next s.cycleStart.sendBeacon := by
  change Host.Outcome.next (if s.scan.beaconNext = true then _ else _) = _
  rw [if_pos h]

/-- Settles O40: the beacon from the start of its cycle, the poll from the state after its notice. -/
theorem beaconAndPollCarryRecords : Obligations.BeaconAndPollCarryRecords := by
  intro s
  refine ⟨s.scan.beaconNext_iff, fun h => ?_, fun h => ?_, s.scan.pollNext_iff, fun a ha hc => ?_, fun a ha hs ho => ?_,
    fun h => ?_⟩
  · obtain ⟨hf, hno, hb, hcount⟩ := s.cycleStart_facts
    refine ⟨s.cycleStart.sendBeacon, exec_beacon h, ?_, ?_, ?_, congrArg (· + 1) hno, rfl, rfl, hcount⟩
    · rw [State.sendBeacon, hf]
    · change s.cycleStart.beaconBytes.map LinkWord.sound = _
      rw [State.beaconBytes, hno, hf]
      rw [yesNo_eq]
      simp only [decide_eq_true_eq]
      rfl
    · change pushBeacon s.cycleStart.scan.beacons s.cycleStart.beaconRec = _
      rw [State.beaconRec, hno, hb, hf]
      rfl
  · change Host.Outcome.next (if s.scan.beaconNext = true then _ else _) = _
    rw [h]
    rfl
  · have hn : (s.atSeat a).pollNotice a = s.atSeat a := if_neg hc
    refine ⟨((s.atSeat a).sendPoll a).reface, (exec_pollSlot ha).trans (by rw [hn]), rfl, rfl, rfl, ?_, State.sendPoll_seat (s.atSeat a) a,
      fun b hb => State.sendPoll_seat_ne (s.atSeat a) a hb, rfl⟩
    change ((s.scan.seats[a]).pollBytes a).map LinkWord.sound = _
    rw [Seat.pollBytes, Verdict.pollByte_eq]
    rfl
  · have hn : (s.atSeat a).pollNotice a = (s.atSeat a).closeContest := if_pos ⟨hs, ho⟩
    have hans : (s.atSeat a).Answers (s.atSeat a).closeContest := State.answers_closeContest
    refine ⟨((s.atSeat a).closeContest.sendPoll a).reface, (exec_pollSlot ha).trans (by rw [hn]), ?_, rfl, ?_, ?_,
      fun b hb => State.sendPoll_seat_ne (s.atSeat a).closeContest a hb, rfl, rfl, rfl, rfl⟩
    · change (s.atSeat a).closeContest.scan.pos = _
      rw [hans.scan]
      rfl
    · refine (State.sendPoll_sent (s.atSeat a).closeContest a).trans ?_
      rw [State.pollOf_congr (s := s) (by rw [hans.seats a]; rfl)]
      rfl
    · refine (State.sendPoll_seat (s.atSeat a).closeContest a).trans ?_
      rw [hans.seats a]
      rfl
  · change execPollSlot s = _
    unfold execPollSlot
    rw [h]

end Sys2Proof.Machine

/-!
The close of a contest (R139 to R147): the contenders that fail, the one that wins, and the answers at the poll.
-/

namespace Sys2Proof.Machine

/-! ## The examination of one contender (R141 to R143) -/

section
variable {s t u : State} {l : Lot} {x : Contender}

theorem quantityOk_iff {q m r : Nat} : quantityOk q m r = true ↔ ¬ (q < m ∧ m ≤ r) := by
  simp [quantityOk]
  omega

/-- The line of a contender's purchase, for a buyer record. -/
def Contender.line (x : Contender) (s : State) (l : Lot) (b : Buyer) : Amounts :=
  amounts (min x.quantity l.remaining) l.stems (priceAt s.clock.history x.time) b.fee l.container

theorem State.examine_none (h : s.accounts.buyers.get x.buyer = none) : s.examine l x = .denied := by
  simp only [State.examine, h]

/-- The tests of a contender whose buyer has a record. -/
theorem State.examine_some {b : Buyer} (h : s.accounts.buyers.get x.buyer = some b) : s.examine l x =
    if b.state = .suspended then .denied
    else if x.quantity < l.minimum ∧ l.minimum ≤ l.remaining then .qty
    else if b.limit < b.pendingSum + b.owed + (x.line s l b).total then .limit (x.line s l b).total b.available
    else .won (min x.quantity l.remaining) (priceAt s.clock.history x.time) (x.line s l b) := by
  simp only [State.examine, h, quantityOk_iff, not_not, Buyer.creditOk, decide_eq_true_eq]
  by_cases hs : b.state = .suspended
  · simp only [if_pos hs]
  by_cases hq : x.quantity < l.minimum ∧ l.minimum ≤ l.remaining
  · simp only [if_neg hs, if_pos hq]
  simp only [if_neg hs, if_neg hq]
  change (if b.pendingSum + b.owed + (x.line s l b).total ≤ b.limit then Decision.won _ _ (x.line s l b)
    else .limit (x.line s l b).total b.available) = _
  by_cases hc : b.limit < b.pendingSum + b.owed + (x.line s l b).total
  · rw [if_neg (Nat.not_le.mpr hc), if_pos hc]
  · rw [if_pos (Nat.not_lt.mp hc), if_neg hc]

theorem BuyerState.active_iff {b : BuyerState} : b = .active ↔ b ≠ .suspended := by cases b <;> simp

/-- A contender wins exactly where its examination says so. -/
theorem State.wouldWin_iff {v p : Nat} {a : Amounts} : s.wouldWin l x v p a ↔ s.examine l x = .won v p a := by
  unfold State.wouldWin
  cases hb : s.accounts.buyers.get x.buyer with
  | none => simp [State.examine_none hb]
  | some b =>
    rw [State.examine_some hb]
    simp only [Option.some.injEq, exists_eq_left', BuyerState.active_iff]
    by_cases hs : b.state = .suspended
    · simp [hs]
    by_cases hq : x.quantity < l.minimum ∧ l.minimum ≤ l.remaining
    · simp only [if_neg hs, if_pos hq, reduceCtorEq, iff_false]
      omega
    by_cases hc : b.limit < b.pendingSum + b.owed + (x.line s l b).total
    · simp only [if_neg hs, if_neg hq, if_pos hc, reduceCtorEq, iff_false]
      rintro ⟨-, -, rfl, rfl, rfl, h⟩
      exact absurd hc (Nat.not_lt.mpr h)
    · simp only [if_neg hs, if_neg hq, if_neg hc, Decision.won.injEq]
      constructor
      · rintro ⟨-, -, rfl, rfl, rfl, -⟩
        exact ⟨rfl, rfl, rfl⟩
      · rintro ⟨rfl, rfl, rfl⟩
        exact ⟨hs, by omega, rfl, rfl, rfl, Nat.not_lt.mp hc⟩

/-- A contender is refused for credit exactly where its examination says so. -/
theorem State.creditRefused_iff {v : Nat} {w : Int} : s.creditRefused l x v w ↔ s.examine l x = .limit v w := by
  unfold State.creditRefused
  cases hb : s.accounts.buyers.get x.buyer with
  | none => simp [State.examine_none hb]
  | some b =>
    rw [State.examine_some hb]
    simp only [Option.some.injEq, exists_eq_left', BuyerState.active_iff]
    by_cases hs : b.state = .suspended
    · simp [hs]
    by_cases hq : x.quantity < l.minimum ∧ l.minimum ≤ l.remaining
    · simp only [if_neg hs, if_pos hq, reduceCtorEq, iff_false]
      omega
    by_cases hc : b.limit < b.pendingSum + b.owed + (x.line s l b).total
    · simp only [if_neg hs, if_neg hq, if_pos hc, Decision.limit.injEq]
      exact ⟨fun ⟨_, _, hv, _, hw⟩ => ⟨hv.symm, hw.symm⟩,
        fun ⟨hv, hw⟩ => ⟨hs, by omega, hv.symm, by rw [← hv]; exact hc, hw.symm⟩⟩
    · simp only [if_neg hs, if_neg hq, if_neg hc, reduceCtorEq, iff_false]
      rintro ⟨-, -, rfl, h, -⟩
      exact hc h

/-- A contender's examination reads the buyers and the history alone. -/
theorem State.examine_congr (hb : t.accounts.buyers = s.accounts.buyers) (hc : t.clock = s.clock) :
    t.examine l x = s.examine l x := by
  unfold State.examine
  rw [hb, hc]

end

/-! ## The contenders that fail -/

/-- The answer that a decision gives. -/
def Decision.answer : Decision → AnswerCode
  | .denied => .denied
  | .qty => .qty
  | .limit .. => .limit
  | .won .. => .won

/-- A decision that does not win. -/
def Decision.Fails (d : Decision) : Prop := ∀ v p a, d ≠ .won v p a

/-- The part with a contender examined that fails (R141 to R143). -/
def State.examined (s : State) (l : Lot) (x : Contender) : State :=
  match s.examine l x with
  | .limit total available => (s.answer x.seat .limit 0).writeRefusal x.buyer total available
  | d => s.answer x.seat d.answer 0

/-- The part with a list of contenders examined that fail. -/
def State.allExamined (s : State) (l : Lot) (xs : List Contender) : State := xs.foldl (fun t x => t.examined l x) s

/-- Nothing differs but answers, the last refusal and its event. -/
structure State.Losing (s t : State) : Prop where
  answers : s.Answers t
  lots : t.lots = s.lots
  clock : t.clock = s.clock
  log : t.log = s.log
  buyers : t.accounts.buyers = s.accounts.buyers
  holds : ∀ e, e ≠ .refusal → t.holds e = s.holds e
  keeps : ∀ e, s.holds e = true → t.holds e = true

section
variable {s t u : State} {l : Lot} {x : Contender} {xs : List Contender} {n : Nat}

theorem State.Losing.refl : s.Losing s := ⟨.of_scan rfl, rfl, rfl, rfl, rfl, fun _ _ => rfl, fun _ h => h⟩

theorem State.Losing.trans (h : s.Losing t) (h' : t.Losing u) : s.Losing u :=
  ⟨h.answers.trans h'.answers, h'.lots.trans h.lots, h'.clock.trans h.clock, h'.log.trans h.log, h'.buyers.trans h.buyers,
    fun e he => (h'.holds e he).trans (h.holds e he), fun e he => h'.keeps e (h.keeps e he)⟩

theorem State.losing_answer (a : SeatAddr) (c : AnswerCode) (v : Nat) : s.Losing (s.answer a c v) :=
  ⟨State.answers_answer .., rfl, rfl, rfl, rfl, fun _ _ => rfl, fun _ h => h⟩

theorem State.losing_writeRefusal (b total : Nat) (w : Int) : s.Losing (s.writeRefusal b total w) where
  answers := .of_scan (State.writeRefusal_scan ..)
  lots := State.raise_lots ..
  clock := State.raise_clock ..
  log := State.raise_log ..
  buyers := (congrArg Accounts.buyers (State.raise_accounts ..)).trans rfl
  holds _ he := State.holds_raise_ne _ he
  keeps _ h := State.holds_raise _ _ _ h

theorem State.losing_examined : s.Losing (s.examined l x) := by
  unfold State.examined
  split
  · exact (State.losing_answer ..).trans (State.losing_writeRefusal ..)
  · exact State.losing_answer ..

theorem State.losing_allExamined : s.Losing (s.allExamined l xs) := by
  induction xs generalizing s with
  | nil => exact .refl
  | cons x xs ih => exact State.losing_examined.trans ih

theorem State.Losing.examine (h : s.Losing t) (l : Lot) (x : Contender) : t.examine l x = s.examine l x :=
  State.examine_congr h.buyers h.clock

theorem State.cascade_fails (h : (s.examine l x).Fails) : s.cascade n l (x :: xs) = (s.examined l x).cascade n l xs := by
  cases hd : s.examine l x with
  | won v p a => exact absurd hd (h v p a)
  | _ => simp only [State.cascade, State.examined, hd, Decision.answer]

theorem State.cascade_wins {v p : Nat} {a : Amounts} (h : s.examine l x = .won v p a) :
    s.cascade n l (x :: xs) = s.closeWon n x xs v p a := by
  simp only [State.cascade, h]

/-- The contenders before the first winner are examined one after another (R141). -/
theorem State.cascade_append (h : ∀ y ∈ xs, (s.examine l y).Fails) (ys : List Contender) :
    s.cascade n l (xs ++ ys) = (s.allExamined l xs).cascade n l ys := by
  induction xs generalizing s with
  | nil => rfl
  | cons x xs ih =>
    obtain ⟨hx, hxs⟩ := List.forall_mem_cons.mp h
    rw [List.cons_append, State.cascade_fails hx]
    exact ih fun y hy => by rw [State.losing_examined.examine]; exact hxs y hy

theorem State.allExamined_append (ys : List Contender) :
    s.allExamined l (xs ++ ys) = (s.allExamined l xs).allExamined l ys := List.foldl_append ..

/-! ### The answers -/

theorem State.examined_seat : (s.examined l x).scan.seats[x.seat].answer = some ⟨(s.examine l x).answer, 0⟩ := by
  unfold State.examined
  split
  · next h => rw [State.writeRefusal_scan, State.answer_seat, h]; rfl
  · rw [State.answer_seat]

theorem State.examined_seat_ne {a : SeatAddr} (h : x.seat ≠ a) : (s.examined l x).scan.seats[a] = s.scan.seats[a] := by
  unfold State.examined
  split
  · rw [State.writeRefusal_scan, State.answer_seat_ne _ _ _ _ h.symm]
  · rw [State.answer_seat_ne _ _ _ _ h.symm]

theorem State.allExamined_seat_ne {a : SeatAddr} (h : ∀ y ∈ xs, y.seat ≠ a) :
    (s.allExamined l xs).scan.seats[a] = s.scan.seats[a] := by
  induction xs generalizing s with
  | nil => rfl
  | cons x xs ih =>
    obtain ⟨hx, hxs⟩ := List.forall_mem_cons.mp h
    exact (ih hxs).trans (State.examined_seat_ne hx)

/-- Each contender examined has the answer of its own examination: no two are of one seat. -/
theorem State.allExamined_seat (hd : (xs.map (·.seat)).Nodup) (hx : x ∈ xs) :
    (s.allExamined l xs).scan.seats[x.seat].answer = some ⟨(s.examine l x).answer, 0⟩ := by
  induction xs generalizing s with
  | nil => exact absurd hx List.not_mem_nil
  | cons y ys ih =>
    rw [List.map_cons, List.nodup_cons] at hd
    rcases List.mem_cons.mp hx with rfl | hx
    · have hne : ∀ z ∈ ys, z.seat ≠ x.seat := fun z hz e => hd.1 (e ▸ List.mem_map_of_mem hz)
      exact (congrArg Seat.answer (State.allExamined_seat_ne hne)).trans State.examined_seat
    · rw [← State.losing_examined.examine (t := s.examined l y)]
      exact ih hd.2 hx

theorem State.answerLate_seat_ne {a : SeatAddr} (h : ∀ y ∈ xs, y.seat ≠ a) :
    (s.answerLate xs).scan.seats[a] = s.scan.seats[a] := by
  induction xs generalizing s with
  | nil => rfl
  | cons x xs ih =>
    obtain ⟨hx, hxs⟩ := List.forall_mem_cons.mp h
    exact (ih hxs).trans (State.answer_seat_ne _ _ _ _ hx.symm)

theorem State.answerLate_seat (hd : (xs.map (·.seat)).Nodup) (hx : x ∈ xs) :
    (s.answerLate xs).scan.seats[x.seat].answer = some ⟨.late, 0⟩ := by
  induction xs generalizing s with
  | nil => exact absurd hx List.not_mem_nil
  | cons y ys ih =>
    rw [List.map_cons, List.nodup_cons] at hd
    rcases List.mem_cons.mp hx with rfl | hx
    · have hne : ∀ z ∈ ys, z.seat ≠ x.seat := fun z hz e => hd.1 (e ▸ List.mem_map_of_mem hz)
      exact (congrArg Seat.answer (State.answerLate_seat_ne hne)).trans (by rw [State.answer_seat])
    · exact ih hd.2 hx

/-- A seat of no contender keeps its record. -/
theorem State.cascade_seat_ne {a : SeatAddr} (h : ∀ y ∈ xs, y.seat ≠ a) :
    (s.cascade n l xs).scan.seats[a] = s.scan.seats[a] := by
  induction xs generalizing s with
  | nil => exact congrArg (fun c : Scanner => c.seats[a]) State.closeNone_scan
  | cons x xs ih =>
    obtain ⟨hx, hxs⟩ := List.forall_mem_cons.mp h
    by_cases hw : (s.examine l x).Fails
    · rw [State.cascade_fails hw, ih hxs, State.examined_seat_ne hx]
    · simp only [Decision.Fails, ne_eq, not_forall, not_not] at hw
      obtain ⟨v, p, am, hw⟩ := hw
      rw [State.cascade_wins hw, State.closeWon_scan, State.wonOver, State.answerLate_seat_ne hxs,
        State.answer_seat_ne _ _ _ _ hx.symm, State.struck_scan]

/-! ### The last refusal (R162) -/

/-- A decision that is no credit refusal. -/
def Decision.NoLimit (d : Decision) : Prop := ∀ v w, d ≠ .limit v w

theorem State.examined_refusal (h : (s.examine l x).NoLimit) :
    (s.examined l x).accounts = s.accounts ∧ (s.examined l x).holds .refusal = s.holds .refusal := by
  unfold State.examined
  split
  · next v w hd => exact absurd hd (h v w)
  · exact ⟨rfl, rfl⟩

theorem State.allExamined_refusal (h : ∀ y ∈ xs, (s.examine l y).NoLimit) :
    (s.allExamined l xs).accounts = s.accounts ∧ (s.allExamined l xs).holds .refusal = s.holds .refusal := by
  induction xs generalizing s with
  | nil => exact ⟨rfl, rfl⟩
  | cons x xs ih =>
    obtain ⟨hx, hxs⟩ := List.forall_mem_cons.mp h
    obtain ⟨ha, hr⟩ := State.examined_refusal hx
    obtain ⟨ha', hr'⟩ := ih (s := s.examined l x) fun y hy => by rw [State.losing_examined.examine]; exact hxs y hy
    exact ⟨ha'.trans ha, hr'.trans hr⟩

theorem State.examined_limit {v : Nat} {w : Int} (h : s.examine l x = .limit v w) :
    (s.examined l x).accounts.lastRefusal = some { buyer := x.buyer, total := v, available := w } ∧
      (s.examined l x).holds .refusal = true := by
  simp only [State.examined, h]
  exact ⟨congrArg Accounts.lastRefusal (State.raise_accounts ..), State.holds_raise_self ..⟩

end

/-! ## A close with a winner (R144 to R146) -/

section
variable (s : State) (n : Nat) (x : Contender) (post : List Contender) (u p : Nat) (a : Amounts)

theorem State.append_holds (r : BitVec 32 → Purchase) (e : Event) : (s.append r).holds e =
    (s.holds e || decide (e = .log) || decide (s.log.records.length = 95 ∧ e = .high) ||
      decide (s.log.records.length = 127 ∧ (e = .logFullDesk ∨ e = .logFullAccounts))) := by
  have hlog (l : Log) : ({ s with log := l } : State).holds e = s.holds e := rfl
  unfold State.append State.raiseLogFull
  simp only [List.length_append, List.length_singleton, Config.logHigh, Config.logCapacity, Nat.reduceEqDiff]
  by_cases h95 : s.log.records.length = 95
  · simp [h95, State.holds_raise_eq, hlog]
  by_cases h127 : s.log.records.length = 127
  · simp [h127, State.holds_raise_eq, hlog, Bool.or_assoc]
  · simp [h95, h127, State.holds_raise_eq, hlog]

theorem State.append_lots (r : BitVec 32 → Purchase) : (s.append r).lots = s.lots := by
  unfold State.append State.raiseLogFull
  dsimp only
  split_ifs <;> rfl

theorem State.answerLate_eq (xs : List Contender) : s.answerLate xs = { s with scan := (s.answerLate xs).scan } := by
  induction xs generalizing s with
  | nil => rfl
  | cons x xs ih => exact ih _

theorem State.wonOver_eq : s.wonOver n x post u p a = { s.struck n x u p a with scan := (s.wonOver n x post u p a).scan } :=
  State.answerLate_eq ..

theorem State.closeWon_lots : (s.closeWon n x post u p a).lots = s.lots.strike n u p x.buyer := by
  rw [State.closeWon_eq, State.raise_lots, State.enterShowing_lots, State.endContest, State.onClock_lots, State.wonOver_eq]
  exact congrArg (fun ls : LotStore => ls.strike n u p x.buyer) (s.append_lots _)

theorem State.closeWon_log : (s.closeWon n x post u p a).log =
    { records := s.log.records ++ [purchaseOf s.clock n x u p a s.log.nextSeq], nextSeq := s.log.nextSeq + 1 } := by
  rw [State.closeWon_eq, State.raise_log, State.enterShowing_log, State.endContest, State.onClock_log, State.wonOver_eq]
  exact s.append_log _

theorem State.closeWon_accounts : (s.closeWon n x post u p a).accounts =
    s.accounts.onBuyer x.buyer fun b => b.raisePending a.total := by
  rw [State.closeWon_eq, State.raise_accounts, State.enterShowing_accounts, State.endContest, State.onClock_accounts,
    State.wonOver_eq]
  exact congrArg (fun c : Accounts => c.onBuyer x.buyer fun b => b.raisePending a.total) (s.append_accounts _)

theorem State.setClock_holds_eq {s : State} {st : ClockState} {h : Option HaltReason} (hs : s.clock.state ≠ st) (e : Event) :
    (s.setClock st h).holds e = (s.holds e || decide (e = .clock)) := by
  rw [State.holds, State.setClock_port, if_neg fun h => hs h.1]
  exact s.holds_raise_eq e .clock

theorem State.closeWon_holds (hc : s.clock.state = .contest) (e : Event) : (s.closeWon n x post u p a).holds e =
    ((s.append (purchaseOf s.clock n x u p a)).holds e || decide (e = .clock) || decide (e = .sale)) := by
  have hh : (s.wonOver n x post u p a).endContest.holds e = (s.append (purchaseOf s.clock n x u p a)).holds e := by
    rw [State.wonOver_eq]
    rfl
  have hs : (s.wonOver n x post u p a).endContest.clock.state = .contest := by
    rw [State.wonOver_eq]
    exact (congrArg Clock.state (s.append_clock _)).trans hc
  rw [State.closeWon_eq, State.holds_raise_eq, State.enterShowing, State.setClock_holds_eq (by
    rw [State.onClock_clock, hs]; decide), ← hh]
  rfl

end

/-! ## The poll that closes a contest (R76, R139) -/

section
variable {s : State} {a : SeatAddr} {n : Nat} {l : Lot}

/-- The close of a contest at the slot of seat `a`. -/
def State.closing (s : State) (a : SeatAddr) (n : Nat) (l : Lot) : State := (s.atSeat a).cascade n l s.clock.contenders

/-- The part after the poll that closes a contest. -/
def State.closed (s : State) (a : SeatAddr) (n : Nat) (l : Lot) : State := ((s.closing a n l).sendPoll a).reface

theorem exec_closingPoll (hp : s.scan.pollNext = some a) (hc : s.clock.state = .contest) (ho : s.clock.opener = some a)
    (hn : s.clock.lot = some n) (hl : s.lots.lots.get n = some l) : exec .pollSlot s = .next (s.closed a n l) := by
  have hclose : (s.atSeat a).closeContest = s.closing a n l := by
    have hcur : (s.atSeat a).curLot = some l := State.curLot_of hn hl
    have hlot : (s.atSeat a).clock.lot = some n := hn
    simp only [State.closeContest, hcur, hlot]
    rfl
  have hnotice : (s.atSeat a).pollNotice a = s.closing a n l := (if_pos ⟨hc, ho⟩).trans hclose
  rw [exec_pollSlot hp, hnotice]
  rfl

theorem State.closing_seat (x : SeatAddr) :
    (s.closing a n l).scan.seats[x] = { s.scan.seats[x] with answer := (s.closing a n l).scan.seats[x].answer } :=
  (State.answers_cascade (s := s.atSeat a) n l s.clock.contenders).seats x

theorem State.answeredAt_closed {x : SeatAddr} {c : AnswerCode} {v : Nat}
    (h : (s.closing a n l).scan.seats[x].answer = some ⟨c, v⟩) : s.answeredAt (s.closed a n l) a x c v := by
  unfold State.answeredAt
  by_cases hx : x = a
  · rw [if_pos hx]
    subst hx
    refine (State.sendPoll_sent ..).trans ?_
    rw [h, State.pollOf_congr (s := s) (by rw [State.closing_seat])]
    rfl
  · rw [if_neg hx, State.closed, State.reface_scan, State.sendPoll_seat_ne _ _ hx]
    exact h

/-- The seat of the poll has no answer left, and a seat of no contender is as it was. -/
theorem State.closed_others : (s.closed a n l).scan.seats[a].answer = none ∧
    ((∀ y ∈ s.clock.contenders, y.seat ≠ a) → (s.closed a n l).scan.sent = match s.scan.seats[a].answer with
      | some y => s.pollWith a y.code.code y.value
      | none => s.pollWith a 0 0) ∧
    ∀ x : SeatAddr, x ≠ a → (∀ y ∈ s.clock.contenders, y.seat ≠ x) → (s.closed a n l).scan.seats[x] = s.scan.seats[x] := by
  refine ⟨congrArg Seat.answer (State.sendPoll_seat _ a), fun h => ?_, fun x hx h => ?_⟩
  · refine (State.sendPoll_sent ..).trans ?_
    rw [State.pollOf_congr (s := s) (by rw [State.closing_seat]), State.closing, State.cascade_seat_ne h]
    rfl
  · exact (State.sendPoll_seat_ne _ a hx).trans (State.cascade_seat_ne h)

/-! ### The close with a winner, and without one -/

section
variable {pre post : List Contender} {x : Contender} {v p : Nat} {am : Amounts}

theorem Decision.Fails.answer {d : Decision} (h : d.Fails) : d.answer = .denied ∨ d.answer = .qty ∨ d.answer = .limit := by
  cases d with
  | denied => exact .inl rfl
  | qty => exact .inr (.inl rfl)
  | limit => exact .inr (.inr rfl)
  | won v p a => exact absurd rfl (h v p a)

theorem State.fails_iff : (s.examine l x).Fails ↔ ∀ v p am, ¬ s.wouldWin l x v p am :=
  forall_congr' fun _ => forall_congr' fun _ => forall_congr' fun _ => not_congr State.wouldWin_iff.symm

theorem State.closing_won (hs : s.clock.contenders = pre ++ x :: post) (hpre : ∀ y ∈ pre, (s.examine l y).Fails)
    (hx : s.examine l x = .won v p am) :
    s.closing a n l = ((s.atSeat a).allExamined l pre).closeWon n x post v p am := by
  rw [State.closing, hs, State.cascade_append (s := s.atSeat a) hpre]
  exact State.cascade_wins (by rw [State.losing_allExamined.examine]; exact hx)

theorem State.closing_lost (h : ∀ y ∈ s.clock.contenders, (s.examine l y).Fails) :
    s.closing a n l = ((s.atSeat a).allExamined l s.clock.contenders).closeNone := by
  have hc := State.cascade_append (s := s.atSeat a) (n := n) h []
  rw [List.append_nil] at hc
  exact hc

/-- The seats of a list of contenders with one in its midst: each is of one contender. -/
theorem seats_split (hd : ((pre ++ x :: post).map (·.seat)).Nodup) :
    (pre.map (·.seat)).Nodup ∧ (post.map (·.seat)).Nodup ∧ (∀ y ∈ post, y.seat ≠ x.seat) ∧
      ∀ y ∈ pre, x.seat ≠ y.seat ∧ ∀ z ∈ post, z.seat ≠ y.seat := by
  rw [List.map_append, List.nodup_append] at hd
  obtain ⟨h1, h2, h3⟩ := hd
  rw [List.map_cons, List.nodup_cons] at h2
  refine ⟨h1, h2.2, fun y hy e => h2.1 (e ▸ List.mem_map_of_mem hy), fun y hy => ⟨?_, fun z hz => ?_⟩⟩
  · exact (h3 _ (List.mem_map_of_mem hy) _ List.mem_cons_self).symm
  · exact (h3 _ (List.mem_map_of_mem hy) _ (List.mem_cons_of_mem _ (List.mem_map_of_mem hz))).symm

/-- The answers of a close with a winner: WON to it, LATE to those after it, and to those before it as they failed. -/
theorem State.closing_won_answers (hs : s.clock.contenders = pre ++ x :: post) (hpre : ∀ y ∈ pre, (s.examine l y).Fails)
    (hx : s.examine l x = .won v p am) (hd : (s.clock.contenders.map (·.seat)).Nodup) :
    (s.closing a n l).scan.seats[x.seat].answer = some ⟨.won, v⟩ ∧
    (∀ y ∈ post, (s.closing a n l).scan.seats[y.seat].answer = some ⟨.late, 0⟩) ∧
    ∀ y ∈ pre, (s.closing a n l).scan.seats[y.seat].answer = some ⟨(s.examine l y).answer, 0⟩ := by
  rw [hs] at hd
  obtain ⟨hdpre, hdpost, hpost, hpre'⟩ := seats_split hd
  rw [State.closing_won hs hpre hx, State.closeWon_scan, State.wonOver]
  refine ⟨?_, fun y hy => State.answerLate_seat hdpost hy, fun y hy => ?_⟩
  · rw [State.answerLate_seat_ne hpost, State.answer_seat]
  · rw [State.answerLate_seat_ne (hpre' y hy).2, State.answer_seat_ne _ _ _ _ (hpre' y hy).1.symm, State.struck_scan,
      State.allExamined_seat hdpre hy]
    rfl

/-- The records of a close with a winner. -/
theorem State.closing_won_facts (hc : s.clock.state = .contest) (hs : s.clock.contenders = pre ++ x :: post)
    (hpre : ∀ y ∈ pre, (s.examine l y).Fails) (hx : s.examine l x = .won v p am) :
    (s.closing a n l).log = { records := s.log.records ++ [purchaseOf s.clock n x v p am s.log.nextSeq],
                              nextSeq := s.log.nextSeq + 1 } ∧
    (s.closing a n l).lots = s.lots.strike n v p x.buyer ∧
    (s.closing a n l).accounts.buyers = s.accounts.buyers.modify x.buyer (fun b => b.raisePending am.total) ∧
    (s.closing a n l).clock = ({ s.clock with contenders := [], opener := none } : Clock).shown .sale ∧
    ∀ e, (s.closing a n l).holds e = (((s.atSeat a).allExamined l pre).holds e || decide (e = .log) ||
      decide (s.log.records.length = 95 ∧ e = .high) ||
      decide (s.log.records.length = 127 ∧ (e = .logFullDesk ∨ e = .logFullAccounts)) || decide (e = .clock) ||
      decide (e = .sale)) := by
  have ht : (s.atSeat a).Losing ((s.atSeat a).allExamined l pre) := State.losing_allExamined
  have hclock : ((s.atSeat a).allExamined l pre).clock = s.clock := ht.clock
  have hlog : ((s.atSeat a).allExamined l pre).log = s.log := ht.log
  rw [State.closing_won hs hpre hx]
  refine ⟨?_, ?_, ?_, ?_, fun e => ?_⟩
  · rw [State.closeWon_log, hclock, hlog]
  · rw [State.closeWon_lots, ht.lots]
    rfl
  · rw [State.closeWon_accounts]
    exact congrArg (fun b : Tbl Buyer => b.modify x.buyer fun b => b.raisePending am.total) ht.buyers
  · rw [State.closeWon_clock, hclock]
  · rw [State.closeWon_holds _ _ _ _ _ _ _ ((congrArg Clock.state hclock).trans hc), State.append_holds, hlog]

/-- The records of a close without a winner (R147). -/
theorem State.closing_lost_facts (hc : s.clock.state = .contest) (h : ∀ y ∈ s.clock.contenders, (s.examine l y).Fails) :
    (s.closing a n l).log = s.log ∧ (s.closing a n l).lots = s.lots ∧
    (s.closing a n l).accounts = ((s.atSeat a).allExamined l s.clock.contenders).accounts ∧
    (s.closing a n l).scan = ((s.atSeat a).allExamined l s.clock.contenders).scan ∧
    (s.closing a n l).clock = { s.clock with
      state := .running, halt := none, contenders := [], opener := none, tickTimer := s.clock.tickStart } ∧
    ∀ e, (s.closing a n l).holds e =
      (((s.atSeat a).allExamined l s.clock.contenders).holds e || decide (e = .clock)) := by
  have ht : (s.atSeat a).Losing ((s.atSeat a).allExamined l s.clock.contenders) := State.losing_allExamined
  have hclock : ((s.atSeat a).allExamined l s.clock.contenders).clock = s.clock := ht.clock
  rw [State.closing_lost h]
  refine ⟨?_, ?_, ?_, State.closeNone_scan, ?_, fun e => ?_⟩
  · rw [State.closeNone, State.onClock_log, State.setClock_log, State.endContest, State.onClock_log, ht.log]
    rfl
  · rw [State.closeNone, State.onClock_lots, State.setClock_lots, State.endContest, State.onClock_lots, ht.lots]
    rfl
  · rw [State.closeNone, State.onClock_accounts, State.setClock_accounts, State.endContest, State.onClock_accounts]
  · rw [State.closeNone, State.onClock_clock, State.setClock_clock, State.endContest, State.onClock_clock, hclock]
    rfl
  · refine (State.setClock_holds_eq ?_ e).trans rfl
    rw [State.endContest, State.onClock_clock, hclock, hc]
    decide

end

end

/-! ## The image of a sale -/

theorem State.closed_image {s : State} {a : SeatAddr} {n v p : Nat} {l : Lot} {x : Contender} {c : Clock}
    (hn : s.clock.lot = some n) (hl : s.lots.lots.get n = some l) (hlots : (s.closing a n l).lots = s.lots.strike n v p x.buyer)
    (hclock : (s.closing a n l).clock = c.shown .sale) (hc : c.lot = s.clock.lot) :
    (s.closed a n l).face.image.price = .price p ∧
      (s.closed a n l).face.image.buyer = some { buyer := x.buyer, units := v } := by
  have hcur : (s.closing a n l).curLot = some (l.strike v p x.buyer) := by
    refine State.curLot_of (k := n) (by rw [hclock]; exact hc.trans hn) ?_
    rw [hlots, LotStore.strike, LotStore.onLot]
    simp only [Tbl.get_modify_self, hl, Option.map_some]
  have hprice : priceOf (s.closing a n l).clock (s.closing a n l).curLot = .price p := by
    rw [hcur, hclock]; rfl
  have hbuyer : buyerPanelOf (s.closing a n l).clock (s.closing a n l).curLot = some { buyer := x.buyer, units := v } := by
    rw [hcur, hclock]; rfl
  exact ⟨hprice, hbuyer⟩

/-- Settles O45: the contenders before the first winner fail one after another, and the winner closes the contest. -/
theorem contestSellsAtMostOnce : Obligations.ContestSellsAtMostOnce := by
  intro s a n l hp hc ho hok hn hl
  obtain ⟨-, ⟨-, hseats, -⟩, -, -⟩ := s.contestOk_iff.mp hok
  refine ⟨fun pre post x v p am hs hpre hx => ?_, fun h => ?_⟩
  · have hpre' := fun y hy => State.fails_iff.mpr (hpre y hy)
    have hx' := State.wouldWin_iff.mp hx
    obtain ⟨hlog, hlots, hbuyers, hclock, hholds⟩ := State.closing_won_facts (a := a) (n := n) hc hs hpre' hx'
    obtain ⟨hwon, hlate, hlost⟩ := State.closing_won_answers (a := a) (n := n) hs hpre' hx' hseats
    obtain ⟨hprice, hbuyer⟩ := State.closed_image hn hl hlots hclock rfl
    refine ⟨s.closed a n l, purchaseOf s.clock n x v p am s.log.nextSeq, exec_closingPoll hp hc ho hn hl, ?_, rfl, ?_, ?_,
      fun m hm => ?_, ?_, ?_, fun b hb => ?_, ?_, ?_, ?_, ?_, ?_, ?_, ?_, ?_, ?_, ?_, ?_, fun h => ?_, fun h => ⟨?_, ?_⟩,
      hprice, hbuyer, State.answeredAt_closed hwon, fun y hy => State.answeredAt_closed (hlate y hy),
      fun y hy => ⟨_, State.answeredAt_closed (hlost y hy), (hpre' y hy).answer⟩, State.closed_others⟩
    · exact congrArg Log.records hlog
    · exact congrArg Log.nextSeq hlog
    · change (s.closing a n l).lots.lots.get n = _
      rw [hlots, LotStore.strike, LotStore.onLot]
      simp only [Tbl.get_modify_self, hl, Option.map_some, Lot.strike]
    · exact (congrArg (fun ls : LotStore => ls.lots.get m) hlots).trans
        (Tbl.get_modify_ne s.lots.lots (fun l => l.strike v p x.buyer) hm)
    · exact (congrArg LotStore.trains hlots).trans rfl
    · change (s.closing a n l).accounts.buyers.get x.buyer = _
      rw [hbuyers, Tbl.get_modify_self]
      rfl
    · change (s.closing a n l).accounts.buyers.get b = _
      rw [hbuyers]
      exact Tbl.get_modify_ne _ _ hb
    · exact (congrArg Clock.state hclock).trans rfl
    · exact (congrArg Clock.showing hclock).trans rfl
    · exact (congrArg Clock.contenders hclock).trans rfl
    · exact (congrArg Clock.opener hclock).trans rfl
    · exact (congrArg Clock.tickTimer hclock).trans rfl
    · exact (congrArg Clock.showTimer hclock).trans rfl
    · exact (congrArg Clock.price hclock).trans rfl
    · exact (congrArg Clock.lot hclock).trans hn
    · exact (hholds .sale).trans (by simp)
    · exact (hholds .log).trans (by simp)
    · exact (hholds .clock).trans (by simp)
    · exact (hholds .high).trans (by simp [h])
    · exact (hholds .logFullDesk).trans (by simp [h])
    · exact (hholds .logFullAccounts).trans (by simp [h])
  · have h' := fun y hy => State.fails_iff.mpr (h y hy)
    obtain ⟨hlog, hlots, hacc, hscan, hclock, hholds⟩ := State.closing_lost_facts (a := a) (n := n) hc h'
    refine ⟨s.closed a n l, exec_closingPoll hp hc ho hn hl, hlog, hlots, ?_, (congrArg Clock.state hclock).trans rfl,
      (congrArg Clock.contenders hclock).trans rfl, (congrArg Clock.opener hclock).trans rfl,
      (congrArg Clock.tickTimer hclock).trans rfl, (congrArg Clock.price hclock).trans rfl,
      (congrArg Clock.history hclock).trans rfl, (congrArg Clock.runTime hclock).trans rfl,
      (hholds .clock).trans (by simp), fun y hy => ⟨_, State.answeredAt_closed ?_, (h' y hy).answer⟩, State.closed_others⟩
    · exact (congrArg Accounts.buyers hacc).trans State.losing_allExamined.buyers
    · rw [hscan, State.allExamined_seat hseats hy]
      rfl

/-! ## The contenders that fail, and the last refusal (R141, R143, R162) -/

theorem State.Raises.holds {s t : State} (h : s.Raises t) {e : Event} (he : s.holds e = true) : t.holds e = true := by
  obtain ⟨bits, -, ht⟩ := h e.role
  rw [State.holds, ht, Port.raiseBits]
  rw [State.holds] at he
  simp only [bne_iff_ne, ne_eq] at he ⊢
  intro h0
  rw [BitVec.and_or_distrib_right] at h0
  exact he (BitVec.or_eq_zero_iff.mp h0).1

section
variable {s : State} {a : SeatAddr} {n : Nat} {l : Lot} {pre post : List Contender} {x : Contender}

theorem Decision.fails_or (d : Decision) : d.Fails ∨ ∃ v p am, d = .won v p am := by
  cases d with
  | won v p am => exact .inr ⟨v, p, am, rfl⟩
  | _ => exact .inl fun _ _ _ => nofun

theorem State.cascade_keeps {xs : List Contender} {e : Event} (h : s.holds e = true) : (s.cascade n l xs).holds e = true := by
  induction xs generalizing s with
  | nil => exact s.raises_closeNone.holds h
  | cons x xs ih =>
    rcases (s.examine l x).fails_or with hx | ⟨v, p, am, hx⟩
    · rw [State.cascade_fails hx]
      exact ih (State.losing_examined.keeps e h)
    · rw [State.cascade_wins hx]
      exact State.Raises.holds (State.raises_closeWon s n x xs v p am) h

/-- A closing contest after a contender that fails, those before it having failed. -/
theorem State.closing_past (hs : s.clock.contenders = pre ++ x :: post) (hpre : ∀ y ∈ pre, (s.examine l y).Fails)
    (hx : (s.examine l x).Fails) :
    s.closing a n l = (((s.atSeat a).allExamined l pre).examined l x).cascade n l post := by
  rw [State.closing, hs, State.cascade_append (s := s.atSeat a) hpre]
  exact State.cascade_fails (by rw [State.losing_allExamined.examine]; exact hx)

/-- The last refusal after the rest of a contest that names none: those left out by the first winner are not examined. -/
theorem State.cascade_lastRefusal {mid rest : List Contender} (hmid : ∀ y ∈ mid, (s.examine l y).Fails)
    (hno : ∀ y ∈ mid, (s.examine l y).NoLimit) (hrest : ∀ y, rest.head? = some y → ∃ v p am, s.examine l y = .won v p am) :
    (s.cascade n l (mid ++ rest)).accounts.lastRefusal = s.accounts.lastRefusal := by
  have hacc : (s.allExamined l mid).accounts = s.accounts := (State.allExamined_refusal hno).1
  rw [State.cascade_append hmid]
  cases rest with
  | nil =>
    refine Eq.trans ?_ (congrArg Accounts.lastRefusal hacc)
    rw [State.cascade, State.closeNone, State.onClock_accounts, State.setClock_accounts, State.endContest,
      State.onClock_accounts]
  | cons y ys =>
    obtain ⟨v, p, am, hy⟩ := hrest y rfl
    rw [State.cascade_wins (by rw [State.losing_allExamined.examine]; exact hy), State.closeWon_accounts]
    exact (congrArg Accounts.lastRefusal hacc).trans rfl

/-- A contender that loses: it fails, and not for credit. -/
theorem State.loses_iff : ((s.examine l x).Fails ∧ (s.examine l x).NoLimit) ↔
    (∀ v p am, ¬ s.wouldWin l x v p am) ∧ ∀ v w, ¬ s.creditRefused l x v w :=
  and_congr State.fails_iff (forall_congr' fun _ => forall_congr' fun _ => not_congr State.creditRefused_iff.symm)

end

section
variable {s : State} {a : SeatAddr} {n : Nat} {l : Lot} {pre post : List Contender} {x : Contender}

/-- A contender that fails has the answer of its own examination. -/
theorem State.closing_fails_answer (hs : s.clock.contenders = pre ++ x :: post) (hpre : ∀ y ∈ pre, (s.examine l y).Fails)
    (hx : (s.examine l x).Fails) (hd : (s.clock.contenders.map (·.seat)).Nodup) :
    (s.closing a n l).scan.seats[x.seat].answer = some ⟨(s.examine l x).answer, 0⟩ := by
  rw [hs] at hd
  obtain ⟨-, -, hpost, -⟩ := seats_split hd
  rw [State.closing_past hs hpre hx, State.cascade_seat_ne hpost, State.examined_seat, State.losing_allExamined.examine]
  rfl

/-- A contender refused for credit: REFUSAL, and the last refusal is its own until another contender is refused. -/
theorem State.closing_limit {v : Nat} {w : Int} (hs : s.clock.contenders = pre ++ x :: post)
    (hpre : ∀ y ∈ pre, (s.examine l y).Fails) (hx : s.examine l x = .limit v w) :
    (s.closing a n l).holds .refusal = true ∧
    ∀ mid rest, post = mid ++ rest →
      (∀ y ∈ mid, (∀ v p am, ¬ s.wouldWin l y v p am) ∧ ∀ v w, ¬ s.creditRefused l y v w) →
      (∀ y, rest.head? = some y → ∃ v p am, s.wouldWin l y v p am) →
        (s.closing a n l).accounts.lastRefusal = some { buyer := x.buyer, total := v, available := w } := by
  have ht : (s.atSeat a).Losing ((s.atSeat a).allExamined l pre) := State.losing_allExamined
  have hx' : ((s.atSeat a).allExamined l pre).examine l x = .limit v w := (ht.examine l x).trans hx
  obtain ⟨hlast, hholds⟩ := State.examined_limit hx'
  have hexam := fun y => (ht.trans (State.losing_examined (l := l) (x := x))).examine l y
  rw [State.closing_past hs hpre (by rw [hx]; exact fun _ _ _ => nofun)]
  refine ⟨State.cascade_keeps hholds, fun mid rest hpost hmid hrest => ?_⟩
  rw [hpost]
  refine (State.cascade_lastRefusal (fun y hy => ?_) (fun y hy => ?_) fun y hy => ?_).trans hlast
  · rw [hexam]
    exact (State.loses_iff.mpr (hmid y hy)).1
  · rw [hexam]
    exact (State.loses_iff.mpr (hmid y hy)).2
  · obtain ⟨v, p, am, h⟩ := hrest y hy
    exact ⟨v, p, am, (hexam y).trans (State.wouldWin_iff.mp h)⟩

/-- A close in which none is refused for credit leaves the last refusal and its event. -/
theorem State.closing_refusal (hc : s.clock.state = .contest) (hs : s.clock.contenders = pre ++ x :: post)
    (hpre : ∀ y ∈ pre, (s.examine l y).Fails ∧ (s.examine l y).NoLimit)
    (h : (∃ v p am, s.examine l x = .won v p am) ∨ post = [] ∧ (s.examine l x).Fails ∧ (s.examine l x).NoLimit) :
    (s.closing a n l).accounts.lastRefusal = s.accounts.lastRefusal ∧
      (s.closing a n l).holds .refusal = s.holds .refusal := by
  rcases h with ⟨v, p, am, hx⟩ | ⟨rfl, hx⟩
  · have hfails := fun y hy => (hpre y hy).1
    obtain ⟨hacc, hr⟩ := State.allExamined_refusal (s := s.atSeat a) fun y hy => (hpre y hy).2
    obtain ⟨-, -, -, -, hholds⟩ := State.closing_won_facts (a := a) (n := n) hc hs hfails hx
    refine ⟨?_, (hholds .refusal).trans (by rw [hr]; simp; rfl)⟩
    rw [State.closing_won hs hfails hx, State.closeWon_accounts]
    exact (congrArg Accounts.lastRefusal hacc).trans rfl
  · have hall : ∀ y ∈ s.clock.contenders, (s.examine l y).Fails ∧ (s.examine l y).NoLimit := by
      rw [hs]
      intro y hy
      rcases List.mem_append.mp hy with hy | hy
      · exact hpre y hy
      · exact List.mem_singleton.mp hy ▸ hx
    obtain ⟨hacc, hr⟩ := State.allExamined_refusal (s := s.atSeat a) fun y hy => (hall y hy).2
    obtain ⟨-, -, hacc', -, -, hholds⟩ := State.closing_lost_facts (a := a) (n := n) hc fun y hy => (hall y hy).1
    exact ⟨congrArg Accounts.lastRefusal (hacc'.trans hacc), (hholds .refusal).trans (by rw [hr]; simp; rfl)⟩

end

/-- Settles O46: the answer is that of the contender's own examination; the refusal is written at a LIMIT alone. -/
theorem contendersThatFail : Obligations.ContendersThatFail := by
  intro s a n l pre post x hp hc ho hok hn hl hs hpre
  obtain ⟨-, ⟨-, hseats, -⟩, -, -⟩ := s.contestOk_iff.mp hok
  have hpre' := fun y hy => State.fails_iff.mpr (hpre y hy)
  have answered : ∀ d c, s.examine l x = d → d.Fails → d.answer = c → s.answeredAt (s.closed a n l) a x.seat c 0 :=
    fun d c hd hf hc => by
      subst hd hc
      exact State.answeredAt_closed (State.closing_fails_answer hs hpre' hf hseats)
  refine ⟨s.closed a n l, exec_closingPoll hp hc ho hn hl, ?_, fun hlost h => ?_⟩
  · cases hb : s.accounts.buyers.get x.buyer with
    | none => exact answered .denied _ (State.examine_none hb) (fun _ _ _ => nofun) rfl
    | some b =>
      have hx := State.examine_some (l := l) hb
      simp only
      by_cases hsus : b.state = .suspended
      · rw [if_pos hsus] at hx ⊢
        exact answered _ _ hx (fun _ _ _ => nofun) rfl
      by_cases hq : x.quantity < l.minimum ∧ l.minimum ≤ l.remaining
      · rw [if_neg hsus, if_pos hq] at hx ⊢
        exact answered _ _ hx (fun _ _ _ => nofun) rfl
      rw [if_neg hsus, if_neg hq] at hx ⊢
      rw [show amounts _ l.stems _ b.fee l.container = x.line s l b from rfl]
      by_cases hlim : b.limit < b.pendingSum + b.owed + (x.line s l b).total
      · rw [if_pos hlim] at hx
        obtain ⟨hr, hlast⟩ := State.closing_limit (a := a) (n := n) hs hpre' hx
        rw [if_pos hlim]
        exact ⟨answered _ _ hx (fun _ _ _ => nofun) rfl, hr, hlast⟩
      · rw [if_neg hlim] at hx
        rw [if_neg hlim]
        exact State.answeredAt_closed (State.closing_won_answers hs hpre' hx hseats).1
  · refine State.closing_refusal hc hs (fun y hy => State.loses_iff.mpr (hlost y hy)) ?_
    exact h.imp (fun ⟨v, p, am, hw⟩ => ⟨v, p, am, State.wouldWin_iff.mp hw⟩) fun ⟨hn, hw⟩ => ⟨hn, State.loses_iff.mpr hw⟩

end Sys2Proof.Machine

/-!
The rail and the trains on it (chapter 2, R8), told of the rail record and of where the trains stand, and what a change that
reaches few sections keeps of it.
-/

namespace Sys2Proof.Machine

/-! ## Where the trains stand -/

/-- The state and the section of each train's record. -/
abbrev Standing := Nat → Option (TrainState × Option Sec)

def LotStore.standing (ls : LotStore) : Standing := fun t => (ls.trains.get t).map fun r => (r.state, r.sec)

theorem LotStore.trainState_standing (ls : LotStore) (t : Nat) : ls.trainState t = (ls.standing t).map Prod.fst := by
  unfold LotStore.trainState LotStore.standing
  rw [Option.map_map]
  rfl

/-! ## The parts of a consistent rail -/

section
variable (r : Rail) (f : Standing)

/-- A section holds a train that a forward move may convey (R30). -/
def Rail.Conveys (k : Sec) : Prop :=
  ∃ t, r.secs[k].occupant = some t ∧ (f t).map Prod.fst = some (if k = 5 then .done else .onRail)

/-- INTAKE holds an occupant that may be ejected (R28). -/
def Rail.Ejects : Prop :=
  (∃ t, r.secs[(0 : Sec)].occupant = some t ∧ (f t).map Prod.fst = some .misorder) ∨
    r.secs[(0 : Sec)].occupant = none ∧ r.unknownTag.isSome = true

/-- A move in flight agrees with its sections (R28, R30, R31). -/
structure Rail.MoveOk (m : Move) : Prop where
  source : r.secs[m.source].cond = .occupied
  train : m.train = r.secs[m.source].occupant
  onward : ∀ b, m.dest = .sec b → b.val = m.source.val + 1 ∧ r.secs[b].cond = .reserved ∧ r.Conveys f m.source
  out : m.dest = .out → m.source = 0 ∧ r.Ejects f

/-- A stall record agrees with its sections (R43 to R46). -/
structure Rail.RecOk (k : Sec) (st : Stall) : Prop where
  cond : r.secs[k].cond = .blocked
  train : st.train = r.secs[k].occupant
  onward : ∀ b, st.dest = some (.sec b) → b.val = k.val + 1 ∧ r.secs[b].cond = .blocked ∧ r.secs[b].occupant = none ∧
    r.stalls[b] = none ∧ r.Conveys f k
  out : st.dest = some .out → k = 0
  lone : st.dest = none → st.cause = .sensor ∨ k = 5

/-- A section agrees with its stall record, its moves and its occupant (R8, R24, R46, R50). -/
structure Rail.SecOk (k : Sec) : Prop where
  emptied : r.secs[k].cond = .clear ∨ r.secs[k].cond = .reserved → r.secs[k].occupant = none
  reserved : r.secs[k].cond = .reserved → ∃ (i : Fin 3) (m : Move), r.slots[i] = some m ∧ m.dest = .sec k
  stalled : ∀ st, r.stalls[k] = some st → r.RecOk f k st
  unnamed : r.secs[k].cond = .blocked → r.stallNames k = false → r.secs[k].occupant = none
  occupied : ∀ t, r.secs[k].occupant = some t → ∃ st, f t = some (st, some k)

/-- The sections, the moves, the stall list and the trains agree. -/
structure Rail.Sited : Prop where
  moves : ∀ (i : Fin 3) (m : Move), r.slots[i] = some m → r.MoveOk f m
  apart : ∀ (i j : Fin 3) (m n : Move), r.slots[i] = some m → r.slots[j] = some n → m.source = n.source → i = j
  secs : ∀ k, r.SecOk f k
  trains : ∀ t st p, f t = some (st, p) → match p with
    | none => st = .announced
    | some k => r.secs[k].occupant = some t ∧ st.standsAt k

/-- The gate's timers agree with the gate operation (R36, R37). -/
structure Rail.GateTimed : Prop where
  confirm : r.gateMoving = true ↔ r.confirmTimer.isSome = true
  timer : r.gateTimer.isSome = true → r.gateMoving = true
  clear : r.gateMoving = true → r.secs[(5 : Sec)].cond ≠ .blocked ∧ r.slotAt 5 = none

/-- The hold agrees with what is in flight (R39, R40, R51). -/
structure Rail.HoldTrue : Prop where
  still : r.hold = .held → r.moving = false ∧ r.gateMoving = false
  jog : r.jog.isSome = true → r.hold = .held

/-- The admission at INTAKE agrees with its occupant (R24 to R28). -/
structure Rail.IntakeOk : Prop where
  unknown : r.unknownTag.isSome = true → r.secs[(0 : Sec)].occupant = none ∧
    (r.secs[(0 : Sec)].cond = .occupied ∨ r.secs[(0 : Sec)].cond = .blocked ∧ r.stalls[(0 : Sec)].isSome = true)
  eject : r.ejectPending = true → r.Ejects f
  wait : r.adm ≠ .idle ↔ r.admTimer.isSome = true
  held : r.adm = .waitPresence ↔ r.heldTag.isSome = true
  fresh : r.adm = .waitTag → r.secs[(0 : Sec)].cond = .occupied ∧ r.secs[(0 : Sec)].occupant = none ∧
    r.unknownTag = none ∧ r.ejectPending = false

/-- The rail is consistent with itself and with the trains. -/
structure Rail.Whole : Prop where
  sited : r.Sited f
  gate : r.GateTimed
  hold : r.HoldTrue
  intake : r.IntakeOk f

end

/-! ## The same in the words of the model -/

section
variable {s : State}

theorem State.conveyable_iff (k : Sec) : s.conveyable k ↔ s.rail.Conveys s.lots.standing k := by
  unfold State.conveyable Rail.Conveys
  simp only [LotStore.trainState_standing]

theorem State.ejectable_iff : s.intakeEjectable = true ↔ s.rail.Ejects s.lots.standing := by
  rw [State.intakeEjectable_iff]
  simp only [LotStore.trainState_standing]
  rfl

theorem State.stallOk_iff (k : Sec) (st : Stall) : s.StallOk k st ↔ s.rail.RecOk s.lots.standing k st := by
  unfold State.StallOk
  rw [State.conveyable_iff]
  cases hd : st.dest with
  | none =>
    exact ⟨fun ⟨hc, ht, hl⟩ => ⟨hc, ht, fun b h => (by rw [hd] at h; cases h), fun h => (by rw [hd] at h; cases h), fun _ => hl⟩,
      fun h => ⟨h.cond, h.train, h.lone hd⟩⟩
  | some d =>
    cases d with
    | out =>
      exact ⟨fun ⟨hc, ht, ho⟩ =>
          ⟨hc, ht, fun b h => (by rw [hd] at h; cases h), fun _ => ho, fun h => (by rw [hd] at h; cases h)⟩,
        fun h => ⟨h.cond, h.train, h.out hd⟩⟩
    | sec b =>
      refine ⟨fun ⟨hc, ht, hb⟩ => ⟨hc, ht, fun b' h => ?_, fun h => (by rw [hd] at h; cases h),
        fun h => (by rw [hd] at h; cases h)⟩, fun h => ⟨h.cond, h.train, h.onward b hd⟩⟩
      obtain rfl : b = b' := by rw [hd] at h; cases h; rfl
      exact hb

theorem LotStore.standing_some {ls : LotStore} {t : Nat} {st : TrainState} {p : Option Sec} :
    ls.standing t = some (st, p) ↔ ∃ r, ls.trains.get t = some r ∧ r.state = st ∧ r.sec = p := by
  unfold LotStore.standing
  simp

theorem State.railOk_iff : s.RailOk ↔ s.rail.Whole s.lots.standing := by
  constructor
  · intro h
    refine ⟨⟨fun i m hm => ?_, h.apart.2, fun k => ⟨h.emptied k, h.reserved k, fun st hst => (s.stallOk_iff k st).mp (h.stalled k st hst),
      h.unnamed k, fun t ht => ?_⟩, fun t st p htp => ?_⟩, ⟨h.gate.1, h.gate.2.1, h.gate.2.2⟩, ⟨h.hold.1, h.hold.2⟩,
      ⟨h.unknown, fun he => State.ejectable_iff.mp (h.eject he), h.admission.1, h.admission.2.1, h.admission.2.2⟩⟩
    · obtain ⟨hocc, hdest⟩ := h.apart.1 i m hm
      obtain ⟨htrain, hcar⟩ := h.carries i m hm
      refine ⟨hocc, htrain, fun b hb => ?_, fun ho => ?_⟩
      · rw [hb] at hdest hcar
        exact ⟨hdest.1, hdest.2, (s.conveyable_iff _).mp hcar⟩
      · rw [ho] at hdest hcar
        exact ⟨hdest, State.ejectable_iff.mp hcar⟩
    · obtain ⟨r, hr, hk⟩ := h.occupants k t ht
      exact ⟨r.state, LotStore.standing_some.mpr ⟨r, hr, rfl, hk⟩⟩
    · obtain ⟨r, hr, rfl, rfl⟩ := LotStore.standing_some.mp htp
      exact h.trains t r hr
  · rintro ⟨⟨hm, ha, hs, ht⟩, hg, hh, hi⟩
    refine ⟨⟨fun i m h => ⟨(hm i m h).source, ?_⟩, ha⟩, fun i m h => ⟨(hm i m h).train, ?_⟩, fun k => (hs k).emptied,
      fun k => (hs k).reserved, fun k st h => (s.stallOk_iff k st).mpr ((hs k).stalled st h), fun k => (hs k).unnamed,
      ⟨hg.confirm, hg.timer, hg.clear⟩, ⟨hh.still, hh.jog⟩, hi.unknown, fun he => State.ejectable_iff.mpr (hi.eject he),
      ⟨hi.wait, hi.held, hi.fresh⟩, fun t r h => ht t r.state r.sec (LotStore.standing_some.mpr ⟨r, h, rfl, rfl⟩),
      fun k t h => ?_⟩
    · cases hd : m.dest with
      | sec b => exact ⟨((hm i m h).onward b hd).1, ((hm i m h).onward b hd).2.1⟩
      | out => exact ((hm i m h).out hd).1
    · cases hd : m.dest with
      | sec b => exact (s.conveyable_iff _).mpr ((hm i m h).onward b hd).2.2
      | out => exact State.ejectable_iff.mpr ((hm i m h).out hd).2
    · obtain ⟨st, hst⟩ := (hs k).occupied t h
      obtain ⟨r, hr, -, hk⟩ := LotStore.standing_some.mp hst
      exact ⟨r, hr, hk⟩

end

/-! ## A change that reaches few sections -/

/-- A move with its sections among those of `X`. -/
def Move.Inside (X : Sec → Prop) (m : Move) : Prop := X m.source ∧ ∀ b, m.dest = .sec b → X b

/-- A move with its sections away from those of `X`. -/
def Move.Outside (X : Sec → Prop) (m : Move) : Prop := ¬ X m.source ∧ ∀ b, m.dest = .sec b → ¬ X b

/-- The same move but for the time left. -/
def Move.Same (m m' : Move) : Prop := ∃ n, m' = { m with left := n }

/-- From `r` to `r'` and from `f` to `f'` only the sections `X` change, with their records, their moves and their trains. -/
structure Rail.Frame (X : Sec → Prop) (r r' : Rail) (f f' : Standing) : Prop where
  sec : ∀ k, ¬ X k → r'.secs[k].cond = r.secs[k].cond ∧ r'.secs[k].occupant = r.secs[k].occupant ∧ r'.stalls[k] = r.stalls[k]
  record : ∀ k st b, r.stalls[k] = some st → st.dest = some (.sec b) → (X k ↔ X b)
  slot : ∀ i : Fin 3, (∃ m m', r.slots[i] = some m ∧ r'.slots[i] = some m' ∧ m.Same m' ∧ m.Outside X) ∨
    (∀ m, r.slots[i] = some m → m.Inside X) ∧ ∀ m, r'.slots[i] = some m → m.Inside X
  unknown : ¬ X 0 → r'.unknownTag = r.unknownTag
  stand : ∀ t k, ¬ X k → r.secs[k].occupant = some t → f' t = f t
  trains : ∀ t st p, f' t = some (st, p) → (f t = some (st, p) ∧ ∀ k, p = some k → ¬ X k) ∨ (p = none ∧ st = .announced) ∨
    ∃ k, X k ∧ p = some k ∧ r'.secs[k].occupant = some t ∧ st.standsAt k

section
variable {X : Sec → Prop} {r r' : Rail} {f f' : Standing}

theorem Rail.Frame.conveys (fr : Rail.Frame X r r' f f') {k : Sec} (hk : ¬ X k) (h : r.Conveys f k) : r'.Conveys f' k := by
  obtain ⟨t, ht, hst⟩ := h
  exact ⟨t, (fr.sec k hk).2.1.trans ht, by rw [fr.stand t k hk ht]; exact hst⟩

theorem Rail.Frame.ejects (fr : Rail.Frame X r r' f f') (h0 : ¬ X 0) (h : r.Ejects f) : r'.Ejects f' := by
  rcases h with ⟨t, ht, hst⟩ | ⟨ho, hu⟩
  · exact .inl ⟨t, (fr.sec 0 h0).2.1.trans ht, by rw [fr.stand t 0 h0 ht]; exact hst⟩
  · exact .inr ⟨(fr.sec 0 h0).2.1.trans ho, by rw [fr.unknown h0]; exact hu⟩

theorem Rail.MoveOk.frame {m m' : Move} (h : r.MoveOk f m) (fr : Rail.Frame X r r' f f') (hs : m.Same m') (ho : m.Outside X) :
    r'.MoveOk f' m' := by
  obtain ⟨n, rfl⟩ := hs
  obtain ⟨hx, hb⟩ := ho
  obtain ⟨ec, eo, -⟩ := fr.sec m.source hx
  refine ⟨ec.trans h.source, h.train.trans eo.symm, fun b hd => ?_, fun hd => ?_⟩
  · obtain ⟨hv, hc, hcon⟩ := h.onward b hd
    exact ⟨hv, (fr.sec b (hb b hd)).1.trans hc, fr.conveys hx hcon⟩
  · obtain ⟨h0, he⟩ := h.out hd
    exact ⟨h0, fr.ejects (h0 ▸ hx) he⟩

theorem Rail.RecOk.frame {k : Sec} {st : Stall} (h : r.RecOk f k st) (fr : Rail.Frame X r r' f f') (hk : ¬ X k)
    (hst : r.stalls[k] = some st) : r'.RecOk f' k st := by
  refine ⟨(fr.sec k hk).1.trans h.cond, h.train.trans (fr.sec k hk).2.1.symm, fun b hb => ?_, h.out, h.lone⟩
  have hbX : ¬ X b := fun hx => hk ((fr.record k st b hst hb).mpr hx)
  obtain ⟨hv, hc, ho, hn, hcon⟩ := h.onward b hb
  obtain ⟨ec, eo, es⟩ := fr.sec b hbX
  exact ⟨hv, ec.trans hc, eo.trans ho, es.trans hn, fr.conveys hk hcon⟩

theorem Rail.stallNames_iff {k : Sec} : r.stallNames k = true ↔
    r.stalls[k].isSome = true ∨ ∃ (j : Sec) (st : Stall), r.stalls[j] = some st ∧ st.dest = some (.sec k) := by
  unfold Rail.stallNames
  rw [Bool.or_eq_true, List.any_eq_true]
  refine or_congr_right ⟨fun ⟨x, hx, hd⟩ => ?_, fun ⟨j, st, hst, hd⟩ => ⟨some st, ?_, by simp [hd]⟩⟩
  · obtain ⟨j, hj, rfl⟩ := Vector.mem_iff_getElem.mp (Vector.mem_toList_iff.mp hx)
    cases hst : r.stalls[j] with
    | none => simp [hst] at hd
    | some st => exact ⟨⟨j, hj⟩, st, hst, by simpa [hst] using hd⟩
  · exact Vector.mem_toList_iff.mpr (Vector.mem_iff_getElem.mpr ⟨j.val, j.isLt, hst⟩)

theorem Rail.Frame.named (fr : Rail.Frame X r r' f f') {k : Sec} (hk : ¬ X k) (h : r.stallNames k = true) :
    r'.stallNames k = true := by
  rw [Rail.stallNames_iff] at h ⊢
  rcases h with h | ⟨j, st, hst, hd⟩
  · exact .inl (by rw [(fr.sec k hk).2.2]; exact h)
  · exact .inr ⟨j, st, (fr.sec j fun hx => hk ((fr.record j st k hst hd).mp hx)).2.2.trans hst, hd⟩

theorem Rail.SecOk.frame {k : Sec} (h : r.SecOk f k) (fr : Rail.Frame X r r' f f') (hk : ¬ X k) : r'.SecOk f' k := by
  obtain ⟨ec, eo, es⟩ := fr.sec k hk
  refine ⟨fun hc => ?_, fun hc => ?_, fun st hst => ?_, fun hb hn => ?_, fun t ht => ?_⟩
  · rw [ec] at hc
    exact eo.trans (h.emptied hc)
  · rw [ec] at hc
    obtain ⟨i, m, hm, hd⟩ := h.reserved hc
    rcases fr.slot i with ⟨m₁, m', h₁, h', hs, -⟩ | ⟨hin, -⟩
    · obtain rfl : m = m₁ := Option.some.inj (hm.symm.trans h₁)
      obtain ⟨n, rfl⟩ := hs
      exact ⟨i, _, h', hd⟩
    · exact absurd ((hin m hm).2 k hd) hk
  · rw [es] at hst
    exact (h.stalled st hst).frame fr hk hst
  · refine eo.trans (h.unnamed (ec.symm.trans hb) ?_)
    by_contra hne
    rw [fr.named hk (Bool.not_eq_false _ ▸ hne)] at hn
    exact Bool.noConfusion hn
  · rw [eo] at ht
    obtain ⟨st, hst⟩ := h.occupied t ht
    exact ⟨st, (fr.stand t k hk ht).trans hst⟩

/-- What a change of the sections `X` keeps, once those sections and their moves agree again. -/
theorem Rail.Sited.frame (h : r.Sited f) (fr : Rail.Frame X r r' f f')
    (hin : ∀ (i : Fin 3) m, r'.slots[i] = some m → m.Inside X → r'.MoveOk f' m)
    (hap : ∀ (i j : Fin 3) m n, r'.slots[i] = some m → r'.slots[j] = some n → m.Inside X → n.Inside X → m.source = n.source → i = j)
    (hnew : ∀ k, X k → r'.SecOk f' k) : r'.Sited f' := by
  have hslot : ∀ (i : Fin 3) m', r'.slots[i] = some m' →
      (∃ m, r.slots[i] = some m ∧ m.Same m' ∧ m.Outside X) ∨ m'.Inside X := fun i m' hm' => by
    rcases fr.slot i with ⟨m, m₁, hm, h₁, hs, ho⟩ | ⟨-, hi⟩
    · obtain rfl : m' = m₁ := Option.some.inj (hm'.symm.trans h₁)
      exact .inl ⟨m, hm, hs, ho⟩
    · exact .inr (hi m' hm')
  refine ⟨fun i m' hm' => ?_, fun i j m' n' hm' hn' hsrc => ?_, fun k => ?_, fun t st p htp => ?_⟩
  · rcases hslot i m' hm' with ⟨m, hm, hs, ho⟩ | hi
    · exact (h.moves i m hm).frame fr hs ho
    · exact hin i m' hm' hi
  · rcases hslot i m' hm' with ⟨m, hm, ⟨_, rfl⟩, ho⟩ | hi
    · rcases hslot j n' hn' with ⟨n, hn, ⟨_, rfl⟩, -⟩ | hi'
      · exact h.apart i j m n hm hn hsrc
      · exact absurd hi'.1 (hsrc ▸ ho.1)
    · rcases hslot j n' hn' with ⟨n, hn, ⟨_, rfl⟩, ho'⟩ | hi'
      · exact absurd hi.1 (hsrc ▸ ho'.1)
      · exact hap i j m' n' hm' hn' hi hi' hsrc
  · by_cases hk : X k
    · exact hnew k hk
    · exact (h.secs k).frame fr hk
  · rcases fr.trains t st p htp with ⟨hf, hx⟩ | ⟨rfl, hst⟩ | ⟨k, hk, rfl, ho, hst⟩
    · have ht := h.trains t st p hf
      cases p with
      | none => exact ht
      | some k => exact ⟨(fr.sec k (hx k rfl)).2.1.trans ht.1, ht.2⟩
    · exact hst
    · exact ⟨ho, hst⟩

end

end Sys2Proof.Machine

/-!
Changes of the rail at one section, and at the two sections of a forward move or of its record.
-/

namespace Sys2Proof.Machine

section
variable {r r' : Rail} {f f' : Standing} {k b : Sec}

/-! ## What stands apart (R31, R43) -/

/-- No move and no record joins a section to another. -/
structure Rail.Alone (r : Rail) (k : Sec) : Prop where
  moves : ∀ (i : Fin 3) (m : Move), r.slots[i] = some m → m.touches k = false
  named : ∀ (j : Sec) st, r.stalls[j] = some st → st.dest ≠ some (.sec k)
  onward : ∀ st b, r.stalls[k] = some st → st.dest ≠ some (.sec b)

theorem Rail.SecOk.recorded (h : r.SecOk f k) {st : Stall} (hst : r.stalls[k] = some st) : r.secs[k].cond = .blocked :=
  (h.stalled st hst).cond

theorem Move.touches_iff {m : Move} : m.touches k = true ↔ m.source = k ∨ m.dest = .sec k := by simp [Move.touches]

theorem Move.not_touches {m : Move} : m.touches k = false ↔ m.source ≠ k ∧ m.dest ≠ .sec k := by simp [Move.touches]

/-- The sections of a move in flight are OCCUPIED and RESERVED. -/
theorem Rail.MoveOk.not_blocked {m : Move} (h : r.MoveOk f m) (hk : m.touches k = true) :
    r.secs[k].cond = .occupied ∨ r.secs[k].cond = .reserved := by
  rcases Move.touches_iff.mp hk with rfl | hd
  · exact .inl h.source
  · exact .inr (h.onward k hd).2.1

theorem Rail.Sited.touches_blocked (h : r.Sited f) (hb : r.secs[k].cond = .blocked) {i : Fin 3} {m : Move}
    (hm : r.slots[i] = some m) : m.touches k = false := by
  by_contra hne
  rcases (h.moves i m hm).not_blocked (Bool.not_eq_false _ ▸ hne) with e | e <;> rw [hb] at e <;> cases e

/-- A section that no record blocks and no move holds. -/
theorem Rail.Sited.alone_of_free (h : r.Sited f) (hc : r.secs[k].cond ≠ .blocked) (hk : r.slotAt k = none) : r.Alone k where
  moves := Rail.findSlot_none.mp hk
  named j st hst hd := hc (((h.secs j).stalled st hst).onward k hd).2.1
  onward _ _ hst _ := hc ((h.secs k).recorded hst)

/-- A section under a record of its own alone. -/
theorem Rail.Sited.alone_of_lone (h : r.Sited f) {st : Stall} (hst : r.stalls[k] = some st) (hd : ∀ b, st.dest ≠ some (.sec b)) :
    r.Alone k where
  moves _ _ hm := h.touches_blocked ((h.secs k).recorded hst) hm
  named j st' hst' hd' := by
    have hn := (((h.secs j).stalled st' hst').onward k hd').2.2.2.1
    rw [hst] at hn
    cases hn
  onward st' b hst' := by
    obtain rfl : st = st' := Option.some.inj (hst.symm.trans hst')
    exact hd b

theorem Rail.Sited.alone_of_unnamed (h : r.Sited f) (hb : r.secs[k].cond = .blocked) (hn : r.stallNames k = false) :
    r.Alone k ∧ r.stalls[k] = none := by
  have hno : ¬ (r.stalls[k].isSome = true ∨ ∃ (j : Sec) (st : Stall), r.stalls[j] = some st ∧ st.dest = some (.sec k)) :=
    fun hx => Bool.false_ne_true (hn.symm.trans (Rail.stallNames_iff.mpr hx))
  rw [not_or] at hno
  have hk : r.stalls[k] = none := Option.not_isSome_iff_eq_none.mp hno.1
  exact ⟨⟨fun _ _ hm => h.touches_blocked hb hm, fun j st hst hd => hno.2 ⟨j, st, hst, hd⟩,
    fun st b hst => by rw [hk] at hst; cases hst⟩, hk⟩

/-- The sections `X` hold whole moves and whole records. -/
structure Rail.Closed (r : Rail) (X : Sec → Prop) : Prop where
  moves : ∀ (i : Fin 3) (m : Move), r.slots[i] = some m → m.Inside X ∨ m.Outside X
  records : ∀ j st c, r.stalls[j] = some st → st.dest = some (.sec c) → (X j ↔ X c)

theorem Rail.Alone.closed (h : r.Alone k) : r.Closed (· = k) where
  moves i m hm := by
    obtain ⟨hs, hd⟩ := Move.not_touches.mp (h.moves i m hm)
    exact .inr ⟨hs, fun b hb e => hd (e ▸ hb)⟩
  records j st c hst hd := by
    constructor
    · rintro rfl
      exact absurd hd (h.onward st c hst)
    · rintro rfl
      exact absurd hd (h.named j st hst)

/-- The two sections of a forward move. -/
theorem Rail.Sited.closed_of_move (h : r.Sited f) {i : Fin 3} {m : Move} (hm : r.slots[i] = some m) (hd : m.dest = .sec b) :
    r.Closed fun j => j = m.source ∨ j = b := by
  have hok := h.moves i m hm
  obtain ⟨hv, hres, -⟩ := hok.onward b hd
  have hfree : ∀ j, j = m.source ∨ j = b → r.secs[j].cond ≠ .blocked := by
    rintro j (rfl | rfl)
    · rw [hok.source]; decide
    · rw [hres]; decide
  refine ⟨fun i' m' hm' => ?_, fun j st c hst hdc => ?_⟩
  · have hok' := h.moves i' m' hm'
    by_cases hs : m'.source = m.source
    · obtain rfl := h.apart i' i m' m hm' hm hs
      obtain rfl : m = m' := Option.some.inj (hm.symm.trans hm')
      exact .inl ⟨.inl rfl, fun c hc => .inr (by rw [hd] at hc; cases hc; rfl)⟩
    · refine .inr ⟨fun hx => hx.elim hs fun e => ?_, fun c hc hx => ?_⟩
      · have := hok'.source
        simp only [e, hres] at this
        cases this
      · obtain ⟨hv', hres', -⟩ := hok'.onward c hc
        rcases hx with rfl | rfl
        · rw [hok.source] at hres'
          cases hres'
        · exact hs (Fin.ext (by omega))
  · have hrec := (h.secs j).stalled st hst
    exact ⟨fun hx => absurd hrec.cond (hfree j hx), fun hx => absurd (hrec.onward c hdc).2.1 (hfree c hx)⟩

/-- The two sections of a forward move's record. -/
theorem Rail.Sited.closed_of_record (h : r.Sited f) {st : Stall} (hst : r.stalls[k] = some st) (hd : st.dest = some (.sec b)) :
    r.Closed fun j => j = k ∨ j = b := by
  have hrec := (h.secs k).stalled st hst
  obtain ⟨hv, hcb, -, hnb, -⟩ := hrec.onward b hd
  refine ⟨fun i m hm => .inr ?_, fun j st' c hst' hdc => ?_⟩
  · obtain ⟨hsk, hdk⟩ := Move.not_touches.mp (h.touches_blocked hrec.cond hm)
    obtain ⟨hsb, hdb⟩ := Move.not_touches.mp (h.touches_blocked hcb hm)
    exact ⟨fun hx => hx.elim hsk hsb, fun c hc hx => hx.elim (fun e => hdk (e ▸ hc)) fun e => hdb (e ▸ hc)⟩
  · obtain ⟨hv', -, -, hnc, -⟩ := ((h.secs j).stalled st' hst').onward c hdc
    constructor
    · rintro (rfl | rfl)
      · obtain rfl : st = st' := Option.some.inj (hst.symm.trans hst')
        exact .inr (by rw [hd] at hdc; cases hdc; rfl)
      · rw [hnb] at hst'
        cases hst'
    · rintro (rfl | rfl)
      · rw [hnc] at hst
        cases hst
      · exact .inl (Fin.ext (by omega))

/-- An OCCUPIED section that no move leaves, and the CLEAR section after it. -/
theorem Rail.Sited.closed_of_due (h : r.Sited f) (ha : r.secs[k].cond = .occupied) (hb : r.secs[b].cond = .clear)
    (hs : ∀ (i : Fin 3) m, r.slots[i] = some m → m.source ≠ k) : r.Closed fun j => j = k ∨ j = b := by
  refine ⟨fun i m hm => .inr ⟨fun hx => ?_, fun c hc hx => ?_⟩, fun j st c hst hdc => ?_⟩
  · have hsrc := (h.moves i m hm).source
    rcases hx with e | e
    · exact hs i m hm e
    · simp only [e, hb] at hsrc
      cases hsrc
  · have hres := ((h.moves i m hm).onward c hc).2.1
    rcases hx with rfl | rfl
    · rw [ha] at hres; cases hres
    · rw [hb] at hres; cases hres
  · have hrec := (h.secs j).stalled st hst
    have hfree : ∀ j, j = k ∨ j = b → r.secs[j].cond ≠ .blocked := by
      rintro j (rfl | rfl)
      · rw [ha]; decide
      · rw [hb]; decide
    exact ⟨fun hx => absurd hrec.cond (hfree j hx), fun hx => absurd (hrec.onward c hdc).2.1 (hfree c hx)⟩

/-- INTAKE without a forward move out of it, and not at the foot of a forward move's record. -/
theorem Rail.Sited.closed_intake (h : r.Sited f) (hm : ∀ (i : Fin 3) m c, r.slots[i] = some m → m.source = 0 → m.dest ≠ .sec c)
    (hr : ∀ st c, r.stalls[(0 : Sec)] = some st → st.dest ≠ some (.sec c)) : r.Closed (· = 0) := by
  refine ⟨fun i m hmi => ?_, fun j st c hst hd => ?_⟩
  · by_cases hs : m.source = 0
    · exact .inl ⟨hs, fun c hc => absurd hc (hm i m c hmi hs)⟩
    · refine .inr ⟨hs, fun c hc e => ?_⟩
      have hv := ((h.moves i m hmi).onward c hc).1
      rw [e] at hv
      exact absurd hv (Nat.succ_ne_zero _).symm
  · have hv := (((h.secs j).stalled st hst).onward c hd).1
    constructor
    · rintro rfl
      exact absurd hd (hr st c hst)
    · rintro rfl
      exact absurd hv (Nat.succ_ne_zero _).symm

/-! ## Changes -/

/-- A change of sections that hold whole moves and records, of the moves there and of the trains there. -/
theorem Rail.Sited.change {X : Sec → Prop} (h : r.Sited f) (hX : r.Closed X)
    (hsec : ∀ j, ¬ X j → r'.secs[j] = r.secs[j] ∧ r'.stalls[j] = r.stalls[j])
    (hout : ∀ (i : Fin 3) m, r.slots[i] = some m → ¬ X m.source → r'.slots[i] = some m)
    (hin : ∀ (i : Fin 3) m, r'.slots[i] = some m → ¬ X m.source ∧ r.slots[i] = some m ∨
      m.Inside X ∧ r'.MoveOk f' m ∧ ∀ m₀, r.slots[i] = some m₀ → X m₀.source)
    (huniq : ∀ (i j : Fin 3) m n, r'.slots[i] = some m → r'.slots[j] = some n → X m.source → m.source = n.source → i = j)
    (hunk : ¬ X 0 → r'.unknownTag = r.unknownTag)
    (hstand : ∀ t j, ¬ X j → r.secs[j].occupant = some t → f' t = f t)
    (htrains : ∀ t st p, f' t = some (st, p) → (f t = some (st, p) ∧ ∀ j, p = some j → ¬ X j) ∨ (p = none ∧ st = .announced) ∨
      ∃ j, X j ∧ p = some j ∧ r'.secs[j].occupant = some t ∧ st.standsAt j)
    (hnew : ∀ j, X j → r'.SecOk f' j) : r'.Sited f' := by
  refine h.frame (f' := f') ⟨fun j hj => ?_, hX.records, fun i => ?_, hunk, hstand, htrains⟩ (fun i m hm hi => ?_)
    (fun i j m n hm hn hi _ hs => huniq i j m n hm hn hi.1 hs) hnew
  · obtain ⟨hs, hst⟩ := hsec j hj
    exact ⟨congrArg SecRec.cond hs, congrArg SecRec.occupant hs, hst⟩
  · have hnone : (∀ m, r.slots[i] = some m → m.Inside X) → ∀ m, r'.slots[i] = some m → m.Inside X := fun ha m hm => by
      rcases hin i m hm with ⟨hs, h0⟩ | ⟨hi, -⟩
      · exact absurd (ha m h0).1 hs
      · exact hi
    cases hm : r.slots[i] with
    | none =>
      have ha : ∀ m, r.slots[i] = some m → m.Inside X := fun m h => by rw [hm] at h; cases h
      exact .inr ⟨nofun, hnone ha⟩
    | some m =>
      rcases hX.moves i m hm with hi | ho
      · have ha : ∀ m', r.slots[i] = some m' → m'.Inside X := fun m' h => by
          rw [hm] at h
          exact Option.some.inj h ▸ hi
        exact .inr ⟨fun m' h => Option.some.inj h ▸ hi, hnone ha⟩
      · exact .inl ⟨m, m, rfl, hout i m hm ho.1, ⟨m.left, rfl⟩, ho⟩
  · rcases hin i m hm with ⟨hs, -⟩ | ⟨-, hok, -⟩
    · exact absurd hi.1 hs
    · exact hok

/-- A change of one section that stands apart, and of the trains there. -/
theorem Rail.Sited.one (h : r.Sited f) (ha : r.Alone k) (hsec : ∀ j, j ≠ k → r'.secs[j] = r.secs[j] ∧ r'.stalls[j] = r.stalls[j])
    (hslot : r'.slots = r.slots) (hunk : k ≠ 0 → r'.unknownTag = r.unknownTag)
    (hstand : ∀ t j, j ≠ k → r.secs[j].occupant = some t → f' t = f t)
    (htrains : ∀ t st p, f' t = some (st, p) → (f t = some (st, p) ∧ p ≠ some k) ∨ (p = none ∧ st = .announced) ∨
      p = some k ∧ r'.secs[k].occupant = some t ∧ st.standsAt k)
    (hnew : r'.SecOk f' k) : r'.Sited f' := by
  have hno : ∀ (i : Fin 3) m, r'.slots[i] = some m → m.source ≠ k ∧ r.slots[i] = some m := fun i m hm => by
    rw [hslot] at hm
    exact ⟨(Move.not_touches.mp (ha.moves i m hm)).1, hm⟩
  refine h.change ha.closed hsec (fun i m hm _ => by rw [hslot]; exact hm) (fun i m hm => .inl (hno i m hm))
    (fun i j m n hm _ hi => absurd hi (hno i m hm).1) (fun h0 => hunk (Ne.symm h0)) hstand (fun t st p htp => ?_)
    fun j hj => hj ▸ hnew
  rcases htrains t st p htp with ⟨hf, hp⟩ | hp | ⟨rfl, ho, hs⟩
  · exact .inl ⟨hf, fun j hj e => hp (e ▸ hj)⟩
  · exact .inr (.inl hp)
  · exact .inr (.inr ⟨k, rfl, rfl, ho, hs⟩)

/-- A change of the condition and the record of one section that stands apart, its occupant staying. -/
theorem Rail.Sited.recond (h : r.Sited f) (ha : r.Alone k)
    (hsec : ∀ j, j ≠ k → r'.secs[j] = r.secs[j] ∧ r'.stalls[j] = r.stalls[j]) (hslot : r'.slots = r.slots)
    (hunk : k ≠ 0 → r'.unknownTag = r.unknownTag) (hocc : r'.secs[k].occupant = r.secs[k].occupant)
    (hclear : r'.secs[k].cond = .clear → r.secs[k].occupant = none) (hres : r'.secs[k].cond ≠ .reserved)
    (hst : ∀ st, r'.stalls[k] = some st → r'.secs[k].cond = .blocked ∧ st.train = r.secs[k].occupant ∧
      (st.dest = some .out ∧ k = 0 ∨ st.dest = none ∧ (st.cause = .sensor ∨ k = 5)))
    (hname : r'.secs[k].cond = .blocked → r'.stalls[k].isSome = true) : r'.Sited f := by
  refine h.one ha hsec hslot hunk (fun _ _ _ _ => rfl) (fun t st p htp => ?_) ⟨fun hc => ?_, fun hc => absurd hc hres,
    fun st hs => ?_, fun hb hn => ?_, fun t ht => (h.secs k).occupied t (hocc.symm.trans ht)⟩
  · by_cases hp : p = some k
    · subst hp
      have ht := h.trains t st (some k) htp
      exact .inr (.inr ⟨rfl, hocc.trans ht.1, ht.2⟩)
    · exact .inl ⟨htp, hp⟩
  · exact hocc.trans (hc.elim hclear fun hr => absurd hr hres)
  · obtain ⟨hc, htr, hd⟩ := hst st hs
    refine ⟨hc, htr.trans hocc.symm, fun b hb => ?_, fun ho => ?_, fun hl => ?_⟩
    · rcases hd with ⟨e, -⟩ | ⟨e, -⟩ <;> rw [hb] at e <;> cases e
    · rcases hd with ⟨-, e⟩ | ⟨e, -⟩
      · exact e
      · rw [ho] at e; cases e
    · rcases hd with ⟨e, -⟩ | ⟨-, e⟩
      · rw [hl] at e; cases e
      · exact e
  · rw [Rail.stallNames_iff.mpr (.inl (hname hb))] at hn
    cases hn

end

end Sys2Proof.Machine

/-!
What the rail's own operations keep of a consistent rail: stalls, the settlement of records, the gate, the hold.
-/

namespace Sys2Proof.Machine

section
variable {r r' : Rail} {f f' : Standing} {k b : Sec}

/-! ## What a change of sections leaves -/

/-- The gate, the hold, the jog and the admission wait are as they were, and no move is new. -/
structure Rail.Rest (r r' : Rail) : Prop where
  gate : r'.gate = r.gate ∧ r'.confirmTimer = r.confirmTimer ∧ r'.gateTimer = r.gateTimer
  hold : r'.hold = r.hold ∧ r'.jog = r.jog
  slots : ∀ (i : Fin 3) m, r'.slots[i] = some m → ∃ m₀, r.slots[i] = some m₀ ∧ m₀.source = m.source ∧ m₀.dest = m.dest

theorem Rail.Rest.of_slots (hg : r'.gate = r.gate ∧ r'.confirmTimer = r.confirmTimer ∧ r'.gateTimer = r.gateTimer)
    (hh : r'.hold = r.hold ∧ r'.jog = r.jog) (hs : r'.slots = r.slots) : r.Rest r' :=
  ⟨hg, hh, fun i m hm => ⟨m, by rw [← hs]; exact hm, rfl, rfl⟩⟩

theorem Rail.Rest.gateMoving (h : r.Rest r') : r'.gateMoving = r.gateMoving := by
  unfold Rail.gateMoving
  rw [h.gate.1]

/-- A section that no move touches stays one. -/
theorem Rail.Rest.slotAt (h : r.Rest r') (hk : r.slotAt k = none) : r'.slotAt k = none := by
  refine Rail.findSlot_none.mpr fun i m hm => ?_
  obtain ⟨m₀, h₀, hs, hd⟩ := h.slots i m hm
  have hno := Rail.findSlot_none.mp hk i m₀ h₀
  rw [Move.not_touches] at hno ⊢
  rw [← hs, ← hd]
  exact hno

theorem Rail.moving_false : r.moving = false ↔ ∀ i : Fin 3, r.slots[i] = none := by
  unfold Rail.moving
  rw [Option.isSome_eq_false_iff, Option.isNone_iff_eq_none, Rail.findSlot_none]
  exact ⟨fun h i => Option.eq_none_iff_forall_ne_some.mpr fun m hm => Bool.noConfusion (h i m hm),
    fun h i m hm => by rw [h i] at hm; cases hm⟩

theorem Rail.GateTimed.rest (h : r.GateTimed) (hr : r.Rest r')
    (h5 : r.gateMoving = true → r'.secs[(5 : Sec)].cond ≠ .blocked) : r'.GateTimed := by
  have hm := hr.gateMoving
  obtain ⟨-, hc, ht⟩ := hr.gate
  exact ⟨by rw [hm, hc]; exact h.confirm, by rw [hm, ht]; exact h.timer,
    fun hg => ⟨h5 (hm ▸ hg), hr.slotAt (h.clear (hm ▸ hg)).2⟩⟩

theorem Rail.HoldTrue.rest (h : r.HoldTrue) (hr : r.Rest r') : r'.HoldTrue := by
  obtain ⟨hh, hj⟩ := hr.hold
  refine ⟨fun he => ?_, by rw [hh, hj]; exact h.jog⟩
  obtain ⟨hm, hg⟩ := h.still (hh ▸ he)
  refine ⟨Rail.moving_false.mpr fun i => ?_, hr.gateMoving.trans hg⟩
  refine Option.eq_none_iff_forall_ne_some.mpr fun m hm' => ?_
  obtain ⟨m₀, h₀, -⟩ := hr.slots i m hm'
  rw [Rail.moving_false.mp hm i] at h₀
  cases h₀

/-- A change of sections keeps a consistent rail where it keeps the sections' agreement, does not block PRESENT in a gate
operation, and leaves INTAKE in agreement with the admission. -/
theorem Rail.Whole.change (h : r.Whole f) (hr : r.Rest r') (hs : r'.Sited f')
    (h5 : r.gateMoving = true → r'.secs[(5 : Sec)].cond ≠ .blocked) (hi : r'.IntakeOk f') : r'.Whole f' :=
  ⟨hs, h.gate.rest hr h5, h.hold.rest hr, hi⟩

/-! ## The admission at INTAKE -/

/-- The admission's own fields are as they were. -/
def Rail.SameWait (r r' : Rail) : Prop := r'.adm = r.adm ∧ r'.admTimer = r.admTimer ∧ r'.heldTag = r.heldTag

theorem Rail.Ejects.same (h : r.Ejects f) (ho : r'.secs[(0 : Sec)].occupant = r.secs[(0 : Sec)].occupant)
    (hu : r'.unknownTag = r.unknownTag) (hf : ∀ t, r.secs[(0 : Sec)].occupant = some t → f' t = f t) : r'.Ejects f' := by
  rcases h with ⟨t, ht, hst⟩ | ⟨hn, hs⟩
  · exact .inl ⟨t, ho.trans ht, by rw [hf t ht]; exact hst⟩
  · exact .inr ⟨ho.trans hn, by rw [hu]; exact hs⟩

/-- INTAKE with the occupant and the tag it had: the admission is still in agreement where INTAKE is as it was, OCCUPIED, or
BLOCKED with a record and no occupant awaited. -/
theorem Rail.IntakeOk.same (h : r.IntakeOk f) (hw : r.SameWait r') (hu : r'.unknownTag = r.unknownTag)
    (he : r'.ejectPending = r.ejectPending) (ho : r'.secs[(0 : Sec)].occupant = r.secs[(0 : Sec)].occupant)
    (hf : ∀ t, r.secs[(0 : Sec)].occupant = some t → f' t = f t)
    (hc : r'.secs[(0 : Sec)].cond = .occupied ∨
      (r'.secs[(0 : Sec)].cond = r.secs[(0 : Sec)].cond ∧ r'.stalls[(0 : Sec)] = r.stalls[(0 : Sec)]) ∨
      (r'.secs[(0 : Sec)].cond = .blocked ∧ r'.stalls[(0 : Sec)].isSome = true ∧ r.adm ≠ .waitTag)) : r'.IntakeOk f' := by
  obtain ⟨ha, hat, hh⟩ := hw
  refine ⟨fun hs => ?_, fun hp => (h.eject (he ▸ hp)).same ho hu hf, by rw [ha, hat]; exact h.wait,
    by rw [ha, hh]; exact h.held, fun hs => ?_⟩
  · obtain ⟨hn, hb⟩ := h.unknown (hu ▸ hs)
    refine ⟨ho.trans hn, ?_⟩
    rcases hc with hc | ⟨hc, hst⟩ | ⟨hc, hst, -⟩
    · exact .inl hc
    · rw [hc, hst]
      exact hb
    · exact .inr ⟨hc, hst⟩
  · obtain ⟨hb, hn, hu', hp⟩ := h.fresh (ha ▸ hs)
    refine ⟨?_, ho.trans hn, hu.trans hu', he.trans hp⟩
    rcases hc with hc | ⟨hc, -⟩ | ⟨-, -, hne⟩
    · exact hc
    · exact hc.trans hb
    · exact absurd (ha ▸ hs) hne

/-- INTAKE cleared, outside WAIT_TAG. -/
theorem Rail.IntakeOk.cleared (h : r.IntakeOk f) (hw : r.SameWait r') (hu : r'.unknownTag = none) (he : r'.ejectPending = false)
    (ha : r.adm ≠ .waitTag) : r'.IntakeOk f' := by
  obtain ⟨ha', hat, hh⟩ := hw
  refine ⟨fun hs => ?_, fun hp => ?_, by rw [ha', hat]; exact h.wait, by rw [ha', hh]; exact h.held,
    fun hs => absurd (ha' ▸ hs) ha⟩
  · rw [hu] at hs; cases hs
  · rw [he] at hp; cases hp

/-- Nothing waits for a tag at an INTAKE that is not OCCUPIED by an occupant yet unknown. -/
theorem Rail.IntakeOk.not_waiting (h : r.IntakeOk f)
    (hc : r.secs[(0 : Sec)].cond ≠ .occupied ∨ r.secs[(0 : Sec)].occupant ≠ none ∨ r.unknownTag ≠ none) : r.adm ≠ .waitTag :=
  fun ha => by
    obtain ⟨h1, h2, h3, -⟩ := h.fresh ha
    exact hc.elim (· h1) fun hc => hc.elim (· h2) (· h3)

/-! ## Changes of the record alone -/

/-- The sections' agreement reads the sections, the moves, the stall list and the unknown tag alone. -/
theorem Rail.Sited.congr (h : r.Sited f) (hs : r'.secs = r.secs) (hst : r'.stalls = r.stalls) (hsl : r'.slots = r.slots)
    (hu : r'.unknownTag = r.unknownTag) : r'.Sited f := by
  refine h.frame (X := fun _ => False) ⟨fun k _ => by rw [hs, hst]; exact ⟨rfl, rfl, rfl⟩, fun _ _ _ _ _ => Iff.rfl,
    fun i => ?_, fun _ => hu, fun _ _ _ _ => rfl, fun _ _ _ htp => .inl ⟨htp, fun _ _ => id⟩⟩
    (fun _ _ _ hi => hi.1.elim) (fun _ _ _ _ _ _ hi => hi.1.elim) fun _ hk => hk.elim
  rw [hsl]
  cases hm : r.slots[i] with
  | none => exact .inr ⟨nofun, nofun⟩
  | some m => exact .inl ⟨m, m, rfl, rfl, ⟨m.left, rfl⟩, id, fun _ _ => id⟩

/-- The gate left at rest, with no timer. -/
theorem Rail.Whole.gate_rest (h : r.Whole f) {g : GatePos} (hg : g ≠ .opening ∧ g ≠ .closing) :
    ({ r with gate := g, gateTimer := none, confirmTimer := none } : Rail).Whole f := by
  have hm : ({ r with gate := g, gateTimer := none, confirmTimer := none } : Rail).gateMoving = false := by
    simp [Rail.gateMoving, hg.1, hg.2]
  refine ⟨h.sited.congr rfl rfl rfl rfl, ⟨by rw [hm]; simp, nofun, fun hx => by rw [hm] at hx; cases hx⟩,
    ⟨fun hh => ⟨(h.hold.still hh).1, hm⟩, h.hold.jog⟩, ⟨h.intake.unknown, h.intake.eject, h.intake.wait, h.intake.held,
      h.intake.fresh⟩⟩

/-- The position of a gate that is in no operation. -/
theorem Rail.Whole.gate_named (h : r.Whole f) {g : GatePos} (hm : r.gateMoving = false) (hg : g ≠ .opening ∧ g ≠ .closing) :
    ({ r with gate := g } : Rail).Whole f := by
  have hc : r.confirmTimer = none := by
    have := h.gate.confirm
    rw [hm] at this
    simpa using this
  have ht : r.gateTimer = none := Option.not_isSome_iff_eq_none.mp fun hx => by
    have := h.gate.timer hx
    rw [hm] at this
    cases this
  have e := h.gate_rest hg
  rwa [show ({ r with gate := g, gateTimer := none, confirmTimer := none } : Rail) = { r with gate := g } by rw [hc, ht]]
    at e

theorem Rail.Whole.gateTimer_none (h : r.Whole f) : ({ r with gateTimer := none } : Rail).Whole f :=
  ⟨h.sited.congr rfl rfl rfl rfl, ⟨h.gate.confirm, nofun, h.gate.clear⟩, ⟨h.hold.still, h.hold.jog⟩,
    ⟨h.intake.unknown, h.intake.eject, h.intake.wait, h.intake.held, h.intake.fresh⟩⟩

theorem Rail.Whole.completeGate (h : r.Whole f) : r.completeGate.Whole f := by
  unfold Rail.completeGate
  split
  · exact h.gate_rest (by decide)
  · exact h.gate_rest (by decide)
  · exact h

/-- The hold and the jog. -/
theorem Rail.Whole.held (h : r.Whole f) {x : Hold} {j : Option Jog} (hx : x = .held → r.moving = false ∧ r.gateMoving = false)
    (hj : j.isSome = true → x = .held) : ({ r with hold := x, jog := j } : Rail).Whole f :=
  ⟨h.sited.congr rfl rfl rfl rfl, ⟨h.gate.confirm, h.gate.timer, h.gate.clear⟩, ⟨hx, hj⟩,
    ⟨h.intake.unknown, h.intake.eject, h.intake.wait, h.intake.held, h.intake.fresh⟩⟩

/-- The admission wait and what an eject waits for. -/
theorem Rail.Whole.waits (h : r.Whole f) {a : AdmState} {x : Option Nat} {n : Timer} {e : Bool}
    (he : e = true → r.Ejects f) (hn : a ≠ .idle ↔ n.isSome = true) (hx : a = .waitPresence ↔ x.isSome = true)
    (hf : a = .waitTag → r.secs[(0 : Sec)].cond = .occupied ∧ r.secs[(0 : Sec)].occupant = none ∧ r.unknownTag = none ∧ e = false) :
    ({ r with adm := a, heldTag := x, admTimer := n, ejectPending := e } : Rail).Whole f :=
  ⟨h.sited.congr rfl rfl rfl rfl, ⟨h.gate.confirm, h.gate.timer, h.gate.clear⟩, ⟨h.hold.still, h.hold.jog⟩,
    ⟨h.intake.unknown, he, hn, hx, hf⟩⟩

theorem Rail.Whole.endWait (h : r.Whole f) : r.endWait.Whole f :=
  h.waits h.intake.eject (by simp) (by simp) nofun

theorem Rail.Whole.pending (h : r.Whole f) {e : Bool} (he : e = true → r.Ejects f) (ha : r.adm ≠ .waitTag) :
    ({ r with ejectPending := e } : Rail).Whole f :=
  h.waits he h.intake.wait h.intake.held fun hx => absurd hx ha

/-! ## Records of one section (R44 to R50) -/

/-- A section BLOCKED under a record of its own, as an edge or a gate operation leaves it. -/
def Rail.lone (r : Rail) (k : Sec) (cause : Cause) : Rail :=
  { r with secs := r.secs.set k { r.secs[k] with cond := .blocked },
           stalls := r.stalls.set k (some { train := r.secs[k].occupant, dest := none, cause := cause }) }

theorem get_set_pair {α β : Type} {v : Vector α 7} {w : Vector β 7} {x : α} {y : β} {j : Sec} (h : j ≠ k) :
    (v.set k x)[j] = v[j] ∧ (w.set k y)[j] = w[j] := ⟨get_set_ne _ _ h, get_set_ne _ _ h⟩

theorem Rail.Whole.lone (h : r.Whole f) (ha : r.Alone k) {cause : Cause} (hc : cause = .sensor ∨ k = 5)
    (hg : k = 5 → r.gateMoving = false) (hw : k = 0 → r.adm ≠ .waitTag) : (r.lone k cause).Whole f := by
  have hsec : (r.lone k cause).secs[k] = { r.secs[k] with cond := .blocked } := get_set_self ..
  have hstall : (r.lone k cause).stalls[k] = some { train := r.secs[k].occupant, dest := none, cause := cause } :=
    get_set_self ..
  have hne : ∀ j, j ≠ k → (r.lone k cause).secs[j] = r.secs[j] ∧ (r.lone k cause).stalls[j] = r.stalls[j] :=
    fun j hj => get_set_pair hj
  refine h.change (.of_slots ⟨rfl, rfl, rfl⟩ ⟨rfl, rfl⟩ rfl) ?_ (fun hm h5 => ?_) ?_
  · refine h.sited.recond ha hne rfl (fun _ => rfl) ((congrArg SecRec.occupant hsec).trans rfl) (fun e => ?_) ?_ (fun st hst => ?_)
      fun _ => by rw [hstall]; rfl
    · rw [hsec] at e; cases e
    · rw [hsec]; exact nofun
    · obtain rfl := Option.some.inj (hstall.symm.trans hst)
      exact ⟨congrArg SecRec.cond hsec, rfl, .inr ⟨rfl, hc⟩⟩
  · by_cases hk : k = 5
    · exact Bool.noConfusion ((hg hk).symm.trans hm)
    · rw [(hne 5 (Ne.symm hk)).1] at h5
      exact (h.gate.clear hm).1 h5
  · by_cases hk : k = 0
    · subst hk
      exact h.intake.same ⟨rfl, rfl, rfl⟩ rfl rfl ((congrArg SecRec.occupant hsec).trans rfl) (fun _ _ => rfl)
        (.inr (.inr ⟨congrArg SecRec.cond hsec, by rw [hstall]; rfl, hw rfl⟩))
    · obtain ⟨h0, hs0⟩ := hne 0 (Ne.symm hk)
      exact h.intake.same ⟨rfl, rfl, rfl⟩ rfl rfl (congrArg SecRec.occupant h0) (fun _ _ => rfl)
        (.inr (.inl ⟨congrArg SecRec.cond h0, hs0⟩))

theorem RailWork.stallEdge_rail (w : RailWork) (k : Sec) : (w.stallEdge k).rail =
    (if k = 0 then w.rail.endWait else w.rail).lone k .sensor := by
  unfold RailWork.stallEdge
  by_cases hk : k = 0
  · simp only [hk, if_true]
    rfl
  · simp only [hk, if_false]
    rfl

/-- A lone edge at a section that no move holds and no gate operation reaches (R45). -/
theorem Rail.Whole.stallEdge {w : RailWork} (h : w.rail.Whole f) (hk : w.rail.slotAt k = none)
    (hb : w.rail.secs[k].cond ≠ .blocked) (hg : ¬ (k = 5 ∧ w.rail.gateMoving = true)) : (w.stallEdge k).rail.Whole f := by
  rw [RailWork.stallEdge_rail]
  have h5 : k = 5 → w.rail.gateMoving = false := fun e => Bool.not_eq_true _ ▸ fun hm => hg ⟨e, hm⟩
  by_cases h0 : k = 0
  · rw [if_pos h0]
    exact h.endWait.lone (h.endWait.sited.alone_of_free hb hk) (.inl rfl) h5 fun _ => nofun
  · rw [if_neg h0]
    exact h.lone (h.sited.alone_of_free hb hk) (.inl rfl) h5 fun e => absurd e h0

/-- A gate operation stalled (R44). -/
theorem Rail.Whole.stallGate {w : RailWork} (h : w.rail.Whole f) (hb : w.rail.secs[(5 : Sec)].cond ≠ .blocked)
    (hk : w.rail.slotAt 5 = none) (cause : Cause) : (w.stallGate cause).rail.Whole f := by
  have h' := h.gate_rest (g := .unknown) (by decide)
  exact h'.lone (h'.sited.alone_of_free hb hk) (.inr rfl) (fun _ => rfl) nofun

/-! ## The settlement of records (R47 to R50) -/

theorem Rail.reoccupied_sec : ((r.dropStall k).reoccupy k).secs[k] = { r.secs[k] with cond := .occupied } := get_set_self ..

theorem Rail.reoccupied_ne {j : Sec} (h : j ≠ k) : ((r.dropStall k).reoccupy k).secs[j] = r.secs[j] ∧
    ((r.dropStall k).reoccupy k).stalls[j] = r.stalls[j] := get_set_pair h

/-- A section OCCUPIED again by the occupant it kept. -/
theorem Rail.Whole.reoccupied (h : r.Whole f) (ha : r.Alone k) : ((r.dropStall k).reoccupy k).Whole f := by
  have hstall : ((r.dropStall k).reoccupy k).stalls[k] = none := get_set_self ..
  have hocc : ((r.dropStall k).reoccupy k).secs[k].occupant = r.secs[k].occupant :=
    (congrArg SecRec.occupant Rail.reoccupied_sec).trans rfl
  have hcond : ((r.dropStall k).reoccupy k).secs[k].cond = .occupied := (congrArg SecRec.cond Rail.reoccupied_sec).trans rfl
  refine h.change (.of_slots ⟨rfl, rfl, rfl⟩ ⟨rfl, rfl⟩ rfl) ?_ (fun hm h5 => ?_) ?_
  · refine h.sited.recond ha (fun j hj => Rail.reoccupied_ne hj) rfl (fun _ => rfl) hocc (fun e => ?_) ?_ (fun st hst => ?_)
      fun e => ?_
    · rw [hcond] at e; cases e
    · rw [hcond]; exact nofun
    · rw [hstall] at hst; cases hst
    · rw [hcond] at e; cases e
  · by_cases hk : k = 5
    · subst hk
      rw [hcond] at h5; cases h5
    · rw [(Rail.reoccupied_ne (Ne.symm hk)).1] at h5
      exact (h.gate.clear hm).1 h5
  · by_cases hk : k = 0
    · subst hk
      exact h.intake.same ⟨rfl, rfl, rfl⟩ rfl rfl hocc (fun _ _ => rfl) (.inl hcond)
    · obtain ⟨h0, hs0⟩ := Rail.reoccupied_ne (r := r) (Ne.symm hk)
      exact h.intake.same ⟨rfl, rfl, rfl⟩ rfl rfl (congrArg SecRec.occupant h0) (fun _ _ => rfl)
        (.inr (.inl ⟨congrArg SecRec.cond h0, hs0⟩))

theorem Rail.clearSec_sec : (r.clearSec k).secs[k] = { r.secs[k] with cond := .clear, occupant := none } := by
  unfold Rail.clearSec
  split <;> exact get_set_self ..

theorem Rail.clearSec_sec_ne {j : Sec} (h : j ≠ k) : (r.clearSec k).secs[j] = r.secs[j] := by
  unfold Rail.clearSec
  split <;> exact get_set_ne _ _ h

theorem Rail.clearSec_slots : (r.clearSec k).slots = r.slots := by unfold Rail.clearSec; split <;> rfl
theorem Rail.clearSec_stalls : (r.clearSec k).stalls = r.stalls := by unfold Rail.clearSec; split <;> rfl
theorem Rail.clearSec_wait : r.SameWait (r.clearSec k) := by unfold Rail.clearSec; split <;> exact ⟨rfl, rfl, rfl⟩
theorem Rail.clearSec_ne (h : k ≠ 0) : r.clearSec k = r.onSec k fun x => { x with cond := .clear, occupant := none } :=
  if_neg h
theorem Rail.clearSec_rest : r.Rest (r.clearSec k) := by
  by_cases hk : k = 0
  · subst hk
    exact .of_slots ⟨rfl, rfl, rfl⟩ ⟨rfl, rfl⟩ rfl
  · rw [Rail.clearSec_ne hk]
    exact .of_slots ⟨rfl, rfl, rfl⟩ ⟨rfl, rfl⟩ rfl
theorem Rail.clearSec_intake : (r.clearSec 0).unknownTag = none ∧ (r.clearSec 0).ejectPending = false := ⟨rfl, rfl⟩

/-- A BLOCKED section without occupant cleared. -/
theorem Rail.Whole.cleared (h : r.Whole f) (ha : r.Alone k) (hb : r.secs[k].cond = .blocked) (hn : r.secs[k].occupant = none) :
    ((r.dropStall k).clearSec k).Whole f := by
  have hcond : ((r.dropStall k).clearSec k).secs[k].cond = .clear := (congrArg SecRec.cond Rail.clearSec_sec).trans rfl
  have hocc : ((r.dropStall k).clearSec k).secs[k].occupant = none := (congrArg SecRec.occupant Rail.clearSec_sec).trans rfl
  have hstall : ((r.dropStall k).clearSec k).stalls[k] = none := by rw [Rail.clearSec_stalls]; exact get_set_self ..
  have hne : ∀ j, j ≠ k → ((r.dropStall k).clearSec k).secs[j] = r.secs[j] ∧ ((r.dropStall k).clearSec k).stalls[j] = r.stalls[j] :=
    fun j hj => ⟨Rail.clearSec_sec_ne hj, by rw [Rail.clearSec_stalls]; exact get_set_ne _ _ hj⟩
  have hrest : r.Rest ((r.dropStall k).clearSec k) :=
    let h := Rail.clearSec_rest (r := r.dropStall k) (k := k)
    ⟨h.gate, h.hold, h.slots⟩
  have hunk : k ≠ 0 → ((r.dropStall k).clearSec k).unknownTag = r.unknownTag ∧
      ((r.dropStall k).clearSec k).ejectPending = r.ejectPending := fun hk => by
    rw [Rail.clearSec_ne hk]; exact ⟨rfl, rfl⟩
  refine h.change hrest ?_ (fun hm h5 => ?_) ?_
  · refine h.sited.recond ha hne Rail.clearSec_slots (fun hk => (hunk hk).1) (hocc.trans hn.symm) (fun _ => hn) ?_
      (fun st hst => ?_) fun e => ?_
    · rw [hcond]; exact nofun
    · rw [hstall] at hst; cases hst
    · rw [hcond] at e; cases e
  · by_cases hk : k = 5
    · subst hk
      rw [hcond] at h5; cases h5
    · rw [(hne 5 (Ne.symm hk)).1] at h5
      exact (h.gate.clear hm).1 h5
  · by_cases hk : k = 0
    · subst hk
      exact h.intake.cleared (Rail.clearSec_wait (r := r.dropStall 0)) rfl rfl
        (h.intake.not_waiting (.inl (by rw [hb]; exact nofun)))
    · obtain ⟨h0, hs0⟩ := hne 0 (Ne.symm hk)
      exact h.intake.same (Rail.clearSec_wait (r := r.dropStall k)) (hunk hk).1 (hunk hk).2 (congrArg SecRec.occupant h0)
        (fun _ _ => rfl) (.inr (.inl ⟨congrArg SecRec.cond h0, hs0⟩))

theorem Rail.dropStall_none (h : r.stalls[k] = none) : r.dropStall k = r := by
  have e : r.stalls.set k none = r.stalls := vector_ext fun j => by
    by_cases hj : j = k
    · subst hj; exact (get_set_self ..).trans h.symm
    · exact get_set_ne _ _ hj
  rw [Rail.dropStall, e]

end

end Sys2Proof.Machine

/-!
Moves in flight: their stalls, the settlement of their records, and the arbiter's grants keep a consistent rail.
-/

namespace Sys2Proof.Machine

section
variable {r r' : Rail} {f : Standing} {k b : Sec}

/-! ## A section in each condition -/

theorem Rail.SecOk.of_occupied (hc : r.secs[k].cond = .occupied) (hn : r.stalls[k] = none)
    (ho : ∀ t, r.secs[k].occupant = some t → ∃ st, f t = some (st, some k)) : r.SecOk f k :=
  ⟨fun e => by rcases e with e | e <;> exact absurd (hc.symm.trans e) nofun, fun e => absurd (hc.symm.trans e) nofun,
    fun _ e => absurd (hn.symm.trans e) nofun, fun e => absurd (hc.symm.trans e) nofun, ho⟩

theorem Rail.SecOk.of_empty (he : r.secs[k].occupant = none) (hn : r.stalls[k] = none)
    (hr : r.secs[k].cond = .reserved → ∃ (i : Fin 3) (m : Move), r.slots[i] = some m ∧ m.dest = .sec k) : r.SecOk f k :=
  ⟨fun _ => he, hr, fun _ e => absurd (hn.symm.trans e) nofun, fun _ _ => he, fun _ e => absurd (he.symm.trans e) nofun⟩

theorem Rail.SecOk.of_record {st : Stall} (hst : r.stalls[k] = some st) (h : r.RecOk f k st)
    (ho : ∀ t, r.secs[k].occupant = some t → ∃ st, f t = some (st, some k)) : r.SecOk f k :=
  ⟨fun e => by rcases e with e | e <;> exact absurd (h.cond.symm.trans e) nofun, fun e => absurd (h.cond.symm.trans e) nofun,
    fun _ e => Option.some.inj (hst.symm.trans e) ▸ h,
    fun _ e => absurd (e.symm.trans (Rail.stallNames_iff.mpr (.inl (by rw [hst]; rfl)))) nofun, ho⟩

/-! ## Changes that leave the trains where they stand -/

/-- A change in which every train stays where it stands. -/
theorem Rail.Sited.moved {X : Sec → Prop} (h : r.Sited f) (hX : r.Closed X)
    (hsec : ∀ j, ¬ X j → r'.secs[j] = r.secs[j] ∧ r'.stalls[j] = r.stalls[j])
    (hout : ∀ (i : Fin 3) m, r.slots[i] = some m → ¬ X m.source → r'.slots[i] = some m)
    (hin : ∀ (i : Fin 3) m, r'.slots[i] = some m → ¬ X m.source ∧ r.slots[i] = some m ∨
      m.Inside X ∧ r'.MoveOk f m ∧ ∀ m₀, r.slots[i] = some m₀ → X m₀.source)
    (huniq : ∀ (i j : Fin 3) m n, r'.slots[i] = some m → r'.slots[j] = some n → X m.source → m.source = n.source → i = j)
    (hunk : r'.unknownTag = r.unknownTag) (hocc : ∀ j, X j → r'.secs[j].occupant = r.secs[j].occupant)
    (hnew : ∀ j, X j → (∀ t, r'.secs[j].occupant = some t → ∃ st, f t = some (st, some j)) → r'.SecOk f j) : r'.Sited f := by
  refine h.change hX hsec hout hin huniq (fun _ => hunk) (fun _ _ _ _ => rfl) (fun t st p htp => ?_)
    fun j hj => hnew j hj fun t ht => (h.secs j).occupied t ((hocc j hj).symm.trans ht)
  cases p with
  | none => exact .inr (.inl ⟨rfl, h.trains t st none htp⟩)
  | some j =>
    obtain ⟨ho, hs⟩ := h.trains t st (some j) htp
    by_cases hj : X j
    · exact .inr (.inr ⟨j, hj, rfl, (hocc j hj).trans ho, hs⟩)
    · exact .inl ⟨htp, fun _ e => Option.some.inj e ▸ hj⟩

/-- A change in which every train and every move stays. -/
theorem Rail.Sited.stilled {X : Sec → Prop} (h : r.Sited f) (hX : r.Closed X)
    (hsec : ∀ j, ¬ X j → r'.secs[j] = r.secs[j] ∧ r'.stalls[j] = r.stalls[j])
    (hfree : ∀ (i : Fin 3) m, r'.slots[i] = some m ↔ r.slots[i] = some m ∧ ¬ X m.source)
    (hunk : r'.unknownTag = r.unknownTag) (hocc : ∀ j, X j → r'.secs[j].occupant = r.secs[j].occupant)
    (hnew : ∀ j, X j → (∀ t, r'.secs[j].occupant = some t → ∃ st, f t = some (st, some j)) → r'.SecOk f j) : r'.Sited f :=
  h.moved hX hsec (fun i m hm hx => (hfree i m).mpr ⟨hm, hx⟩) (fun i m hm => .inl ((hfree i m).mp hm).symm)
    (fun i _ m _ hm _ hx => absurd hx ((hfree i m).mp hm).2) hunk hocc hnew

theorem next_ne {a b : Sec} (h : b.val = a.val + 1) : b ≠ a := (ne_of_next h).symm
theorem next_ne_zero {a b : Sec} (h : b.val = a.val + 1) : b ≠ 0 := by rintro rfl; exact absurd h (Nat.succ_ne_zero _).symm

/-! ## A forward move's record settled (R47, R48) -/

theorem Rail.Whole.settleMove (h : r.Whole f) {st : Stall} (hst : r.stalls[k] = some st) (hd : st.dest = some (.sec b)) :
    (((r.dropStall k).occupy k st.train).clearSec b).Whole f := by
  have hrec := (h.sited.secs k).stalled st hst
  obtain ⟨hv, hcb, hob, hnb, -⟩ := hrec.onward b hd
  have hkb : k ≠ b := ne_of_next hv
  have hb0 : b ≠ 0 := next_ne_zero hv
  obtain ⟨r', hr'⟩ : ∃ r', r' = ((r.dropStall k).occupy k st.train).clearSec b := ⟨_, rfl⟩
  rw [← hr']
  have hr : r' = ((r.dropStall k).occupy k st.train).onSec b fun x => { x with cond := .clear, occupant := none } :=
    hr'.trans (Rail.clearSec_ne hb0)
  have hsk : r'.secs[k] = { r.secs[k] with cond := .occupied, occupant := st.train } := by
    rw [hr, Rail.onSec_ne _ _ hkb]; exact get_set_self ..
  have hsb : r'.secs[b].cond = .clear ∧ r'.secs[b].occupant = none := by
    rw [hr, Rail.onSec_self]; exact ⟨rfl, rfl⟩
  have hne : ∀ j, ¬ (j = k ∨ j = b) → r'.secs[j] = r.secs[j] ∧ r'.stalls[j] = r.stalls[j] := fun j hj => by
    obtain ⟨hjk, hjb⟩ := not_or.mp hj
    rw [hr]
    exact ⟨(Rail.onSec_ne _ _ hjb).trans (get_set_ne _ _ hjk), get_set_ne _ _ hjk⟩
  have hstk : r'.stalls[k] = none := by rw [hr]; exact get_set_self ..
  have hstb : r'.stalls[b] = none := by rw [hr]; exact (get_set_ne _ _ hkb.symm).trans hnb
  have hck : r'.secs[k].cond = .occupied := (congrArg SecRec.cond hsk).trans rfl
  have hok : r'.secs[k].occupant = r.secs[k].occupant := (congrArg SecRec.occupant hsk).trans hrec.train
  refine h.change (by rw [hr]; exact .of_slots ⟨rfl, rfl, rfl⟩ ⟨rfl, rfl⟩ rfl) ?_ (fun hm h5 => ?_) ?_
  · have hX := h.sited.closed_of_record hst hd
    refine h.sited.stilled hX hne (fun i m => ?_) (by rw [hr]; rfl) ?_ ?_
    · rw [hr]
      refine ⟨fun hm => ⟨hm, fun hx => ?_⟩, And.left⟩
      rcases hx with e | e
      · exact (Move.not_touches.mp (h.sited.touches_blocked hrec.cond hm)).1 e
      · exact (Move.not_touches.mp (h.sited.touches_blocked hcb hm)).1 e
    · rintro j (rfl | rfl)
      · exact hok
      · exact hsb.2.trans hob.symm
    · rintro j (rfl | rfl) ho
      · exact .of_occupied hck hstk ho
      · exact .of_empty hsb.2 hstb fun e => absurd (hsb.1.symm.trans e) nofun
  · by_cases h5k : (5 : Sec) = k ∨ (5 : Sec) = b
    · rcases h5k with rfl | rfl
      · rw [hck] at h5; cases h5
      · rw [hsb.1] at h5; cases h5
    · rw [(hne 5 h5k).1] at h5
      exact (h.gate.clear hm).1 h5
  · have hw : r.SameWait r' := by rw [hr]; exact ⟨rfl, rfl, rfl⟩
    have hu : r'.unknownTag = r.unknownTag ∧ r'.ejectPending = r.ejectPending := by rw [hr]; exact ⟨rfl, rfl⟩
    by_cases hk0 : k = 0
    · subst hk0
      exact h.intake.same hw hu.1 hu.2 hok (fun _ _ => rfl) (.inl hck)
    · obtain ⟨h0, hs0⟩ := hne 0 (not_or.mpr ⟨Ne.symm hk0, Ne.symm hb0⟩)
      exact h.intake.same hw hu.1 hu.2 (congrArg SecRec.occupant h0) (fun _ _ => rfl)
        (.inr (.inl ⟨congrArg SecRec.cond h0, hs0⟩))

/-! ## A move stalled (R43) -/

section
variable {i : Fin 3} {m : Move}

/-- The rail of a stalled move. -/
def Rail.stalled (r : Rail) (i : Fin 3) (m : Move) (cause : Cause) : Rail :=
  { r with secs := r.stalledSecs m, slots := r.slots.set i none,
           stalls := r.stalls.set m.source (some { train := m.train, dest := some m.dest, cause := cause }) }

theorem Rail.set_slot_none {i j : Fin 3} {m' : Move} : (r.slots.set i none)[j] = some m' ↔ r.slots[j] = some m' ∧ j ≠ i := by
  by_cases hj : j = i
  · subst hj
    rw [get_set_self]
    exact ⟨nofun, fun h => absurd rfl h.2⟩
  · rw [get_set_ne _ _ hj]
    exact ⟨fun h => ⟨h, hj⟩, And.left⟩

theorem Rail.freed_rest {r₀ : Rail} (hs : r'.slots = r.slots.set i none) (h0 : r₀.slots = r.slots)
    (hg : r'.gate = r₀.gate ∧ r'.confirmTimer = r₀.confirmTimer ∧ r'.gateTimer = r₀.gateTimer)
    (hh : r'.hold = r₀.hold ∧ r'.jog = r₀.jog) : r₀.Rest r' :=
  ⟨hg, hh, fun j m' hm' => by
    rw [hs, Rail.set_slot_none] at hm'
    exact ⟨m', by rw [h0]; exact hm'.1, rfl, rfl⟩⟩

/-- The moves that stay when a move is taken from its slot are those that leave another section. -/
theorem Rail.Sited.freed (h : r.Sited f) (hm : r.slots[i] = some m) {j : Fin 3} {m' : Move} (hm' : r.slots[j] = some m') :
    j ≠ i ↔ m'.source ≠ m.source := by
  constructor
  · exact fun hj hs => hj (h.apart j i m' m hm' hm hs)
  · rintro hs rfl
    obtain rfl := Option.some.inj (hm.symm.trans hm')
    exact hs rfl

theorem Rail.Whole.stalledMove (h : r.Whole f) (hm : r.slots[i] = some m) (hd : m.dest = .sec b) (cause : Cause) :
    (r.stalled i m cause).Whole f := by
  have hok := h.sited.moves i m hm
  obtain ⟨hv, hres, hcon⟩ := hok.onward b hd
  have hab : m.source ≠ b := ne_of_next hv
  obtain ⟨hcs, hos, -⟩ := r.stalledSecs_source fun b' e => (by rw [hd] at e; cases e; exact hab)
  have hocc : (r.stalledSecs m)[m.source].occupant = r.secs[m.source].occupant := (hos b hd).trans hok.train
  obtain ⟨hcb, hob⟩ := r.stalledSecs_dest hd
  have hempty : r.secs[b].occupant = none := (h.sited.secs b).emptied (.inr hres)
  have hstb : r.stalls[b] = none := Option.eq_none_iff_forall_ne_some.mpr fun st e => by
    have := (h.sited.secs b).recorded e
    rw [hres] at this; cases this
  have hne : ∀ j, ¬ (j = m.source ∨ j = b) → (r.stalled i m cause).secs[j] = r.secs[j] ∧
      (r.stalled i m cause).stalls[j] = r.stalls[j] := fun j hj => by
    obtain ⟨hj1, hj2⟩ := not_or.mp hj
    exact ⟨r.stalledSecs_ne hj1 fun b' e => (by rw [hd] at e; cases e; exact hj2), get_set_ne _ _ hj1⟩
  have hst : (r.stalled i m cause).stalls[m.source] = some { train := m.train, dest := some m.dest, cause := cause } :=
    get_set_self ..
  have hst' : (r.stalled i m cause).stalls[b] = none := (get_set_ne _ _ hab.symm).trans hstb
  refine h.change (Rail.freed_rest rfl rfl ⟨rfl, rfl, rfl⟩ ⟨rfl, rfl⟩) ?_ (fun hg h5 => ?_) ?_
  · refine h.sited.stilled (h.sited.closed_of_move hm hd) hne (fun j m' => ?_) rfl ?_ ?_
    · refine Rail.set_slot_none.trans (and_congr_right fun hm' => (h.sited.freed hm hm').trans ?_)
      refine ⟨fun hs hx => hx.elim hs fun e => ?_, fun hx e => hx (.inl e)⟩
      have hsrc := (h.sited.moves j m' hm').source
      simp only [e, hres] at hsrc
      cases hsrc
    · rintro j (rfl | rfl)
      · exact hocc
      · exact hob.trans hempty.symm
    · rintro j (rfl | rfl) ho
      · refine .of_record hst ⟨hcs, (hos b hd).symm, fun b' e => ?_, fun e => ?_, fun e => ?_⟩ ho
        · obtain rfl : b = b' := by rw [hd] at e; cases e; rfl
          obtain ⟨t, ht, hft⟩ := hcon
          exact ⟨hv, hcb, hob, hst', t, hocc.trans ht, hft⟩
        · rw [hd] at e; cases e
        · cases e
      · exact ⟨fun _ => hob, fun e => absurd (hcb.symm.trans e) nofun, fun _ e => absurd (hst'.symm.trans e) nofun,
          fun _ _ => hob, ho⟩
  · have hno := Rail.findSlot_none.mp (h.gate.clear hg).2 i m hm
    obtain ⟨h1, h2⟩ := Move.not_touches.mp hno
    rw [(hne 5 (not_or.mpr ⟨Ne.symm h1, fun e => h2 (e ▸ hd)⟩)).1] at h5
    exact (h.gate.clear hg).1 h5
  · have hb0 : (0 : Sec) ≠ b := (next_ne_zero hv).symm
    by_cases h0 : m.source = 0
    · obtain ⟨t, ht, -⟩ := hcon
      simp only [h0] at hocc hcs hst ht
      exact h.intake.same ⟨rfl, rfl, rfl⟩ rfl rfl hocc (fun _ _ => rfl) (.inr (.inr ⟨hcs, by rw [hst]; rfl,
        h.intake.not_waiting (.inr (.inl (by rw [ht]; exact nofun)))⟩))
    · obtain ⟨e0, es0⟩ := hne 0 (not_or.mpr ⟨Ne.symm h0, hb0⟩)
      exact h.intake.same ⟨rfl, rfl, rfl⟩ rfl rfl (congrArg SecRec.occupant e0) (fun _ _ => rfl)
        (.inr (.inl ⟨congrArg SecRec.cond e0, es0⟩))

theorem Rail.Sited.eject_closed (h : r.Sited f) (hc : r.secs[(0 : Sec)].cond = .occupied) (hn : ¬ r.Conveys f 0) :
    r.Closed (· = 0) :=
  h.closed_intake (fun j m' c hm' hs hd => hn (hs ▸ ((h.moves j m' hm').onward c hd).2.2))
    fun _ _ hst _ => absurd (hc.symm.trans ((h.secs 0).recorded hst)) nofun

/-- An occupant that may be ejected is none that a forward move conveys. -/
theorem Rail.Ejects.not_conveys (he : r.Ejects f) : ¬ r.Conveys f 0 := by
  rintro ⟨t, ht, hst⟩
  rcases he with ⟨t', ht', hst'⟩ | ⟨hn, -⟩
  · obtain rfl := Option.some.inj (ht.symm.trans ht')
    rw [hst] at hst'
    cases hst'
  · rw [hn] at ht
    cases ht

theorem Rail.Ejects.not_waiting (he : r.Ejects f) (hi : r.IntakeOk f) : r.adm ≠ .waitTag := by
  refine hi.not_waiting (.inr ?_)
  rcases he with ⟨t, ht, -⟩ | ⟨-, hu⟩
  · exact .inl (by rw [ht]; exact nofun)
  · exact .inr (Option.isSome_iff_ne_none.mp hu)

theorem Rail.Whole.stalledOut (h : r.Whole f) (hm : r.slots[i] = some m) (hd : m.dest = .out) (cause : Cause) :
    (r.stalled i m cause).Whole f := by
  have hok := h.sited.moves i m hm
  obtain ⟨hs0, he⟩ := hok.out hd
  have hc0 : r.secs[(0 : Sec)].cond = .occupied := by have := hok.source; simpa only [hs0] using this
  have htrain : m.train = r.secs[(0 : Sec)].occupant := by have := hok.train; simpa only [hs0] using this
  have hsec : (r.stalled i m cause).secs[(0 : Sec)] = { r.secs[(0 : Sec)] with cond := .blocked } := by
    change (r.stalledSecs m)[(0 : Sec)] = _
    rw [Rail.stalledSecs_eject _ hd, hs0]
    exact Rail.block_self ..
  have hst : (r.stalled i m cause).stalls[(0 : Sec)] = some { train := m.train, dest := some m.dest, cause := cause } := by
    change (r.stalls.set m.source _)[(0 : Sec)] = _
    simp only [hs0]
    exact get_set_self ..
  have hne : ∀ j : Sec, j ≠ 0 → (r.stalled i m cause).secs[j] = r.secs[j] ∧ (r.stalled i m cause).stalls[j] = r.stalls[j] :=
    fun j hj => ⟨r.stalledSecs_ne (hs0 ▸ hj) fun b e => (by rw [hd] at e; cases e), get_set_ne _ _ (hs0 ▸ hj)⟩
  have hocc : (r.stalled i m cause).secs[(0 : Sec)].occupant = r.secs[(0 : Sec)].occupant :=
    (congrArg SecRec.occupant hsec).trans rfl
  have hcb : (r.stalled i m cause).secs[(0 : Sec)].cond = .blocked := (congrArg SecRec.cond hsec).trans rfl
  refine h.change (Rail.freed_rest rfl rfl ⟨rfl, rfl, rfl⟩ ⟨rfl, rfl⟩) ?_ (fun hg h5 => ?_) ?_
  · refine h.sited.stilled (h.sited.eject_closed hc0 he.not_conveys) hne (fun j m' => ?_) rfl ?_ ?_
    · exact Rail.set_slot_none.trans (and_congr_right fun hm' => (h.sited.freed hm hm').trans (by rw [hs0]))
    · rintro j rfl
      exact hocc
    · rintro j rfl ho
      refine .of_record hst ⟨hcb, htrain.trans hocc.symm, fun b e => ?_, fun _ => rfl, fun e => ?_⟩ ho
      · rw [hd] at e; cases e
      · cases e
  · rw [(hne 5 (by decide)).1] at h5
    exact (h.gate.clear hg).1 h5
  · exact h.intake.same ⟨rfl, rfl, rfl⟩ rfl rfl hocc (fun _ _ => rfl)
      (.inr (.inr ⟨hcb, by rw [hst]; rfl, he.not_waiting h.intake⟩))

/-- A stall of the move in a slot, if there is one (R43). -/
theorem Rail.Whole.stallMove {w : RailWork} (h : w.rail.Whole f) (i : Fin 3) (cause : Cause) :
    (w.stallMove i cause).rail.Whole f := by
  cases hm : w.rail.slots[i] with
  | none =>
    have e : w.stallMove i cause = w := by unfold RailWork.stallMove; rw [hm]
    rw [e]
    exact h
  | some m =>
    rw [RailWork.stallMove_eq cause hm]
    cases hd : m.dest with
    | sec b => exact hd ▸ h.stalledMove hm hd cause
    | out => exact hd ▸ h.stalledOut hm hd cause

end

end

end Sys2Proof.Machine

/-!
The arbiter's grants, the gate operations it lets begin and the hold keep a consistent rail (R28 to R32, R36, R39).
-/

namespace Sys2Proof.Machine

section
variable {r r' : Rail} {f : Standing} {a b : Sec} {i : Fin 3} {ls : LotStore} {w : RailWork}

theorem Rail.set_slot_some {j : Fin 3} {m m' : Move} : (r.slots.set i (some m))[j] = some m' ↔
    j = i ∧ m' = m ∨ j ≠ i ∧ r.slots[j] = some m' := by
  by_cases hj : j = i
  · subst hj
    rw [get_set_self]
    simp [eq_comm]
  · rw [get_set_ne _ _ hj]
    simp [hj]

/-- A new move in a free slot leaves the others, of which none has its source. -/
theorem Rail.granted_slots {x : Move} (hi : r.slots[i] = none) (hs : ∀ (j : Fin 3) m, r.slots[j] = some m → m.source ≠ x.source)
    (hr : r'.slots = r.slots.set i (some x)) :
    (∀ (j : Fin 3) m, r.slots[j] = some m → r'.slots[j] = some m) ∧
    (∀ (j : Fin 3) m, r'.slots[j] = some m → r.slots[j] = some m ∧ m.source ≠ x.source ∨ j = i ∧ m = x) ∧
    ∀ (j k : Fin 3) m n, r'.slots[j] = some m → r'.slots[k] = some n → m.source = x.source → m.source = n.source → j = k := by
  have hin : ∀ (j : Fin 3) m, r'.slots[j] = some m → r.slots[j] = some m ∧ m.source ≠ x.source ∨ j = i ∧ m = x :=
    fun j m hm => by
      rw [hr, Rail.set_slot_some] at hm
      exact hm.elim .inr fun h => .inl ⟨h.2, hs j m h.2⟩
  refine ⟨fun j m hm => ?_, hin, fun j k m n hm hn hx hmn => ?_⟩
  · rw [hr, Rail.set_slot_some]
    exact .inr ⟨fun e => (by subst e; rw [hi] at hm; cases hm), hm⟩
  · rcases hin j m hm with ⟨-, h⟩ | ⟨rfl, -⟩
    · exact absurd hx h
    · rcases hin k n hn with ⟨-, h⟩ | ⟨rfl, -⟩
      · exact absurd (hmn.symm.trans hx) h
      · rfl

/-! ## The grant of a forward move (R32) -/

/-- The rail with a forward move granted. -/
def Rail.granted (r : Rail) (i : Fin 3) (a b : Sec) : Rail :=
  { r with slots := r.slots.set i (some (r.forwardMove a b)),
           secs := r.secs.set b { r.secs[b] with cond := .reserved, occupant := none } }

theorem Rail.Conveys.of_due {ls : LotStore} (h : if a = 5 then r.holdsTrain ls a .done = true ∧ r.gate = .opened
    else r.holdsTrain ls a .onRail = true) : r.Conveys ls.standing a := by
  have ht : r.holdsTrain ls a (if a = 5 then .done else .onRail) = true := by
    split_ifs at h ⊢
    · exact h.1
    · exact h
  obtain ⟨t, ht, hst⟩ := Rail.holdsTrain_iff.mp ht
  exact ⟨t, ht, by rw [← LotStore.trainState_standing]; exact hst⟩

theorem Rail.Whole.granted (h : r.Whole ls.standing) (hi : r.slots[i] = none) (hb : b.val = a.val + 1) (hh : r.hold = .none)
    (hdue : r.moveDue ls a b = true) : (r.granted i a b).Whole ls.standing := by
  obtain ⟨hca, hsrc, hcon, hcb, hgb⟩ := Rail.moveDue_iff.mp hdue
  have hab : a ≠ b := ne_of_next hb
  have hob : r.secs[b].occupant = none := (h.sited.secs b).emptied (.inl hcb)
  have hstb : r.stalls[b] = none := Option.eq_none_iff_forall_ne_some.mpr fun st e =>
    absurd (hcb.symm.trans ((h.sited.secs b).recorded e)) nofun
  have hsb : (r.granted i a b).secs[b] = { r.secs[b] with cond := .reserved, occupant := none } := get_set_self ..
  have hne : ∀ j : Sec, j ≠ b → (r.granted i a b).secs[j] = r.secs[j] := fun j hj => get_set_ne _ _ hj
  have hconv : (r.granted i a b).Conveys ls.standing a := by
    obtain ⟨t, ht, hst⟩ := Rail.Conveys.of_due hcon
    exact ⟨t, (congrArg SecRec.occupant (hne a hab)).trans ht, hst⟩
  obtain ⟨hkeep, hin, huniq⟩ := Rail.granted_slots (r' := r.granted i a b) (x := r.forwardMove a b) hi hsrc rfl
  have hok : (r.granted i a b).MoveOk ls.standing (r.forwardMove a b) :=
    ⟨(congrArg SecRec.cond (hne a hab)).trans hca, (congrArg SecRec.occupant (hne a hab)).symm,
      fun b' e => by cases e; exact ⟨hb, (congrArg SecRec.cond hsb).trans rfl, hconv⟩, nofun⟩
  have hgate : r.gateMoving = true → a ≠ 5 ∧ b ≠ 5 := fun hm => by
    constructor
    · rintro rfl
      rw [if_pos rfl] at hcon
      simp [Rail.gateMoving, hcon.2] at hm
    · intro e
      simp [Rail.gateMoving, hgb e] at hm
  refine ⟨?_, ⟨h.gate.confirm, h.gate.timer, fun hm => ?_⟩, ⟨fun e => ?_, h.hold.jog⟩, ?_⟩
  · refine h.sited.moved (h.sited.closed_of_due hca hcb hsrc) (fun j hj => ⟨hne j (not_or.mp hj).2, rfl⟩)
      (fun j m hm _ => hkeep j m hm) (fun j m hm => ?_) (fun j k m n hm hn hx => huniq j k m n hm hn ?_) rfl ?_ ?_
    · rcases hin j m hm with ⟨h0, hs⟩ | ⟨rfl, rfl⟩
      · refine .inl ⟨fun hx => hx.elim hs fun e => ?_, h0⟩
        have := (h.sited.moves j m h0).source
        simp only [e, hcb] at this
        cases this
      · exact .inr ⟨⟨.inl rfl, fun c e => by cases e; exact .inr rfl⟩, hok, fun m₀ h0 => by rw [hi] at h0; cases h0⟩
    · rcases hin j m hm with ⟨h0, hs⟩ | ⟨rfl, rfl⟩
      · rcases hx with e | e
        · exact e
        · have := (h.sited.moves j m h0).source
          simp only [e, hcb] at this
          cases this
      · rfl
    · rintro j (rfl | rfl)
      · exact congrArg SecRec.occupant (hne _ hab)
      · exact ((congrArg SecRec.occupant hsb).trans rfl).trans hob.symm
    · rintro j (rfl | rfl) ho
      · refine .of_occupied ((congrArg SecRec.cond (hne _ hab)).trans hca) ?_ ho
        exact Option.eq_none_iff_forall_ne_some.mpr fun st e =>
          absurd (hca.symm.trans ((h.sited.secs _).recorded e)) nofun
      · exact .of_empty ((congrArg SecRec.occupant hsb).trans rfl) hstb fun _ => ⟨i, _, get_set_self .., rfl⟩
  · obtain ⟨ha5, hb5⟩ := hgate hm
    obtain ⟨hc5, hs5⟩ := h.gate.clear hm
    refine ⟨by rw [hne 5 hb5.symm]; exact hc5, Rail.findSlot_none.mpr fun j m hm' => ?_⟩
    rcases hin j m hm' with ⟨h0, -⟩ | ⟨-, rfl⟩
    · exact Rail.findSlot_none.mp hs5 j m h0
    · exact Move.not_touches.mpr ⟨ha5, fun e => hb5 (Dest.sec.inj e)⟩
  · have e' : r.hold = .held := e
    rw [hh] at e'
    cases e'
  · have h0 := hne 0 (next_ne_zero hb).symm
    exact h.intake.same ⟨rfl, rfl, rfl⟩ rfl rfl (congrArg SecRec.occupant h0) (fun _ _ => rfl)
      (.inr (.inl ⟨congrArg SecRec.cond h0, rfl⟩))

/-! ## The grant of an eject (R29) -/

/-- The rail with an eject granted. -/
def Rail.ejecting (r : Rail) (i : Fin 3) : Rail := { r with slots := r.slots.set i (some r.ejectMove), ejectPending := false }

theorem Rail.Whole.ejecting (h : r.Whole f) (hi : r.slots[i] = none) (hh : r.hold = .none) (hdue : r.ejectDue = true) :
    (r.ejecting i).Whole f := by
  obtain ⟨hp, hc0, hsrc⟩ := Rail.ejectDue_iff.mp hdue
  have he := h.intake.eject hp
  obtain ⟨hkeep, hin, huniq⟩ := Rail.granted_slots (r' := r.ejecting i) (x := r.ejectMove) hi hsrc rfl
  have hst0 : r.stalls[(0 : Sec)] = none := Option.eq_none_iff_forall_ne_some.mpr fun st e =>
    absurd (hc0.symm.trans ((h.sited.secs 0).recorded e)) nofun
  refine ⟨?_, ⟨h.gate.confirm, h.gate.timer, fun hm => ?_⟩, ⟨fun e => ?_, h.hold.jog⟩,
    ⟨h.intake.unknown, nofun, h.intake.wait, h.intake.held, fun e => ?_⟩⟩
  · refine h.sited.moved (h.sited.eject_closed hc0 he.not_conveys) (fun _ _ => ⟨rfl, rfl⟩) (fun j m hm _ => hkeep j m hm)
      (fun j m hm => ?_) (fun j k m n hm hn hx => huniq j k m n hm hn hx) rfl (fun _ _ => rfl) ?_
    · rcases hin j m hm with ⟨h0, hs⟩ | ⟨rfl, rfl⟩
      · exact .inl ⟨hs, h0⟩
      · exact .inr ⟨⟨rfl, nofun⟩, ⟨hc0, rfl, nofun, fun _ => ⟨rfl, he.same rfl rfl fun _ _ => rfl⟩⟩,
          fun m₀ h0 => by rw [hi] at h0; cases h0⟩
    · rintro j rfl ho
      exact .of_occupied hc0 hst0 ho
  · obtain ⟨hc5, hs5⟩ := h.gate.clear hm
    refine ⟨hc5, Rail.findSlot_none.mpr fun j m hm' => ?_⟩
    rcases hin j m hm' with ⟨h0, -⟩ | ⟨-, rfl⟩
    · exact Rail.findSlot_none.mp hs5 j m h0
    · rfl
  · have e' : r.hold = .held := e
    rw [hh] at e'
    cases e'
  · obtain ⟨h1, h2, h3, -⟩ := h.intake.fresh e
    exact ⟨h1, h2, h3, rfl⟩

/-! ## The whole examination (R30, R36, R39) -/

theorem Rail.Whole.grantMove (h : w.rail.Whole ls.standing) (hi : w.rail.slots[i] = none) (hb : b.val = a.val + 1)
    (hh : w.rail.hold = .none) (hdue : w.rail.moveDue ls a b = true) : (w.grantMove i a b).rail.Whole ls.standing := by
  have hg : (w.asked i a b).rail.Whole ls.standing := h.granted hi hb hh hdue
  rw [RailWork.grantMove_eq (ne_of_next hb)]
  split
  · exact hg
  · exact hg.stallMove i .driveFault

theorem Rail.Whole.grantEject (h : w.rail.Whole f) (hi : w.rail.slots[i] = none) (hh : w.rail.hold = .none)
    (hdue : w.rail.ejectDue = true) : (w.grantEject i).rail.Whole f := by
  have hg : (w.askedOut i).rail.Whole f := h.ejecting hi hh hdue
  rw [RailWork.grantEject_eq]
  split
  · exact hg
  · exact hg.stallMove i .driveFault

/-- A gate operation begun over a section that is neither BLOCKED nor in a move. -/
theorem Rail.Whole.gateBegun (h : r.Whole f) (hh : r.hold = .none) (hc : r.secs[(5 : Sec)].cond ≠ .blocked)
    (hs : r.slotAt 5 = none) {g : GatePos} (hg : g = .opening ∨ g = .closing) :
    ({ r with gate := g } : Rail).startGateTimers.Whole f := by
  have hm : ({ r with gate := g } : Rail).startGateTimers.gateMoving = true := by
    rcases hg with rfl | rfl <;> rfl
  refine ⟨h.sited.congr rfl rfl rfl rfl, ⟨by rw [hm]; simp [Rail.startGateTimers], fun _ => hm, fun _ => ⟨hc, hs⟩⟩,
    ⟨fun e => ?_, h.hold.jog⟩, ⟨h.intake.unknown, h.intake.eject, h.intake.wait, h.intake.held, h.intake.fresh⟩⟩
  have e' : r.hold = .held := e
  rw [hh] at e'
  cases e'

theorem Rail.Whole.beginGate (h : w.rail.Whole f) (hh : w.rail.hold = .none) (hdue : w.rail.gateDue ls = true) :
    (w.beginGate ls).rail.Whole f := by
  obtain ⟨-, -, hc, hs⟩ := Rail.gateDue_iff.mp hdue
  by_cases hw : w.rail.wanted ls = .opened
  · cases hl : w.drive.chans[(7 : Chan)].latch with
    | none =>
      rw [RailWork.beginGate_opening hw hl]
      exact h.gateBegun hh hc hs (.inl rfl)
    | some x =>
      rw [RailWork.beginGate_refused hw (by rw [hl]; rfl)]
      exact h.stallGate hc hs .driveFault
  · rw [RailWork.beginGate_closing hw]
    exact h.gateBegun hh hc hs (.inr rfl)

theorem RailWork.beginGate_hold (w : RailWork) (ls : LotStore) : (w.beginGate ls).rail.hold = w.rail.hold := by
  by_cases hw : w.rail.wanted ls = .opened
  · cases hl : w.drive.chans[(7 : Chan)].latch with
    | none => rw [RailWork.beginGate_opening hw hl]; rfl
    | some x => rw [RailWork.beginGate_refused hw (by rw [hl]; rfl)]
  · rw [RailWork.beginGate_closing hw]; rfl

theorem Rail.Whole.arbitrate (h : w.rail.Whole ls.standing) (hh : w.rail.hold = .none) (n : Nat) :
    (RailWork.arbitrate ls n w).rail.Whole ls.standing :=
  (RailWork.arbitrate_keeps (P := fun w => w.rail.Whole ls.standing ∧ w.rail.hold = .none)
    (fun v i a b ⟨h, hh⟩ hf hm => by
      obtain ⟨hdue, hb, -⟩ := Rail.nextMove_some hm
      have hi := (Rail.freeSlot_some hf).1
      exact ⟨h.grantMove hi hb hh hdue, (RailWork.spares_grantMove hi (ne_of_next hb) hdue).hold hh⟩)
    (fun v i ⟨h, hh⟩ hf _ he => by
      have hi := (Rail.freeSlot_some hf).1
      exact ⟨h.grantEject hi hh he, (RailWork.spares_grantEject hi he).hold hh⟩) n ⟨h, hh⟩).1

theorem Rail.Whole.holdTest (h : w.rail.Whole f) : w.holdTest.rail.Whole f := by
  rcases w.holdTest_cases with ⟨e, -⟩ | ⟨-, hm, hg, e⟩
  · rw [e]
    exact h
  · rw [e]
    exact h.held (fun _ => ⟨hm, hg⟩) fun _ => rfl

/-- The examination that ends a rail event keeps a consistent rail. -/
theorem Rail.Whole.settle (h : w.rail.Whole ls.standing) : (w.settle ls).rail.Whole ls.standing := by
  by_cases hh : w.rail.hold = .none
  · rw [RailWork.settle_free w ls hh]
    split_ifs with hg
    · exact (h.beginGate hh hg).arbitrate ((w.beginGate_hold ls).trans hh) 10
    · exact h.arbitrate hh 10
  · rw [RailWork.settle_held w ls hh]
    exact h.holdTest

end

end Sys2Proof.Machine

/-!
Trains that move: conveyed from a section to the next, departed, ejected and admitted, with a consistent rail before and after
(R11 to R13, R26 to R29, R33, R38).
-/

namespace Sys2Proof.Machine

section
variable {r r' : Rail} {f f' : Standing} {a b k : Sec} {t : Nat} {st : TrainState}

/-- A train stands in one section. -/
theorem Rail.Sited.stands_once (h : r.Sited f) {j : Sec} (ha : r.secs[a].occupant = some t) (hj : r.secs[j].occupant = some t) :
    j = a := by
  obtain ⟨x, hx⟩ := (h.secs a).occupied t ha
  obtain ⟨y, hy⟩ := (h.secs j).occupied t hj
  have e := hx.symm.trans hy
  injection e with e
  injection e with _ e
  exact (Option.some.inj e).symm

theorem Rail.Sited.stand_at (h : r.Sited f) (hx : f t = some (st, some k)) : r.secs[k].occupant = some t :=
  (h.trains t st (some k) hx).1

/-- A train conveyed from `a` to the empty section after it. -/
theorem Rail.Whole.conveyed (h : r.Whole f) (hv : b.val = a.val + 1) (hX : r.Closed fun j => j = a ∨ j = b)
    (hoa : r.secs[a].occupant = some t) (hob : r.secs[b].occupant = none) (hrest : r.Rest r') (hwait : r.SameWait r')
    (hsa : r'.secs[a].cond = .clear ∧ r'.secs[a].occupant = none)
    (hsb : r'.secs[b].cond = .occupied ∧ r'.secs[b].occupant = some t)
    (hst : r'.stalls[a] = none ∧ r'.stalls[b] = none)
    (hne : ∀ j, ¬ (j = a ∨ j = b) → r'.secs[j] = r.secs[j] ∧ r'.stalls[j] = r.stalls[j])
    (hfree : ∀ (i : Fin 3) m, r'.slots[i] = some m ↔ r.slots[i] = some m ∧ ¬ (m.source = a ∨ m.source = b))
    (hzero : a = 0 → r'.unknownTag = none ∧ r'.ejectPending = false)
    (hkeep : a ≠ 0 → r'.unknownTag = r.unknownTag ∧ r'.ejectPending = r.ejectPending)
    (hft : f' t = some (st, some b)) (hstand : st.standsAt b) (hf : ∀ x, x ≠ t → f' x = f x) : r'.Whole f' := by
  have hb0 : b ≠ 0 := next_ne_zero hv
  have hother : ∀ x j, j ≠ a → r.secs[j].occupant = some x → f' x = f x := fun x j hj hx =>
    hf x fun e => hj (h.sited.stands_once hoa (e ▸ hx))
  refine h.change hrest ?_ (fun hm h5 => ?_) ?_
  · refine h.sited.change hX hne (fun i m hm hx => (hfree i m).mpr ⟨hm, hx⟩) (fun i m hm => .inl ((hfree i m).mp hm).symm)
      (fun i _ m _ hm _ hx => absurd hx ((hfree i m).mp hm).2) (fun h0 => (hkeep fun e => h0 (.inl e.symm)).1)
      (fun x j hj hx => hother x j (not_or.mp hj).1 hx) (fun x st' p hx => ?_) ?_
    · by_cases hxt : x = t
      · subst hxt
        rw [hft] at hx
        cases hx
        exact .inr (.inr ⟨b, .inr rfl, rfl, hsb.2, hstand⟩)
      · rw [hf x hxt] at hx
        refine .inl ⟨hx, fun j hj => ?_⟩
        subst hj
        have ho := h.sited.stand_at hx
        rintro (rfl | rfl)
        · exact hxt (Option.some.inj (ho.symm.trans hoa))
        · exact absurd (hob.symm.trans ho) nofun
    · rintro j (rfl | rfl)
      · exact .of_empty hsa.2 hst.1 fun e => absurd (hsa.1.symm.trans e) nofun
      · exact .of_occupied hsb.1 hst.2 fun x hx => ⟨st, by rw [← Option.some.inj (hsb.2.symm.trans hx)]; exact hft⟩
  · by_cases h5x : (5 : Sec) = a ∨ (5 : Sec) = b
    · rcases h5x with rfl | rfl
      · exact absurd (hsa.1.symm.trans h5) nofun
      · exact absurd (hsb.1.symm.trans h5) nofun
    · rw [(hne 5 h5x).1] at h5
      exact (h.gate.clear hm).1 h5
  · by_cases h0 : a = 0
    · subst h0
      obtain ⟨hu, he⟩ := hzero rfl
      exact h.intake.cleared hwait hu he (h.intake.not_waiting (.inr (.inl (by rw [hoa]; exact nofun))))
    · obtain ⟨hu, he⟩ := hkeep h0
      obtain ⟨e0, es0⟩ := hne 0 (not_or.mpr ⟨Ne.symm h0, hb0.symm⟩)
      exact h.intake.same hwait hu he (congrArg SecRec.occupant e0) (fun x hx => hother x 0 (Ne.symm h0) hx)
        (.inr (.inl ⟨congrArg SecRec.cond e0, es0⟩))

/-- The occupant of a section gone with its train's place, from DISPATCH or from INTAKE. -/
theorem Rail.Whole.vacated (h : r.Whole f) (hX : r.Closed (· = k)) (hk5 : k ≠ 5) (hrest : r.Rest r') (hwait : r.SameWait r')
    (hsk : r'.secs[k].cond = .clear ∧ r'.secs[k].occupant = none) (hst : r'.stalls[k] = none)
    (hne : ∀ j, j ≠ k → r'.secs[j] = r.secs[j] ∧ r'.stalls[j] = r.stalls[j])
    (hfree : ∀ (i : Fin 3) m, r'.slots[i] = some m ↔ r.slots[i] = some m ∧ m.source ≠ k)
    (hzero : k = 0 → r'.unknownTag = none ∧ r'.ejectPending = false ∧ r.adm ≠ .waitTag)
    (hkeep : k ≠ 0 → r'.unknownTag = r.unknownTag ∧ r'.ejectPending = r.ejectPending)
    (hf : ∀ x, r.secs[k].occupant ≠ some x → f' x = f x)
    (hgone : ∀ x st p, r.secs[k].occupant = some x → f' x = some (st, p) → p = none ∧ st = .announced) : r'.Whole f' := by
  have hother : ∀ x j, j ≠ k → r.secs[j].occupant = some x → f' x = f x := fun x j hj hx =>
    hf x fun e => hj (h.sited.stands_once e hx)
  refine h.change hrest ?_ (fun hm h5 => ?_) ?_
  · refine h.sited.change hX hne (fun i m hm hx => (hfree i m).mpr ⟨hm, hx⟩) (fun i m hm => .inl ((hfree i m).mp hm).symm)
      (fun i _ m _ hm _ hx => absurd hx ((hfree i m).mp hm).2) (fun h0 => (hkeep fun e => h0 e.symm).1)
      (fun x j hj hx => hother x j hj hx) (fun x st' p hx => ?_) ?_
    · by_cases ho : r.secs[k].occupant = some x
      · exact .inr (.inl (hgone x st' p ho hx))
      · rw [hf x ho] at hx
        refine .inl ⟨hx, fun j hj => ?_⟩
        rintro rfl
        subst hj
        exact ho (h.sited.stand_at hx)
    · rintro j rfl
      exact .of_empty hsk.2 hst fun e => absurd (hsk.1.symm.trans e) nofun
  · rw [(hne 5 hk5.symm).1] at h5
    exact (h.gate.clear hm).1 h5
  · by_cases h0 : k = 0
    · subst h0
      obtain ⟨hu, he, ha⟩ := hzero rfl
      exact h.intake.cleared hwait hu he ha
    · obtain ⟨hu, he⟩ := hkeep h0
      obtain ⟨e0, es0⟩ := hne 0 (Ne.symm h0)
      exact h.intake.same hwait hu he (congrArg SecRec.occupant e0) (fun x hx => hother x 0 (Ne.symm h0) hx)
        (.inr (.inl ⟨congrArg SecRec.cond e0, es0⟩))

end

end Sys2Proof.Machine

/-!
Admission at INTAKE keeps a consistent rail: a train admitted, a train held MISORDER, and an occupant that is unknown
(R11, R24 to R28).
-/

namespace Sys2Proof.Machine

section
variable {r r' : Rail} {f f' : Standing} {t : Nat} {st : TrainState}

/-! ## What can stand at INTAKE -/

theorem Rail.Sited.intake_unreserved (h : r.Sited f) : r.secs[(0 : Sec)].cond ≠ .reserved := fun e => by
  obtain ⟨i, m, hm, hd⟩ := (h.secs 0).reserved e
  exact absurd ((h.moves i m hm).onward 0 hd).1 (Nat.succ_ne_zero _).symm

/-- A BLOCKED INTAKE that holds a train is under a record of its own. -/
theorem Rail.Sited.intake_recorded (h : r.Sited f) (hb : r.secs[(0 : Sec)].cond = .blocked)
    (ho : r.secs[(0 : Sec)].occupant ≠ none) : r.stalls[(0 : Sec)].isSome = true := by
  by_contra hn
  refine ho ((h.secs 0).unnamed hb (Bool.eq_false_iff.mpr fun hs => ?_))
  rcases Rail.stallNames_iff.mp hs with hs | ⟨j, st, hst, hd⟩
  · exact hn hs
  · exact absurd (((h.secs j).stalled st hst).onward 0 hd).1 (Nat.succ_ne_zero _).symm

/-- An INTAKE from which nothing can be conveyed holds no forward move and no forward move's record. -/
theorem Rail.Sited.intake_closed (h : r.Sited f) (hn : ¬ r.Conveys f 0) : r.Closed (· = 0) :=
  h.closed_intake (fun i m c hm hs hd => hn (hs ▸ ((h.moves i m hm).onward c hd).2.2))
    fun st c hst hd => hn (((h.secs 0).stalled st hst).onward c hd).2.2.2.2

theorem Rail.Sited.intake_out (h : r.Sited f) (hn : ¬ r.Conveys f 0) {i : Fin 3} {m : Move} (hm : r.slots[i] = some m)
    (hs : m.source = 0) : m.dest = .out := by
  cases hd : m.dest with
  | out => rfl
  | sec c => exact absurd (hs ▸ ((h.moves i m hm).onward c hd).2.2) hn

theorem Rail.conveys_not_empty {k : Sec} (ho : r.secs[k].occupant = none) : ¬ r.Conveys f k := by
  rintro ⟨t, ht, -⟩
  rw [ho] at ht
  cases ht

/-- A train known to stand at INTAKE, or nowhere, stands at no other section. -/
theorem Rail.Sited.not_elsewhere (h : r.Sited f) {k : Sec}
    (ht : f t = some (st, none) ∨ r.secs[(0 : Sec)].occupant = some t) (hk : k ≠ 0) : r.secs[k].occupant ≠ some t := fun ho => by
  rcases ht with ht | ht
  · obtain ⟨x, hx⟩ := (h.secs k).occupied t ho
    rw [ht] at hx
    cases hx
  · exact hk (h.stands_once ht ho)

/-! ## A train taken in -/

/-- A train enters INTAKE's record, alone or in the place of an occupant unknown. -/
theorem Rail.Whole.entered (h : r.Whole f) (hadm : r.adm ≠ .waitTag) (hX : r.Closed (· = 0)) (hrest : r.Rest r')
    (hwait : r.SameWait r')
    (hsec : r'.secs[(0 : Sec)].cond = (if r.secs[(0 : Sec)].cond = .blocked then .blocked else .occupied) ∧
      r'.secs[(0 : Sec)].occupant = some t)
    (hst : r'.stalls[(0 : Sec)] = r.stalls[(0 : Sec)].map fun x => { x with train := some t })
    (hrec : r.secs[(0 : Sec)].cond = .blocked → r.stalls[(0 : Sec)].isSome = true)
    (hne : ∀ j : Sec, j ≠ 0 → r'.secs[j] = r.secs[j] ∧ r'.stalls[j] = r.stalls[j]) (hunk : r'.unknownTag = none)
    (hkeep : ∀ (i : Fin 3) m, r.slots[i] = some m → m.source ≠ 0 → r'.slots[i] = some m)
    (hin : ∀ (i : Fin 3) m, r'.slots[i] = some m → m.source ≠ 0 ∧ r.slots[i] = some m ∨
      m.source = 0 ∧ m.dest = .out ∧ m.train = some t ∧ st = .misorder ∧ ∃ m₀, r.slots[i] = some m₀ ∧ m₀.source = 0)
    (hej : r'.ejectPending = true → st = .misorder) (hft : f' t = some (st, some 0)) (hstand : st.standsAt 0)
    (hf : ∀ x, x ≠ t → f' x = f x) (hocc : ∀ x, r.secs[(0 : Sec)].occupant = some x → x = t)
    (hnot : ∀ j : Sec, j ≠ 0 → r.secs[j].occupant ≠ some t) : r'.Whole f' := by
  obtain ⟨hc, ho⟩ := hsec
  have hother : ∀ x (j : Sec), j ≠ 0 → r.secs[j].occupant = some x → f' x = f x := fun x j hj hx =>
    hf x fun e => hnot j hj (e ▸ hx)
  have hejects : st = .misorder → r'.Ejects f' := fun e => .inl ⟨t, ho, by rw [hft, e]; rfl⟩
  refine h.change hrest ?_ (fun hm h5 => ?_) ⟨fun hs => ?_, fun hp => hejects (hej hp), ?_, ?_, fun e => ?_⟩
  · refine h.sited.change hX hne hkeep (fun i m hm => ?_) (fun i j m n hm hn hx hmn => ?_) (fun h0 => absurd rfl h0) hother
      (fun x st' p hx => ?_) ?_
    · rcases hin i m hm with ⟨hs, h0⟩ | ⟨hs, hd, htr, hmis, m₀, h₀, hs₀⟩
      · exact .inl ⟨hs, h0⟩
      · refine .inr ⟨⟨hs, fun c hdc => (by rw [hd] at hdc; cases hdc)⟩, ⟨?_, ?_, fun c hdc => (by rw [hd] at hdc; cases hdc),
          fun _ => ⟨hs, hejects hmis⟩⟩, fun m' h' => (by rw [h₀] at h'; cases h'; exact hs₀)⟩
        · simp only [hs]
          have hsrc := (h.sited.moves i m₀ h₀).source
          simp only [hs₀] at hsrc
          rw [hc, hsrc]
          rfl
        · simp only [hs]
          exact htr.trans ho.symm
    · have hzero : ∀ (i : Fin 3) m, r'.slots[i] = some m → m.source = 0 → ∃ m₀, r.slots[i] = some m₀ ∧ m₀.source = 0 :=
        fun i m hm hs => by
          rcases hin i m hm with ⟨hs', -⟩ | ⟨-, -, -, -, hx⟩
          · exact absurd hs hs'
          · exact hx
      obtain ⟨m₀, hm₀, hs⟩ := hzero i m hm hx
      obtain ⟨n₀, hn₀, hs'⟩ := hzero j n hn (hmn ▸ hx)
      exact h.sited.apart i j m₀ n₀ hm₀ hn₀ (hs.trans hs'.symm)
    · by_cases hxt : x = t
      · subst hxt
        rw [hft] at hx
        cases hx
        exact .inr (.inr ⟨0, rfl, rfl, ho, hstand⟩)
      · rw [hf x hxt] at hx
        refine .inl ⟨hx, fun j hj => ?_⟩
        rintro rfl
        subst hj
        exact hxt (hocc x (h.sited.stand_at hx))
    · rintro j rfl
      have hoccd : ∀ x, r'.secs[(0 : Sec)].occupant = some x → ∃ y, f' x = some (y, some 0) := fun x hx =>
        ⟨st, by rw [← Option.some.inj (ho.symm.trans hx)]; exact hft⟩
      cases hs : r.stalls[(0 : Sec)] with
      | none =>
        refine .of_occupied (hc.trans (if_neg fun e => ?_)) (by rw [hst, hs]; rfl) hoccd
        have := hrec e
        rw [hs] at this
        cases this
      | some x =>
        have hx := (h.sited.secs 0).stalled x hs
        refine .of_record (st := { x with train := some t }) (by rw [hst, hs]; rfl)
          ⟨hc.trans (if_pos hx.cond), ho.symm, fun c hd => ?_, fun _ => rfl, hx.lone⟩ hoccd
        have hc0 := (hX.records 0 x c hs hd).mp rfl
        exact absurd (hc0 ▸ (hx.onward c hd).1) (Nat.succ_ne_zero _).symm
  · rw [(hne 5 (by decide)).1] at h5
    exact (h.gate.clear hm).1 h5
  · rw [hunk] at hs
    cases hs
  · rw [hwait.1, hwait.2.1]
    exact h.intake.wait
  · rw [hwait.1, hwait.2.2]
    exact h.intake.held
  · exact absurd (hwait.1 ▸ e) hadm

theorem Rail.intakeTrain_sec : (r.intakeTrain t).secs[(0 : Sec)].cond =
    (if r.secs[(0 : Sec)].cond = .blocked then .blocked else .occupied) ∧
    (r.intakeTrain t).secs[(0 : Sec)].occupant = some t := by
  have h : (r.intakeTrain t).secs[(0 : Sec)] = { r.secs[(0 : Sec)] with
      cond := if r.secs[(0 : Sec)].cond = .blocked then .blocked else .occupied, occupant := some t } :=
    get_set_self r.secs (0 : Sec) _
  rw [h]
  exact ⟨rfl, rfl⟩

theorem Rail.intakeTrain_stall : (r.intakeTrain t).stalls[(0 : Sec)] =
    r.stalls[(0 : Sec)].map fun x => { x with train := some t } := get_set_self r.stalls (0 : Sec) _

theorem Rail.intakeTrain_ne {j : Sec} (h : j ≠ 0) : (r.intakeTrain t).secs[j] = r.secs[j] ∧
    (r.intakeTrain t).stalls[j] = r.stalls[j] := ⟨get_set_ne r.secs _ h, get_set_ne r.stalls _ h⟩

/-- The moves that a cut eject leaves. -/
theorem RailWork.cutEject_slots {w : RailWork} (h : w.rail.slots = r.slots) (hr : r.Sited f) (hn : ¬ r.Conveys f 0) {i : Fin 3}
    {m : Move} : w.cutEject.rail.slots[i] = some m ↔ r.slots[i] = some m ∧ m.source ≠ 0 := by
  have hes : w.rail.ejectSlot = r.ejectSlot := by unfold Rail.ejectSlot Rail.findSlot; rw [h]
  cases he : r.ejectSlot with
  | none =>
    rw [w.cutEject_none (hes.trans he)]
    show w.rail.slots[i] = some m ↔ _
    rw [h]
    exact ⟨fun hm => ⟨hm, fun hs => Rail.ejectSlot_none.mp he i m hm (hr.intake_out hn hm hs)⟩, And.left⟩
  | some j =>
    obtain ⟨x, hx, hxo⟩ := Rail.findSlot_some he
    have hx0 : x.source = 0 := ((hr.moves j x hx).out (by simpa using hxo)).1
    rw [w.cutEject_some (hes.trans he)]
    show (w.rail.slots.set j none)[i] = some m ↔ _
    rw [h, Rail.set_slot_none]
    exact and_congr_right fun hm => (hr.freed hx hm).trans (by rw [hx0])

/-- The moves once the eject in flight goes on for a train. -/
theorem Rail.renameEject_slots {r₀ : Rail} (h : r₀.slots = r.slots) (hr : r.Sited f) (hn : ¬ r.Conveys f 0) {i : Fin 3} {m : Move} :
    (r₀.renameEject t).slots[i] = some m ↔ r.slots[i] = some m ∧ m.source ≠ 0 ∨
      ∃ m₀, r.slots[i] = some m₀ ∧ m₀.source = 0 ∧ m₀.dest = .out ∧ m = { m₀ with train := some t } := by
  have hes : r₀.ejectSlot = r.ejectSlot := by unfold Rail.ejectSlot Rail.findSlot; rw [h]
  unfold Rail.renameEject
  rw [hes]
  cases he : r.ejectSlot with
  | none =>
    show r₀.slots[i] = some m ↔ _
    rw [h]
    have hno := Rail.ejectSlot_none.mp he
    exact ⟨fun hm => .inl ⟨hm, fun hs => hno i m hm (hr.intake_out hn hm hs)⟩,
      fun hm => hm.elim And.left fun ⟨m₀, h₀, _, hd, _⟩ => absurd hd (hno i m₀ h₀)⟩
  | some j =>
    obtain ⟨x, hx, hxo⟩ := Rail.findSlot_some he
    have hxo : x.dest = .out := by simpa using hxo
    have hx0 : x.source = 0 := ((hr.moves j x hx).out hxo).1
    show (r₀.slots.set j _)[i] = some m ↔ _
    rw [h, hx]
    refine (Rail.set_slot_some (m := { x with train := some t })).trans ?_
    constructor
    · rintro (⟨rfl, rfl⟩ | ⟨hij, hm⟩)
      · exact .inr ⟨x, hx, hx0, hxo, rfl⟩
      · exact .inl ⟨hm, fun hs => hij (hr.apart i j m x hm hx (hs.trans hx0.symm))⟩
    · rintro (⟨hm, hs⟩ | ⟨m₀, h₀, hs₀, -, rfl⟩)
      · exact .inr ⟨fun e => hs (by subst e; rw [hx] at hm; cases hm; exact hx0), hm⟩
      · obtain rfl := hr.apart i j m₀ x h₀ hx (hs₀.trans hx0.symm)
        rw [h₀] at hx
        cases hx
        exact .inl ⟨rfl, rfl⟩

/-- A train admitted, its eject dropped or ended (R11, R26, R27). -/
theorem Rail.Whole.admitted (h : r.Whole f) (hadm : r.adm ≠ .waitTag) (hn : ¬ r.Conveys f 0)
    (hrec : r.secs[(0 : Sec)].cond = .blocked → r.stalls[(0 : Sec)].isSome = true) {w : RailWork} (hw : w.rail = r.intakeTrain t)
    (hft : f' t = some (.onRail, some 0)) (hf : ∀ x, x ≠ t → f' x = f x)
    (hocc : ∀ x, r.secs[(0 : Sec)].occupant = some x → x = t) (hnot : ∀ j : Sec, j ≠ 0 → r.secs[j].occupant ≠ some t) :
    w.cutEject.rail.Whole f' := by
  have hsl := fun (i : Fin 3) (m : Move) =>
    RailWork.cutEject_slots (w := w) (i := i) (m := m) (r := r) ((congrArg Rail.slots hw).trans (show (r.intakeTrain t).slots = r.slots from rfl)) h.sited hn
  obtain ⟨v, hv⟩ := w.cutEject_rail
  rw [hw] at hv
  rw [hv] at hsl ⊢
  refine h.entered (st := .onRail) hadm (h.sited.intake_closed hn) ⟨⟨rfl, rfl, rfl⟩, ⟨rfl, rfl⟩, fun i m hm =>
    ⟨m, ((hsl i m).mp hm).1, rfl, rfl⟩⟩ ⟨rfl, rfl, rfl⟩ Rail.intakeTrain_sec Rail.intakeTrain_stall hrec
    (fun j hj => Rail.intakeTrain_ne hj) rfl (fun i m hm hs => (hsl i m).mpr ⟨hm, hs⟩)
    (fun i m hm => .inl ((hsl i m).mp hm).symm) nofun hft (Fin.zero_le _) hf hocc hnot

/-- A train held MISORDER, the eject in flight going on for it (R11, R26, R27). -/
theorem Rail.Whole.misordered (h : r.Whole f) (hadm : r.adm ≠ .waitTag) (hn : ¬ r.Conveys f 0)
    (hrec : r.secs[(0 : Sec)].cond = .blocked → r.stalls[(0 : Sec)].isSome = true)
    (hft : f' t = some (.misorder, some 0)) (hf : ∀ x, x ≠ t → f' x = f x)
    (hocc : ∀ x, r.secs[(0 : Sec)].occupant = some x → x = t) (hnot : ∀ j : Sec, j ≠ 0 → r.secs[j].occupant ≠ some t) :
    ((r.intakeTrain t).renameEject t).Whole f' := by
  have hsl := fun (i : Fin 3) (m : Move) =>
    Rail.renameEject_slots (r₀ := r.intakeTrain t) (t := t) (i := i) (m := m) (r := r) rfl h.sited hn
  obtain ⟨v, hv⟩ := (r.intakeTrain t).renameEject_eq t
  rw [hv] at hsl ⊢
  refine h.entered (st := .misorder) hadm (h.sited.intake_closed hn) ⟨⟨rfl, rfl, rfl⟩, ⟨rfl, rfl⟩, fun i m hm => ?_⟩
    ⟨rfl, rfl, rfl⟩ Rail.intakeTrain_sec Rail.intakeTrain_stall hrec (fun j hj => Rail.intakeTrain_ne hj) rfl
    (fun i m hm hs => (hsl i m).mpr (.inl ⟨hm, hs⟩)) (fun i m hm => ?_) (fun _ => rfl) hft rfl hf hocc hnot
  · rcases (hsl i m).mp hm with ⟨h0, -⟩ | ⟨m₀, h0, -, -, rfl⟩
    · exact ⟨m, h0, rfl, rfl⟩
    · exact ⟨m₀, h0, rfl, rfl⟩
  · rcases (hsl i m).mp hm with ⟨h0, hs⟩ | ⟨m₀, h0, hs, hd, rfl⟩
    · exact .inl ⟨hs, h0⟩
    · exact .inr ⟨hs, hd, rfl, rfl, m₀, h0, hs⟩

/-! ## An occupant that is unknown, or not yet known -/

theorem Rail.Sited.intake_alone (h : r.Sited f) (ho : r.secs[(0 : Sec)].occupant = none)
    (hu : r.secs[(0 : Sec)].cond = .clear ∨ r.unknownTag = none) (hr : ∀ st, r.stalls[(0 : Sec)] = some st → st.dest = none) :
    r.Alone 0 where
  moves i m hm := by
    refine Move.not_touches.mpr ⟨fun hs => ?_, fun hd => ?_⟩
    · have hout := h.intake_out (Rail.conveys_not_empty ho) hm hs
      rcases hu with hc | hu
      · have := (h.moves i m hm).source
        simp only [hs, hc] at this
        cases this
      · rcases ((h.moves i m hm).out hout).2 with ⟨x, hx, -⟩ | ⟨-, hx⟩
        · rw [ho] at hx; cases hx
        · rw [hu] at hx; cases hx
    · exact absurd ((h.moves i m hm).onward 0 hd).1 (Nat.succ_ne_zero _).symm
  named j st hst hd := absurd (((h.secs j).stalled st hst).onward 0 hd).1 (Nat.succ_ne_zero _).symm
  onward st b hst hd := by rw [hr st hst] at hd; cases hd

/-- INTAKE made OCCUPIED with no train known: its tag and its admission wait as they are given. -/
theorem Rail.Whole.strange (h : r.Whole f) (ha : r.Alone 0) (ho : r.secs[(0 : Sec)].occupant = none) (hst : r'.stalls[(0 : Sec)] = none)
    (hsec : r'.secs[(0 : Sec)].cond = .occupied ∧ r'.secs[(0 : Sec)].occupant = none)
    (hne : ∀ j : Sec, j ≠ 0 → r'.secs[j] = r.secs[j] ∧ r'.stalls[j] = r.stalls[j]) (hsl : r'.slots = r.slots)
    (hg : r'.gate = r.gate ∧ r'.confirmTimer = r.confirmTimer ∧ r'.gateTimer = r.gateTimer)
    (hh : r'.hold = r.hold ∧ r'.jog = r.jog) (hw : r'.adm ≠ .idle ↔ r'.admTimer.isSome = true)
    (hp : r'.adm = .waitPresence ↔ r'.heldTag.isSome = true) (he : r'.ejectPending = true → r'.unknownTag.isSome = true)
    (hf : r'.adm = .waitTag → r'.unknownTag = none) : r'.Whole f := by
  obtain ⟨hc, ho'⟩ := hsec
  refine h.change (.of_slots hg hh hsl) ?_ (fun hm h5 => ?_)
    ⟨fun _ => ⟨ho', .inl hc⟩, fun e => .inr ⟨ho', he e⟩, hw, hp, fun e => ⟨hc, ho', hf e, Bool.eq_false_iff.mpr fun e' => ?_⟩⟩
  · refine h.sited.recond ha hne hsl (fun h0 => absurd rfl h0) (ho'.trans ho.symm) (fun _ => ho) (by rw [hc]; exact nofun)
      (fun x hx => by rw [hst] at hx; cases hx) (fun e => by rw [hc] at e; cases e)
  · rw [(hne 5 (by decide)).1] at h5
    exact (h.gate.clear hm).1 h5
  · have := he e'
    rw [hf e] at this
    cases this

end

end Sys2Proof.Machine

/-!
Where the Lot Store's operations leave the trains, and the trains' deeds on a consistent rail: admitted, conveyed, ejected,
departed (R8 to R13, R26 to R29, R33, R38).
-/

namespace Sys2Proof.Machine

/-! ## What the Lot Store records of the trains -/

section
variable {ls ls' : LotStore} {t x : Nat}

theorem LotStore.standing_congr (h : ls'.trains = ls.trains) : ls'.standing = ls.standing := by
  unfold LotStore.standing
  rw [h]

theorem LotStore.standing_onTrain_self {g : Train → Train} {r : Train} (h : ls.trains.get t = some r) :
    (ls.onTrain t g).standing t = some ((g r).state, (g r).sec) := by
  simp [LotStore.standing, h]

theorem LotStore.standing_onTrain_ne {g : Train → Train} (h : x ≠ t) : (ls.onTrain t g).standing x = ls.standing x := by
  simp only [LotStore.standing, LotStore.onTrain_trains, Tbl.get_modify_ne _ _ h]

theorem LotStore.standing_erase (q : List Nat) : ({ ls with trains := ls.trains.erase t, queue := q } : LotStore).standing x =
    if x = t then none else ls.standing x := by
  unfold LotStore.standing
  dsimp only
  rw [Tbl.get_erase]
  split <;> rfl

theorem LotStore.trainState_some {st : TrainState} (h : ls.trainState t = some st) : ∃ p, ls.standing t = some (st, p) := by
  rw [LotStore.trainState_standing, Option.map_eq_some_iff] at h
  obtain ⟨⟨_, p⟩, hp, rfl⟩ := h
  exact ⟨p, hp⟩

theorem LotStore.standing_admitTrain {st : TrainState} {p : Option Sec} (h : ls.standing t = some (st, p)) :
    (ls.admitTrain t).standing t = some (.onRail, some 0) ∧ ∀ x, x ≠ t → (ls.admitTrain t).standing x = ls.standing x := by
  obtain ⟨r, hr, -⟩ := LotStore.standing_some.mp h
  exact ⟨LotStore.standing_onTrain_self (ls := { ls with queue := ls.queue.filter (· ≠ t) }) hr,
    fun x hx => LotStore.standing_onTrain_ne (ls := { ls with queue := ls.queue.filter (· ≠ t) }) hx⟩

theorem LotStore.standing_misorder {st : TrainState} {p : Option Sec} (h : ls.standing t = some (st, p)) :
    (ls.misorder t).standing t = some (.misorder, some 0) ∧ ∀ x, x ≠ t → (ls.misorder t).standing x = ls.standing x := by
  obtain ⟨r, hr, -⟩ := LotStore.standing_some.mp h
  exact ⟨LotStore.standing_onTrain_self hr, fun x hx => LotStore.standing_onTrain_ne hx⟩

theorem LotStore.standing_ejected {p : Option Sec} (h : ls.standing t = some (.misorder, p)) :
    (ls.ejected t).standing t = some (.announced, none) ∧ ∀ x, x ≠ t → (ls.ejected t).standing x = ls.standing x := by
  obtain ⟨r, hr, hm, -⟩ := LotStore.standing_some.mp h
  refine ⟨(LotStore.standing_onTrain_self hr).trans ?_, fun x hx => LotStore.standing_onTrain_ne hx⟩
  rw [if_pos hm]

theorem LotStore.releaseLots_trains (ns : List Nat) : (ls.releaseLots ns).trains = ls.trains := by
  induction ns generalizing ls with
  | nil => rfl
  | cons n ns ih =>
    unfold LotStore.releaseLots
    refine ih.trans ?_
    split
    · split <;> rfl
    · rfl

theorem LotStore.standing_depart {st : TrainState} {p : Option Sec} (h : ls.standing t = some (st, p)) :
    (ls.depart t).standing t = none ∧ ∀ x, x ≠ t → (ls.depart t).standing x = ls.standing x := by
  obtain ⟨r, hr, -⟩ := LotStore.standing_some.mp h
  have e : (ls.depart t).trains = ls.trains.erase t := by
    simp only [LotStore.depart, hr, LotStore.releaseLots_trains]
  unfold LotStore.standing
  rw [e]
  exact ⟨by simp, fun x hx => by rw [Tbl.get_erase_ne _ hx]⟩

/-- The state of a train that arrives at a section (R11, R12, R35). -/
def TrainState.arriving (b : Sec) : TrainState := if b = 5 then .presented else if b = 6 then .leaving else .onRail

theorem TrainState.arriving_stands (b : Sec) : (TrainState.arriving b).standsAt b := by
  unfold TrainState.arriving
  split_ifs with h5 h6
  · exact h5
  · exact h6
  · exact (by decide : ∀ b : Sec, b ≠ 5 → b ≠ 6 → b ≤ 4) b h5 h6

theorem LotStore.standing_present : (ls.present t).standing =
    (ls.onTrain t fun r => { r with state := .presented, sec := some 5 }).standing := LotStore.standing_congr rfl

theorem LotStore.standing_placed {a b : Sec} (hv : b.val = a.val + 1)
    (h : (ls.standing t).map Prod.fst = some (if a = 5 then .done else .onRail)) :
    (if b = 5 then (ls.placed t b).present t else ls.placed t b).standing t = some (.arriving b, some b) ∧
    ∀ x, x ≠ t → (if b = 5 then (ls.placed t b).present t else ls.placed t b).standing x = ls.standing x := by
  rw [Option.map_eq_some_iff] at h
  obtain ⟨⟨st, p⟩, hp, hst⟩ := h
  obtain ⟨r, hr, rfl, -⟩ := LotStore.standing_some.mp hp
  have hplaced : (ls.placed t b).trains.get t = some (if b = 6 then { r with state := .leaving, sec := some b }
      else { r with sec := some b }) := by
    simp only [LotStore.placed, LotStore.onTrain_trains, Tbl.get_modify_self, hr, Option.map_some]
  have hne : ∀ x, x ≠ t → (ls.placed t b).standing x = ls.standing x := fun x hx => LotStore.standing_onTrain_ne hx
  by_cases h5 : b = 5
  · subst h5
    rw [if_pos rfl]
    rw [LotStore.standing_present]
    exact ⟨LotStore.standing_onTrain_self hplaced, fun x hx => (LotStore.standing_onTrain_ne hx).trans (hne x hx)⟩
  · rw [if_neg h5]
    refine ⟨?_, hne⟩
    unfold LotStore.standing
    rw [hplaced, TrainState.arriving, if_neg h5]
    by_cases h6 : b = 6
    · rw [if_pos h6, if_pos h6]; rfl
    · have ha : a ≠ 5 := by rintro rfl; exact h6 (Fin.ext hv)
      rw [if_neg ha] at hst
      have hst : r.state = .onRail := hst
      rw [if_neg h6, if_neg h6, Option.map_some, hst]

end

/-! ## The trains' deeds -/

/-- The rail agrees with itself and with the trains of the part. -/
abbrev State.WholeRail (s : State) : Prop := s.rail.Whole s.lots.standing

section
variable {s : State} {t tag : Nat}

theorem State.WholeRail.misorder_at (h : s.WholeRail) (ht : s.lots.trainState t = some .misorder) :
    s.rail.secs[(0 : Sec)].occupant = some t := by
  obtain ⟨p, hp⟩ := LotStore.trainState_some ht
  have hs := h.sited.trains t _ p hp
  cases p with
  | none => cases hs
  | some k =>
    obtain ⟨ho, hk⟩ := hs
    obtain rfl : k = 0 := hk
    exact ho

theorem State.WholeRail.announced_nowhere (h : s.WholeRail) (ht : s.lots.trainState t = some .announced) :
    s.lots.standing t = some (.announced, none) := by
  obtain ⟨p, hp⟩ := LotStore.trainState_some ht
  cases p with
  | none => exact hp
  | some k => exact (h.sited.trains t _ _ hp).2.elim

theorem Rail.conveys_not_state {r : Rail} {f : Standing} {k : Sec} {st : TrainState} {p : Option Sec}
    (ho : r.secs[k].occupant = some t) (hf : f t = some (st, p)) (hs : st ≠ .onRail) (hd : st ≠ .done) : ¬ r.Conveys f k := by
  rintro ⟨t', ht', hst⟩
  obtain rfl := Option.some.inj (ho.symm.trans ht')
  rw [hf] at hst
  have hst := Option.some.inj hst
  split_ifs at hst
  · exact hd hst
  · exact hs hst

/-- A MISORDER train admitted (R15, R27). -/
theorem State.WholeRail.admitHeld (h : s.WholeRail) (ht : s.lots.trainState t = some .misorder) : (s.admitAt t).WholeRail := by
  have ho := h.misorder_at ht
  obtain ⟨p, hp⟩ := LotStore.trainState_some ht
  obtain ⟨hft, hf⟩ := LotStore.standing_admitTrain hp
  exact Rail.Whole.admitted h (h.intake.not_waiting (.inr (.inl (by rw [ho]; exact nofun))))
    (Rail.conveys_not_state ho hp nofun nofun) (fun hb => h.sited.intake_recorded hb (by rw [ho]; exact nofun))
    (w := s.admitting t) rfl hft hf (fun x hx => Option.some.inj (hx.symm.trans ho))
    fun j hj => h.sited.not_elsewhere (st := .misorder) (.inr ho) hj

/-- The admission decision, at an INTAKE whose occupant is unknown, or at one CLEAR (R26, R27). -/
theorem State.WholeRail.decide (h : s.WholeRail) (hd : s.rail.adm = .waitTag ∨
    (s.rail.heldTag = some tag ∧ s.rail.secs[(0 : Sec)].cond = .clear ∧ s.rail.slotAt 0 = none) ∨
    (s.rail.unknownTag = some tag ∧ s.lots.trainState tag = some .announced)) : (s.decideAdmission tag).WholeRail := by
  have he : (s.mapRail Rail.endWait).WholeRail := Rail.Whole.endWait h
  have ho : s.rail.secs[(0 : Sec)].occupant = none := by
    rcases hd with ha | ⟨-, hc, -⟩ | ⟨hu, -⟩
    · exact (h.intake.fresh ha).2.1
    · exact (h.sited.secs 0).emptied (.inl hc)
    · exact (h.intake.unknown (by rw [hu]; rfl)).1
  have hrec : s.rail.secs[(0 : Sec)].cond = .blocked → s.rail.stalls[(0 : Sec)].isSome = true := fun hb => by
    rcases hd with ha | ⟨-, hc, -⟩ | ⟨hu, -⟩
    · rw [(h.intake.fresh ha).1] at hb; cases hb
    · rw [hc] at hb; cases hb
    · rcases (h.intake.unknown (by rw [hu]; rfl)).2 with hc | ⟨-, hs⟩
      · rw [hc] at hb; cases hb
      · exact hs
  have hn : ¬ s.rail.Conveys s.lots.standing 0 := Rail.conveys_not_empty ho
  have hocc : ∀ x, s.rail.secs[(0 : Sec)].occupant = some x → x = tag := fun x hx => by rw [ho] at hx; cases hx
  rw [State.decideAdmission_eq]
  by_cases ht : s.lots.trainState tag = some .announced
  · have hp := h.announced_nowhere ht
    have hnot : ∀ j : Sec, j ≠ 0 → s.rail.secs[j].occupant ≠ some tag := fun j hj => h.sited.not_elsewhere (.inl hp) hj
    rw [LotStore.admission, if_pos ht]
    split_ifs with hq
    · obtain ⟨hft, hf⟩ := LotStore.standing_admitTrain hp
      exact Rail.Whole.admitted he nofun hn hrec (w := (s.mapRail Rail.endWait).admitting tag) rfl hft hf hocc hnot
    · obtain ⟨hft, hf⟩ := LotStore.standing_misorder hp
      exact Rail.Whole.misordered he nofun hn hrec hft hf hocc hnot
  · rw [LotStore.admission_unknown ht]
    have hc : s.rail.secs[(0 : Sec)].cond ≠ .blocked := fun hb => by
      rcases hd with ha | ⟨-, hc, -⟩ | ⟨-, ha⟩
      · rw [(h.intake.fresh ha).1] at hb; cases hb
      · rw [hc] at hb; cases hb
      · exact ht ha
    have hst : s.rail.stalls[(0 : Sec)] = none := Option.eq_none_iff_forall_ne_some.mpr fun st e =>
      hc ((h.sited.secs 0).recorded e)
    refine Rail.Whole.strange he (he.sited.intake_alone ho ?_ fun st e => ?_) ho hst ?_ (fun j hj => ⟨get_set_ne _ _ hj, rfl⟩)
      rfl ⟨rfl, rfl, rfl⟩ ⟨rfl, rfl⟩ ?_ ?_ (fun _ => rfl) nofun
    · rcases hd with ha | ⟨-, hc, -⟩ | ⟨-, ha⟩
      · exact .inr (h.intake.fresh ha).2.2.1
      · exact .inl hc
      · exact absurd ha ht
    · exact absurd (hst.symm.trans e) nofun
    · have e : (((s.mapRail Rail.endWait).unknownAt tag).rail).secs[(0 : Sec)] =
          { s.rail.secs[(0 : Sec)] with cond := .occupied, occupant := none } := get_set_self ..
      rw [e]
      exact ⟨rfl, rfl⟩
    · simp [State.unknownAt, Rail.occupy, Rail.onSec, Rail.endWait, State.mapRail]
    · simp [State.unknownAt, Rail.occupy, Rail.onSec, Rail.endWait, State.mapRail]

end

end Sys2Proof.Machine

/-!
The remaining deeds on a consistent rail: moves and ejects completed, departures, records settled, fault reports, time, and the
Lot Store's own operations.
-/

namespace Sys2Proof.Machine

section
variable {s s' : State} {t : Nat} {k b : Sec} {i : Fin 3} {m : Move} {st : Stall}

/-! ## Trains conveyed, ejected and departed -/

section
variable {r : Rail} {f : Standing} {a : Sec}

theorem Rail.occupied_sec (x : Option Nat) : ((r.clearSec a).occupy b x).secs[b].cond = .occupied ∧
    ((r.clearSec a).occupy b x).secs[b].occupant = x := by
  have e : ((r.clearSec a).occupy b x).secs[b] = { (r.clearSec a).secs[b] with cond := .occupied, occupant := x } := get_set_self ..
  rw [e]
  exact ⟨rfl, rfl⟩

theorem Rail.occupied_ne (x : Option Nat) {j : Sec} (h : j ≠ b) : ((r.clearSec a).occupy b x).secs[j] = (r.clearSec a).secs[j] :=
  get_set_ne _ _ h

/-- Clearing a section and occupying another touches INTAKE's tag and eject only where INTAKE is cleared. -/
theorem Rail.clearSec_keeps (h : a ≠ 0) : (r.clearSec a).unknownTag = r.unknownTag ∧ (r.clearSec a).ejectPending = r.ejectPending := by
  rw [Rail.clearSec_ne h]
  exact ⟨rfl, rfl⟩

theorem Rail.occupied_slots (x : Option Nat) : ((r.clearSec a).occupy b x).slots = r.slots := Rail.clearSec_slots

/-- A train that has arrived: its move or its record is gone. -/
theorem Rail.Whole.arrived {f' : Standing} (h : r.Whole f) (hv : b.val = a.val + 1) (hX : r.Closed fun j => j = a ∨ j = b)
    (hoa : r.secs[a].occupant = some t) (hob : r.secs[b].occupant = none) {w : Vector (Option Stall) 7}
    (hst : w[a] = none ∧ w[b] = none) (hst' : ∀ j : Sec, ¬ (j = a ∨ j = b) → w[j] = r.stalls[j]) {v : Vector (Option Move) 3}
    (hfree : ∀ (i : Fin 3) m, v[i] = some m ↔ r.slots[i] = some m ∧ ¬ (m.source = a ∨ m.source = b))
    (hft : f' t = some (.arriving b, some b)) (hf : ∀ x, x ≠ t → f' x = f x) :
    ({ (({ r with stalls := w } : Rail).clearSec a).occupy b (some t) with slots := v } : Rail).Whole f' := by
  have hab : a ≠ b := ne_of_next hv
  obtain ⟨r₀, hr₀⟩ : ∃ r₀ : Rail, r₀ = { r with stalls := w } := ⟨_, rfl⟩
  have hsa : ((r₀.clearSec a).occupy b (some t)).secs[a] = { r₀.secs[a] with cond := .clear, occupant := none } :=
    (Rail.occupied_ne _ hab).trans Rail.clearSec_sec
  rw [← hr₀]
  refine h.conveyed (st := .arriving b) hv hX hoa hob ⟨?_, ?_, fun j m' hm' => ⟨m', ((hfree j m').mp hm').1, rfl, rfl⟩⟩
    ?_ ⟨(congrArg SecRec.cond hsa).trans rfl, (congrArg SecRec.occupant hsa).trans rfl⟩
    (Rail.occupied_sec _) ?_ (fun j hj => ?_) hfree (fun e => by subst e; exact ⟨rfl, rfl⟩) (fun e => ?_) hft
    (TrainState.arriving_stands b) hf
  · exact hr₀ ▸ (Rail.clearSec_rest (r := r₀) (k := a)).gate
  · exact hr₀ ▸ (Rail.clearSec_rest (r := r₀) (k := a)).hold
  · exact hr₀ ▸ Rail.clearSec_wait (r := r₀) (k := a)
  · show (r₀.clearSec a).stalls[a] = none ∧ (r₀.clearSec a).stalls[b] = none
    rw [Rail.clearSec_stalls, hr₀]
    exact hst
  · obtain ⟨hja, hjb⟩ := not_or.mp hj
    refine ⟨(Rail.occupied_ne _ hjb).trans ((Rail.clearSec_sec_ne hja).trans (by rw [hr₀])), ?_⟩
    show (r₀.clearSec a).stalls[j] = _
    rw [Rail.clearSec_stalls, hr₀]
    exact hst' j hj
  · exact hr₀ ▸ Rail.clearSec_keeps (r := r₀) e

end

theorem State.carried_rail (x : Option Nat) (a b : Sec) : (s.carried x a b).rail = (s.rail.clearSec a).occupy b x := by
  cases x with
  | none => rfl
  | some n => unfold State.carried; dsimp only; split <;> rfl

theorem State.carried_lots (t : Nat) (a b : Sec) : (s.carried (some t) a b).lots =
    if b = 5 then (s.lots.placed t b).present t else s.lots.placed t b := by
  unfold State.carried; dsimp only; split <;> rfl

/-- A forward move completed (R33, R35). -/
theorem State.WholeRail.moved (h : s.WholeRail) (hm : s.rail.slots[i] = some m) (hd : m.dest = .sec b) :
    (((s.onRail fun w => w.haltAll m.chans).carried m.train m.source b).mapRail fun r => r.freeMove i).WholeRail := by
  have hok := h.sited.moves i m hm
  obtain ⟨hv, hres, t, ht, hft⟩ := hok.onward b hd
  have hmt : m.train = some t := hok.train.trans ht
  have hob : s.rail.secs[b].occupant = none := (h.sited.secs b).emptied (.inr hres)
  have hrail : (s.onRail fun w => w.haltAll m.chans).rail = s.rail := RailWork.haltAll_rail (w := s.work) m.chans
  have hnone : ∀ j : Sec, s.rail.secs[j].cond ≠ .blocked → s.rail.stalls[j] = none := fun j hj =>
    Option.eq_none_iff_forall_ne_some.mpr fun st e => hj ((h.sited.secs j).recorded e)
  obtain ⟨hto, hother⟩ := LotStore.standing_placed (ls := s.lots) hv hft
  show ((((s.onRail fun w => w.haltAll m.chans).carried m.train m.source b).rail).freeMove i).Whole
    ((s.onRail fun w => w.haltAll m.chans).carried m.train m.source b).lots.standing
  rw [hmt, State.carried_rail, State.carried_lots, hrail, Rail.freeMove, Rail.occupied_slots]
  refine Rail.Whole.arrived (w := s.rail.stalls) (v := s.rail.slots.set i none) h hv (h.sited.closed_of_move hm hd) ht hob
    ⟨hnone _ (by rw [hok.source]; nofun), hnone _ (by rw [hres]; nofun)⟩ (fun _ _ => rfl)
    (fun j m' => ?_) hto hother
  refine Rail.set_slot_none.trans (and_congr_right fun hm' => (h.sited.freed hm hm').trans ?_)
  refine ⟨fun hs hx => hx.elim hs fun e => ?_, fun hx e => hx (.inl e)⟩
  have hsrc := (h.sited.moves j m' hm').source
  simp only [e, hres] at hsrc
  cases hsrc

/-- A stalled train found at the section it was conveyed to (R48). -/
theorem State.WholeRail.arriveMove (h : s.WholeRail) (hst : s.rail.stalls[k] = some st) (hd : st.dest = some (.sec b)) :
    ((s.mapRail fun r => r.dropStall k).carried st.train k b).WholeRail := by
  have hrec := (h.sited.secs k).stalled st hst
  obtain ⟨hv, hcb, hob, hnb, t, ht, hft⟩ := hrec.onward b hd
  obtain ⟨hto, hother⟩ := LotStore.standing_placed (ls := s.lots) hv hft
  have hmt : st.train = some t := hrec.train.trans ht
  show ((s.mapRail fun r => r.dropStall k).carried st.train k b).rail.Whole
    ((s.mapRail fun r => r.dropStall k).carried st.train k b).lots.standing
  rw [hmt, State.carried_rail, State.carried_lots]
  have hkb : k ≠ b := ne_of_next hv
  have e := Rail.Whole.arrived (w := s.rail.stalls.set k none) (v := s.rail.slots) h hv (h.sited.closed_of_record hst hd) ht hob
    ⟨get_set_self .., (get_set_ne _ _ hkb.symm).trans hnb⟩ (fun j hj => get_set_ne _ _ (not_or.mp hj).1) (fun j m' => ?_) hto hother
  · have hsl := Rail.occupied_slots (r := s.rail.dropStall k) (a := k) (b := b) (some t)
    have hsl' : (((s.rail.dropStall k).clearSec k).occupy b (some t)) =
        { ((s.rail.dropStall k).clearSec k).occupy b (some t) with slots := (s.rail.dropStall k).slots } := by rw [← hsl]
    exact (congrArg (fun r => Rail.Whole r _) hsl').mpr e
  · refine ⟨fun hm => ⟨hm, fun hx => ?_⟩, And.left⟩
    rcases hx with e | e
    · exact (Move.not_touches.mp (h.sited.touches_blocked hrec.cond hm)).1 e
    · exact (Move.not_touches.mp (h.sited.touches_blocked hcb hm)).1 e

end

end Sys2Proof.Machine

/-!
Ejects and departures, and the records of one section settled, on a consistent rail (R13, R29, R38, R47 to R50).
-/

namespace Sys2Proof.Machine

section
variable {r : Rail} {f f' : Standing} {k : Sec} {t : Nat}

/-! ## An occupant gone -/

/-- INTAKE emptied of an ejected occupant: its move or its record is gone. -/
theorem Rail.Whole.emptied (h : r.Whole f) (he : r.Ejects f) {w : Vector (Option Stall) 7} (hst : w[(0 : Sec)] = none)
    (hst' : ∀ j : Sec, j ≠ 0 → w[j] = r.stalls[j]) {v : Vector (Option Move) 3}
    (hfree : ∀ (i : Fin 3) m, v[i] = some m ↔ r.slots[i] = some m ∧ m.source ≠ 0)
    (hf : ∀ x, r.secs[(0 : Sec)].occupant ≠ some x → f' x = f x)
    (hgone : ∀ x, r.secs[(0 : Sec)].occupant = some x → f' x = some (.announced, none)) :
    ({ ({ r with stalls := w } : Rail).clearSec 0 with slots := v } : Rail).Whole f' := by
  have hsec := Rail.clearSec_sec (r := { r with stalls := w }) (k := 0)
  refine h.vacated (h.sited.intake_closed he.not_conveys) (by decide) ⟨⟨rfl, rfl, rfl⟩, ⟨rfl, rfl⟩, fun j m hm =>
    ⟨m, ((hfree j m).mp hm).1, rfl, rfl⟩⟩ ⟨rfl, rfl, rfl⟩ ⟨(congrArg SecRec.cond hsec).trans rfl,
    (congrArg SecRec.occupant hsec).trans rfl⟩ hst (fun j hj => ⟨Rail.clearSec_sec_ne hj, hst' j hj⟩) hfree
    (fun _ => ⟨rfl, rfl, he.not_waiting h.intake⟩) (fun e => absurd rfl e) hf fun x st p hx e => ?_
  rw [hgone x hx] at e
  cases e
  exact ⟨rfl, rfl⟩

end

section
variable {s : State} {t : Nat} {k : Sec} {i : Fin 3} {m : Move} {st : Stall}

/-- The trains once INTAKE's occupant is ejected (R29). -/
theorem State.intakeEmptied_lots : s.intakeEmptied.lots = (s.rail.secs[(0 : Sec)].occupant).elim s.lots s.lots.ejected := by
  unfold State.intakeEmptied
  dsimp only
  split <;> (next h => rw [h]; rfl)

theorem State.intakeEmptied_rail : s.intakeEmptied.rail = s.rail.clearSec 0 := by
  unfold State.intakeEmptied
  dsimp only
  split <;> rfl

theorem State.standing_emptied (he : s.rail.Ejects s.lots.standing) :
    (∀ x, s.rail.secs[(0 : Sec)].occupant ≠ some x → s.intakeEmptied.lots.standing x = s.lots.standing x) ∧
    ∀ x, s.rail.secs[(0 : Sec)].occupant = some x → s.intakeEmptied.lots.standing x = some (.announced, none) := by
  rw [State.intakeEmptied_lots]
  rcases he with ⟨t, ht, hst⟩ | ⟨hn, -⟩
  · rw [ht]
    rw [← LotStore.trainState_standing] at hst
    obtain ⟨p, hp⟩ := LotStore.trainState_some hst
    obtain ⟨hto, hother⟩ := LotStore.standing_ejected hp
    exact ⟨fun x hx => hother x fun e => hx (congrArg some e.symm), fun x hx => Option.some.inj hx ▸ hto⟩
  · rw [hn]
    exact ⟨fun _ _ => rfl, nofun⟩

/-- An eject completed (R29). -/
theorem State.WholeRail.ejected (h : s.WholeRail) (hm : s.rail.slots[i] = some m) (hd : m.dest = .out) :
    (s.completeEject i m).WholeRail := by
  have hok := h.sited.moves i m hm
  obtain ⟨hs0, he⟩ := hok.out hd
  have hc0 : s.rail.secs[(0 : Sec)].cond = .occupied := by have := hok.source; simpa only [hs0] using this
  have hrail : (s.onRail fun w => w.haltAll m.chans).rail = s.rail := RailWork.haltAll_rail (w := s.work) m.chans
  obtain ⟨hf, hgone⟩ := State.standing_emptied (s := s.onRail fun w => w.haltAll m.chans) (by rw [hrail]; exact he)
  rw [hrail] at hf hgone
  show ((s.onRail fun w => w.haltAll m.chans).intakeEmptied.rail.freeMove i).Whole
    (s.onRail fun w => w.haltAll m.chans).intakeEmptied.lots.standing
  rw [State.intakeEmptied_rail, hrail]
  refine Rail.Whole.emptied (w := s.rail.stalls) (v := s.rail.slots.set i none) h he ?_ (fun _ _ => rfl) (fun j m' => ?_) hf hgone
  · exact Option.eq_none_iff_forall_ne_some.mpr fun st e => absurd (hc0.symm.trans ((h.sited.secs 0).recorded e)) nofun
  · exact Rail.set_slot_none.trans (and_congr_right fun hm' => (h.sited.freed hm hm').trans (by rw [hs0]))

/-- A stalled eject whose occupant is gone (R48). -/
theorem State.WholeRail.emptyEject (h : s.WholeRail) (hst : s.rail.stalls[k] = some st) (hd : st.dest = some .out)
    (he : s.intakeEjectable = true) : (s.mapRail fun r => r.dropStall 0).intakeEmptied.WholeRail := by
  have he := State.ejectable_iff.mp he
  have hrec := (h.sited.secs k).stalled st hst
  obtain rfl : k = 0 := hrec.out hd
  obtain ⟨hf, hgone⟩ := State.standing_emptied (s := s.mapRail fun r => r.dropStall 0) (he.same rfl rfl fun _ _ => rfl)
  show ((s.mapRail fun r => r.dropStall 0).intakeEmptied.rail).Whole _
  rw [State.intakeEmptied_rail]
  exact Rail.Whole.emptied (w := s.rail.stalls.set (0 : Sec) none) (v := s.rail.slots) h he (get_set_self ..)
    (fun j hj => get_set_ne _ _ hj)
    (fun j m' => ⟨fun hm => ⟨hm, (Move.not_touches.mp (h.sited.touches_blocked hrec.cond hm)).1⟩, And.left⟩) hf hgone

theorem State.leavingTrain_some (ht : s.leavingTrain = some t) : s.rail.secs[(6 : Sec)].occupant = some t ∧
    s.rail.secs[(6 : Sec)].cond = .occupied ∧ s.lots.trainState t = some .leaving := by
  unfold State.leavingTrain at ht
  split at ht
  · next x hx =>
    split_ifs at ht with hc
    obtain rfl := Option.some.inj ht
    exact ⟨hx, hc⟩
  · cases ht

/-- A train departed (R13, R38). -/
theorem State.WholeRail.departed (h : s.WholeRail) (ht : s.leavingTrain = some t) (hk : s.rail.slotAt 6 = none) :
    (s.departure t).WholeRail := by
  obtain ⟨ho, hc, hst⟩ := State.leavingTrain_some ht
  obtain ⟨p, hp⟩ := LotStore.trainState_some hst
  obtain ⟨hto, hother⟩ := LotStore.standing_depart hp
  have ha := h.sited.alone_of_free (by rw [hc]; nofun) hk
  have hsec : (s.rail.clearSec 6).secs[(6 : Sec)] = _ := Rail.clearSec_sec
  show (s.rail.clearSec 6).Whole (s.lots.depart t).standing
  refine Rail.Whole.vacated (k := 6) h ha.closed (by decide) Rail.clearSec_rest Rail.clearSec_wait
    ⟨(congrArg SecRec.cond hsec).trans rfl, (congrArg SecRec.occupant hsec).trans rfl⟩ ?_
    (fun j hj => ⟨Rail.clearSec_sec_ne hj, by rw [Rail.clearSec_stalls]⟩) (fun j m' => ?_) (fun e => absurd e (by decide))
    (fun _ => Rail.clearSec_keeps (by decide)) (fun x hx => hother x fun e => hx (e ▸ ho)) fun x st p hx e => ?_
  · rw [Rail.clearSec_stalls]
    exact Option.eq_none_iff_forall_ne_some.mpr fun st e => absurd (hc.symm.trans ((h.sited.secs 6).recorded e)) nofun
  · rw [Rail.clearSec_slots]
    exact ⟨fun hm => ⟨hm, (Move.not_touches.mp (ha.moves j m' hm)).1⟩, And.left⟩
  · obtain rfl := Option.some.inj (ho.symm.trans hx)
    rw [hto] at e
    cases e

/-! ## Records of one section settled -/

theorem State.WholeRail.record_alone (h : s.WholeRail) (hst : s.rail.stalls[k] = some st) (hd : ∀ b, st.dest ≠ some (.sec b)) :
    s.rail.Alone k ∧ s.rail.RecOk s.lots.standing k st :=
  ⟨h.sited.alone_of_lone hst hd, (h.sited.secs k).stalled st hst⟩

theorem State.WholeRail.ejectSettled (h : s.WholeRail) (hst : s.rail.stalls[k] = some st) (hd : st.dest = some .out) {pend : Bool}
    (hp : pend = true → s.intakeEjectable = true) :
    (s.mapRail fun r => { (r.dropStall k).reoccupy k with ejectPending := pend }).WholeRail := by
  obtain ⟨ha, hrec⟩ := h.record_alone hst fun b => by rw [hd]; nofun
  obtain rfl : k = 0 := hrec.out hd
  have hw : s.rail.adm ≠ .waitTag := h.intake.not_waiting (.inl (by rw [hrec.cond]; nofun))
  refine Rail.Whole.pending (Rail.Whole.reoccupied h ha) (fun e => ?_) hw
  exact (State.ejectable_iff.mp (hp e)).same ((congrArg SecRec.occupant Rail.reoccupied_sec).trans rfl) rfl fun _ _ => rfl

theorem State.WholeRail.resolveEject (h : s.WholeRail) (hst : s.rail.stalls[k] = some st) (hd : st.dest = some .out) :
    (s.mapRail fun r => { (r.dropStall 0).reoccupy 0 with ejectPending := false }).WholeRail := by
  obtain ⟨-, hrec⟩ := h.record_alone hst fun b => by rw [hd]; nofun
  obtain rfl : k = 0 := hrec.out hd
  exact h.ejectSettled hst hd nofun

theorem State.WholeRail.settleGate (h : s.WholeRail) (hst : s.rail.stalls[k] = some st) (hd : st.dest = none) (hc : st.cause ≠ .sensor) :
    (s.mapRail fun r => (r.dropStall k).presentKept).WholeRail := by
  obtain ⟨ha, hrec⟩ := h.record_alone hst fun b => by rw [hd]; nofun
  obtain rfl : k = 5 := (hrec.lone hd).resolve_left hc
  show ((s.rail.dropStall 5).presentKept).Whole _
  unfold Rail.presentKept
  split_ifs with ho
  · exact Rail.Whole.reoccupied h ha
  · exact Rail.Whole.cleared h ha hrec.cond (Option.not_isSome_iff_eq_none.mp ho)

theorem Rail.occupy_kept {r : Rail} (ht : r.secs[k].occupant = some t) : (r.dropStall k).occupy k (some t) =
    (r.dropStall k).reoccupy k := by
  unfold Rail.occupy Rail.reoccupy Rail.onSec
  rw [show (r.dropStall k).secs = r.secs from rfl, ← ht]

theorem State.WholeRail.settleEdge (h : s.WholeRail) (hst : s.rail.stalls[k] = some st) (hd : st.dest = none)
    (ht : st.train = some t) : (s.mapRail fun r => (r.dropStall k).occupy k (some t)).WholeRail := by
  obtain ⟨ha, hrec⟩ := h.record_alone hst fun b => by rw [hd]; nofun
  show ((s.rail.dropStall k).occupy k (some t)).Whole _
  rw [Rail.occupy_kept (hrec.train.symm.trans ht)]
  exact Rail.Whole.reoccupied h ha

theorem State.WholeRail.unknownEdge (h : s.WholeRail) (hst : s.rail.stalls[(0 : Sec)] = some st) (hd : st.dest = none)
    (ht : st.train = none) :
    (s.mapRail fun r => { (r.dropStall 0).reoccupy 0 with unknownTag := some (r.unknownTag.getD 0) }).WholeRail := by
  obtain ⟨ha, hrec⟩ := h.record_alone hst fun b => by rw [hd]; nofun
  have ho : s.rail.secs[(0 : Sec)].occupant = none := hrec.train.symm.trans ht
  have hsec := Rail.reoccupied_sec (r := s.rail) (k := 0)
  have hw : s.rail.adm ≠ .waitTag := h.intake.not_waiting (.inl (by rw [hrec.cond]; nofun))
  exact Rail.Whole.strange h ha ho (get_set_self ..) ⟨(congrArg SecRec.cond hsec).trans rfl,
    (congrArg SecRec.occupant hsec).trans ho⟩ (fun j hj => Rail.reoccupied_ne hj) rfl ⟨rfl, rfl, rfl⟩ ⟨rfl, rfl⟩
    h.intake.wait h.intake.held (fun _ => rfl) fun e => absurd e hw

theorem State.WholeRail.clearEdge (h : s.WholeRail) (hst : s.rail.stalls[k] = some st) (hd : st.dest = none)
    (ht : st.train = none) : (s.mapRail fun r => (r.dropStall k).clearSec k).WholeRail := by
  obtain ⟨ha, hrec⟩ := h.record_alone hst fun b => by rw [hd]; nofun
  exact Rail.Whole.cleared h ha hrec.cond (hrec.train.symm.trans ht)

theorem State.WholeRail.clearSection (h : s.WholeRail) (hb : s.rail.secs[k].cond = .blocked) (hn : s.rail.stallNames k = false) :
    (s.mapRail fun r => r.clearSec k).WholeRail := by
  obtain ⟨ha, hst⟩ := h.sited.alone_of_unnamed hb hn
  have e := Rail.Whole.cleared h ha hb ((h.sited.secs k).unnamed hb hn)
  rwa [Rail.dropStall_none hst] at e

/-! ## Arrivals at INTAKE -/

theorem State.WholeRail.waitTag (h : s.WholeRail) (hc : s.rail.secs[(0 : Sec)].cond = .clear) (hk : s.rail.slotAt 0 = none) :
    (s.mapRail fun r =>
      { r.occupy 0 none with adm := .waitTag, heldTag := none, admTimer := some Config.tagWait }).WholeRail := by
  have ha := h.sited.alone_of_free (by rw [hc]; nofun) hk
  have ho := (h.sited.secs 0).emptied (.inl hc)
  have hsec : (s.rail.occupy 0 none).secs[(0 : Sec)] = { s.rail.secs[(0 : Sec)] with cond := .occupied, occupant := none } :=
    get_set_self ..
  have hu : s.rail.unknownTag = none := Option.not_isSome_iff_eq_none.mp fun e => by
    rcases (h.intake.unknown e).2 with e | ⟨e, -⟩ <;> exact absurd (hc.symm.trans e) nofun
  have hp : s.rail.ejectPending = true → False := fun e => by
    rcases h.intake.eject e with ⟨x, hx, -⟩ | ⟨-, hx⟩
    · rw [ho] at hx; cases hx
    · rw [hu] at hx; cases hx
  exact Rail.Whole.strange h ha ho (Option.eq_none_iff_forall_ne_some.mpr fun st e =>
      absurd (hc.symm.trans ((h.sited.secs 0).recorded e)) nofun)
    ⟨(congrArg SecRec.cond hsec).trans rfl, (congrArg SecRec.occupant hsec).trans rfl⟩
    (fun j hj => ⟨get_set_ne _ _ hj, rfl⟩) rfl ⟨rfl, rfl, rfl⟩ ⟨rfl, rfl⟩ (by simp) (by simp) (fun e => (hp e).elim) fun _ => hu

theorem State.WholeRail.holdTag (h : s.WholeRail) (tag : Nat) : (s.mapRail fun r =>
    { r with adm := .waitPresence, heldTag := some tag, admTimer := some Config.tagWait }).WholeRail :=
  Rail.Whole.waits h h.intake.eject (by simp) (by simp) nofun

end

end Sys2Proof.Machine

/-!
The remaining deeds on a consistent rail: time, holds and jogs, fault reports, the Lot Store's own operations, the resets; and
every step.
-/

namespace Sys2Proof.Machine

/-! ## Deeds away from the rail -/

/-- The rail, the Drive Unit and the trains are as they were. -/
structure State.OffRail (s t : State) : Prop where
  rail : t.rail = s.rail
  drive : t.drive = s.drive
  trains : t.lots.trains = s.lots.trains

section
variable {s t u : State}

theorem State.OffRail.refl (s : State) : s.OffRail s := ⟨rfl, rfl, rfl⟩
theorem State.OffRail.keep (h : s.OffRail t) (hr : u.rail = t.rail) (hd : u.drive = t.drive) (ht : u.lots.trains = t.lots.trains) :
    s.OffRail u := ⟨hr.trans h.rail, hd.trans h.drive, ht.trans h.trains⟩
theorem State.OffRail.trans (h : s.OffRail t) (h' : t.OffRail u) : s.OffRail u := h.keep h'.rail h'.drive h'.trains
theorem State.OffRail.onLots (h : s.OffRail t) (f : LotStore → LotStore) (hf : (f t.lots).trains = t.lots.trains) :
    s.OffRail (t.onLots f) := h.keep rfl rfl hf
theorem State.OffRail.onClock (h : s.OffRail t) (f : Clock → Clock) : s.OffRail (t.onClock f) := h.keep rfl rfl rfl
theorem State.OffRail.setClock (h : s.OffRail t) (st : ClockState) (r : Option HaltReason) : s.OffRail (t.setClock st r) :=
  h.keep (by simp) (by simp) (by simp)
theorem State.OffRail.answer (h : s.OffRail t) (a : SeatAddr) (c : AnswerCode) (v : Nat) : s.OffRail (t.answer a c v) :=
  h.keep rfl rfl rfl

theorem State.OffRail.wholeRail (h : s.OffRail t) (hs : s.WholeRail) : t.WholeRail := by
  unfold State.WholeRail
  rw [h.rail, LotStore.standing_congr h.trains]
  exact hs

theorem State.offRail_settleRecord (s : State) (r : Purchase) : s.OffRail (s.settleRecord r) := ⟨by simp, by simp, by simp⟩
theorem State.offRail_dropHead (s : State) : s.OffRail s.dropHead := ⟨by simp, by simp, by simp⟩

theorem State.offRail_voidRecord (s : State) (r : Purchase) : s.OffRail (s.voidRecord r) := by
  refine ⟨by simp, by simp, ?_⟩
  rw [State.voidRecord_lots]
  split
  · rfl
  · exact LotStore.giveBack_trains ..

theorem State.offRail_beginSegment (s : State) (k : SegmentKind) : s.OffRail (s.beginSegment k) := by
  refine ⟨by simp, by simp, ?_⟩
  rw [State.beginSegment_lots]
  cases s.clock.lot <;> rfl

theorem State.offRail_onCurrent (s : State) (f : Nat → LotStore → LotStore) (hf : ∀ n ls, (f n ls).trains = ls.trains) :
    s.OffRail (match s.clock.lot with | some n => s.onLots (f n) | none => s) := by
  split
  · exact (State.OffRail.refl s).onLots _ (hf _ _)
  · exact .refl s

theorem State.offRail_restart (s : State) (l : Lot) : s.OffRail (s.restart l) := by
  unfold State.restart
  dsimp only
  have h := s.offRail_onCurrent (fun n ls => ls.onLot n fun e => { e with restartsUsed := e.restartsUsed + 1 }) fun _ _ => rfl
  exact (h.onClock _).trans (State.offRail_beginSegment _ _)

theorem State.offRail_enterShowing (s : State) (k : ShowingKind) : s.OffRail (s.enterShowing k) :=
  ((State.OffRail.refl s).onClock _).setClock _ _

theorem State.offRail_insertPress (s : State) (x : Contender) : s.OffRail (s.insertPress x) := by
  unfold State.insertPress
  dsimp only
  split
  · exact (State.OffRail.refl s).onClock _
  · exact ((State.OffRail.refl s).onClock _).answer _ _ _

theorem State.OffRail.answerLate (h : s.OffRail t) (xs : List Contender) : s.OffRail (t.answerLate xs) := by
  induction xs generalizing t with
  | nil => exact h
  | cons x xs ih => exact ih (h.answer ..)

theorem State.offRail_append (s : State) (r : BitVec 32 → Purchase) : s.OffRail (s.append r) := by
  unfold State.append State.raiseLogFull
  dsimp only
  split_ifs <;> exact ⟨rfl, rfl, rfl⟩

theorem State.offRail_closeWon (s : State) (n : Nat) (x : Contender) (after : List Contender) (u p : Nat) (a : Amounts) :
    s.OffRail (s.closeWon n x after u p a) := by
  have h : s.OffRail (((s.append (purchaseOf s.clock n x u p a)).onBuyer x.buyer fun b => b.raisePending a.total).onLots
      fun ls => ls.strike n u p x.buyer) := (s.offRail_append _).keep rfl rfl rfl
  have h3 := (h.answer x.seat .won u).answerLate after
  unfold State.closeWon
  exact .keep (.trans (h3.onClock _) (State.offRail_enterShowing _ _)) rfl rfl rfl

end

/-! ## Deeds of the rail -/

section
variable {r r' : Rail} {f f' : Standing}

/-- The trains' records change away from the sections. -/
theorem Rail.Whole.restand (h : r.Whole f) (hocc : ∀ (k : Sec) t, r.secs[k].occupant = some t → f' t = f t)
    (htr : ∀ t st p, f' t = some (st, p) → f t = some (st, p) ∨ p = none ∧ st = .announced) : r.Whole f' := by
  refine h.change (.of_slots ⟨rfl, rfl, rfl⟩ ⟨rfl, rfl⟩ rfl) ?_ (fun hm => (h.gate.clear hm).1)
    (h.intake.same ⟨rfl, rfl, rfl⟩ rfl rfl rfl (fun t ht => hocc 0 t ht) (.inr (.inl ⟨rfl, rfl⟩)))
  refine h.sited.frame (X := fun _ => False) ⟨fun _ _ => ⟨rfl, rfl, rfl⟩, fun _ _ _ _ _ => Iff.rfl, fun i => ?_, fun _ => rfl,
    fun t k _ ht => hocc k t ht, fun t st p htp => (htr t st p htp).imp (fun e => ⟨e, fun _ _ => id⟩) .inl⟩
    (fun _ _ _ hi => hi.1.elim) (fun _ _ _ _ _ _ hi => hi.1.elim) fun _ hk => hk.elim
  cases hm : r.slots[i] with
  | none => exact .inr ⟨nofun, nofun⟩
  | some m => exact .inl ⟨m, m, rfl, rfl, ⟨m.left, rfl⟩, id, fun _ _ => id⟩

/-- A PRESENTED train becomes DONE where it stands. -/
theorem Rail.Whole.done (h : r.Whole f)
    (hf : ∀ t, f' t = f t ∨ ∃ p, f t = some (.presented, p) ∧ f' t = some (.done, p)) : r.Whole f' := by
  have hkeep : ∀ t st, (f t).map Prod.fst = some st → st ≠ .presented → f' t = f t := fun t st ht hst => by
    rcases hf t with e | ⟨p, e, -⟩
    · exact e
    · rw [e] at ht
      exact absurd (Option.some.inj ht).symm hst
  have hcon : ∀ k, r.Conveys f k → r.Conveys f' k := by
    rintro k ⟨t, ht, hst⟩
    exact ⟨t, ht, by rw [hkeep t _ hst (by split <;> nofun)]; exact hst⟩
  have heject : r.Ejects f → r.Ejects f' := by
    rintro (⟨t, ht, hst⟩ | hx)
    · exact .inl ⟨t, ht, by rw [hkeep t _ hst nofun]; exact hst⟩
    · exact .inr hx
  refine ⟨⟨fun i m hm => ?_, h.sited.apart, fun k => ?_, fun t st p htp => ?_⟩, h.gate, h.hold,
    ⟨h.intake.unknown, fun e => heject (h.intake.eject e), h.intake.wait, h.intake.held, h.intake.fresh⟩⟩
  · obtain ⟨hs, ht, hon, ho⟩ := h.sited.moves i m hm
    exact ⟨hs, ht, fun b hb => ⟨(hon b hb).1, (hon b hb).2.1, hcon _ (hon b hb).2.2⟩, fun e => ⟨(ho e).1, heject (ho e).2⟩⟩
  · obtain ⟨he, hr, hst, hu, ho⟩ := h.sited.secs k
    refine ⟨he, hr, fun st e => ?_, hu, fun t ht => ?_⟩
    · obtain ⟨hc, htr, hon, hout, hl⟩ := hst st e
      refine ⟨hc, htr, fun b hb => ?_, hout, hl⟩
      obtain ⟨h1, h2, h3, h4, h5⟩ := hon b hb
      exact ⟨h1, h2, h3, h4, hcon _ h5⟩
    · obtain ⟨x, hx⟩ := ho t ht
      rcases hf t with e | ⟨p, e, e'⟩
      · exact ⟨x, e.trans hx⟩
      · rw [hx] at e
        cases e
        exact ⟨.done, e'⟩
  · rcases hf t with e | ⟨q, e, e'⟩
    · exact h.sited.trains t st p (e ▸ htp)
    · rw [e'] at htp
      cases htp
      have hq := h.sited.trains t _ p e
      cases p with
      | none => cases hq
      | some k => exact hq

/-- A change of what no section's agreement reads: the time left of the moves, the timers' counts, the settings. -/
theorem Rail.Whole.alike (h : r.Whole f)
    (hsec : ∀ k : Sec, r'.secs[k].cond = r.secs[k].cond ∧ r'.secs[k].occupant = r.secs[k].occupant) (hst : r'.stalls = r.stalls)
    (hsl : ∀ i : Fin 3, ∃ g : Move → Nat, r'.slots[i] = r.slots[i].map fun m => { m with left := g m })
    (hu : r'.unknownTag = r.unknownTag ∧ r'.ejectPending = r.ejectPending) (hg : r'.gate = r.gate) (hh : r'.hold = r.hold)
    (ha : r'.adm = r.adm ∧ r'.heldTag = r.heldTag) (htimer : r'.gateTimer.isSome = r.gateTimer.isSome ∧
      r'.confirmTimer.isSome = r.confirmTimer.isSome ∧ r'.admTimer.isSome = r.admTimer.isSome) (hj : r'.jog.isSome = r.jog.isSome) :
    r'.Whole f := by
  have hslot : ∀ (i : Fin 3) m, r'.slots[i] = some m → ∃ m₀, r.slots[i] = some m₀ ∧ m₀.Same m := fun i m hm => by
    obtain ⟨g, hi⟩ := hsl i
    rw [hi, Option.map_eq_some_iff] at hm
    obtain ⟨m₀, h₀, rfl⟩ := hm
    exact ⟨m₀, h₀, _, rfl⟩
  have hmoving : r'.gateMoving = r.gateMoving := by unfold Rail.gateMoving; rw [hg]
  have hno : ∀ k, r.slotAt k = none → r'.slotAt k = none := fun k hk => Rail.findSlot_none.mpr fun i m hm => by
    obtain ⟨m₀, h₀, _, rfl⟩ := hslot i m hm
    exact Rail.findSlot_none.mp hk i m₀ h₀
  obtain ⟨ht1, ht2, ht3⟩ := htimer
  refine ⟨?_, ⟨by rw [hmoving, ht2]; exact h.gate.confirm, by rw [hmoving, ht1]; exact h.gate.timer, fun hm => ?_⟩,
    ⟨fun e => ?_, by rw [hj, hh]; exact h.hold.jog⟩, ⟨?_, fun e => ?_, by rw [ha.1, ht3]; exact h.intake.wait,
      by rw [ha.1, ha.2]; exact h.intake.held, ?_⟩⟩
  · refine h.sited.frame (X := fun _ => False) ⟨fun k _ => ⟨(hsec k).1, (hsec k).2, by rw [hst]⟩, fun _ _ _ _ _ => Iff.rfl,
      fun i => ?_, fun _ => hu.1, fun _ _ _ _ => rfl, fun t st p htp => .inl ⟨htp, fun _ _ => id⟩⟩
      (fun _ _ _ hi => hi.1.elim) (fun _ _ _ _ _ _ hi => hi.1.elim) fun _ hk => hk.elim
    obtain ⟨g, hi⟩ := hsl i
    cases hm : r.slots[i] with
    | none => exact .inr ⟨nofun, fun m e => by rw [hi, hm] at e; cases e⟩
    | some m => exact .inl ⟨m, _, rfl, by rw [hi, hm]; rfl, ⟨g m, rfl⟩, id, fun _ _ => id⟩
  · rw [(hsec 5).1]
    exact ⟨(h.gate.clear (hmoving ▸ hm)).1, hno 5 (h.gate.clear (hmoving ▸ hm)).2⟩
  · obtain ⟨hm, hg'⟩ := h.hold.still (hh ▸ e)
    refine ⟨Rail.moving_false.mpr fun i => ?_, hmoving.trans hg'⟩
    obtain ⟨g, hi⟩ := hsl i
    rw [hi, Rail.moving_false.mp hm i]
    rfl
  · rw [hu.1, (hsec 0).1, (hsec 0).2, hst]
    exact h.intake.unknown
  · exact (h.intake.eject (hu.2 ▸ e)).same (hsec 0).2 hu.1 fun _ _ => rfl
  · rw [ha.1, (hsec 0).1, (hsec 0).2, hu.1, hu.2]
    exact h.intake.fresh

theorem Rail.Whole.after (h : r.Whole f) (n : Nat) : (r.after n).Whole f :=
  h.alike (fun _ => ⟨rfl, rfl⟩) rfl (fun i => ⟨fun m => m.left - n, by simp [Rail.after]⟩) ⟨rfl, rfl⟩ rfl rfl ⟨rfl, rfl⟩
    ⟨Timer.isSome_after .., Timer.isSome_after .., Timer.isSome_after ..⟩ (by simp [Rail.after])

theorem Rail.Whole.moveLimit (h : r.Whole f) (k : Sec) (v : Nat) : (r.onSec k fun x => { x with moveLimit := v }).Whole f := by
  refine h.alike (fun j => ?_) rfl (fun i => ⟨fun m => m.left, ?_⟩) ⟨rfl, rfl⟩ rfl rfl ⟨rfl, rfl⟩ ⟨rfl, rfl, rfl⟩ rfl
  · rw [Rail.onSec_get]
    split
    · next e => subst e; exact ⟨rfl, rfl⟩
    · exact ⟨rfl, rfl⟩
  · exact Option.map_id'.symm

/-! ## Jogs and fault reports -/

theorem Rail.Whole.jogOver (h : r.Whole f) : ({ r with jog := none } : Rail).Whole f := h.held h.hold.still nofun

theorem Rail.Whole.endJog {w : RailWork} (h : w.rail.Whole f) : w.endJog.rail.Whole f := by
  cases hj : w.rail.jog with
  | none =>
    have e : w.endJog = w := by simp only [RailWork.endJog, hj]
    rw [e]
    exact h
  | some j =>
    rw [RailWork.endJog_some hj]
    exact h.jogOver

theorem Rail.Whole.lotLoaded {w : RailWork} (h : w.rail.Whole f) : w.lotLoaded.rail.Whole f := by
  unfold RailWork.lotLoaded
  split
  · split
    · exact h.endJog
    · exact h
  · exact h

theorem Rail.Whole.report {w : RailWork} (h : w.rail.Whole f) (c : Chan) (k : FaultKind) : (w.report c k).rail.Whole f := by
  rw [RailWork.report_eq]
  obtain ⟨v, hv⟩ : ∃ v, v = if w.drive.reports k then w.note .fault else w := ⟨_, rfl⟩
  rw [← hv]
  have h1 : v.rail.Whole f := by
    rw [hv]
    split <;> exact h
  have h2 : (v.stopFor c).rail.Whole f := by
    unfold RailWork.stopFor
    split
    · exact h1.stallMove _ _
    · split
      · split
        · next hm => exact h1.stallGate (h1.gate.clear hm).1 (h1.gate.clear hm).2 _
        · next hm => exact h1.gate_named (Bool.not_eq_true _ ▸ hm) (by decide)
      · exact h1
  unfold RailWork.dropJog
  split
  · split
    · exact h2.jogOver
    · exact h2
  · exact h2

theorem Rail.Whole.reportLatched {w : RailWork} (h : w.rail.Whole f) (cs : List Chan) : (w.reportLatched cs).rail.Whole f := by
  induction cs generalizing w with
  | nil => exact h
  | cons c cs ih =>
    unfold RailWork.reportLatched
    dsimp only
    split
    · exact ih (h.report _ _)
    · exact ih h

/-- A jog begun on a HELD rail. -/
theorem Rail.Whole.jogBegun (h : r.Whole f) (hh : r.hold = .held) (j : Jog) (c : Chan) :
    ({ r with jog := some j, gate := if c = 7 then .unknown else r.gate } : Rail).Whole f := by
  obtain ⟨hm, hg⟩ := h.hold.still hh
  split
  · have e := h.gate_named hg (g := .unknown) (by decide)
    exact e.held (x := r.hold) (fun _ => ⟨hm, rfl⟩) fun _ => hh
  · exact h.held (x := r.hold) (fun _ => ⟨hm, hg⟩) fun _ => hh

/-- A rail as a reset finds it. -/
theorem Rail.Whole.surveyed (i : Inputs) : (Rail.surveyed i).Whole fun _ => none := by
  have hslot : ∀ j : Fin 3, (Rail.surveyed i).slots[j] = none := fun j => by simp [Rail.surveyed, Rail.reset]
  have hstall : ∀ k : Sec, (Rail.surveyed i).stalls[k] = none := fun k => by simp [Rail.surveyed, Rail.reset]
  have hm : (Rail.surveyed i).gateMoving = false := by
    simp only [Rail.surveyed, Rail.gateMoving]
    split <;> rfl
  refine ⟨⟨fun j m e => ?_, fun j _ m _ e => ?_, fun k => .of_empty (by rw [Rail.surveyed_sec]; rfl) (hstall k) fun e => ?_, nofun⟩,
    ⟨by rw [hm]; exact ⟨nofun, nofun⟩, nofun, fun e => by rw [hm] at e; cases e⟩, ⟨nofun, nofun⟩,
    ⟨nofun, nofun, ⟨fun e => absurd rfl e, nofun⟩, ⟨nofun, nofun⟩, nofun⟩⟩
  · rw [hslot] at e; cases e
  · rw [hslot] at e; cases e
  · rw [Rail.surveyed_sec] at e
    revert e
    dsimp only
    split <;> nofun

end

end Sys2Proof.Machine

/-!
Every deed keeps a consistent rail (chapter 2, R8), and so does every step.
-/

namespace Sys2Proof.Machine

section
variable {s t : State}

theorem LotStore.standing_close (ls : LotStore) (n : Nat) (x : Nat) : (ls.close n).standing x = ls.standing x ∨
    ∃ p, ls.standing x = some (.presented, p) ∧ (ls.close n).standing x = some (.done, p) := by
  cases hl : ls.lots.get n with
  | none =>
    have e : ls.close n = ls := by simp only [LotStore.close, hl]
    rw [e]
    exact .inl rfl
  | some l =>
    by_cases hs : l.onSale = true
    · unfold LotStore.standing
      rw [LotStore.get_close_trains hl hs]
      split
      · cases hr : ls.trains.get x with
        | none => exact .inl rfl
        | some r =>
          rw [Option.map_some]
          unfold LotStore.trainTested
          split
          · next hp => exact .inr ⟨r.sec, by rw [Option.map_some, hp.1], rfl⟩
          · exact .inl rfl
      · exact .inl rfl
    · have e : ls.close n = ls := by
        simp only [LotStore.close, hl]
        exact if_neg hs
      rw [e]
      exact .inl rfl

theorem State.WholeRail.announced (h : s.WholeRail) (t k : Nat) (ns : List Nat) (ht : s.lots.trains.get t = none) :
    (s.onLots fun ls => ls.announce t k ns).WholeRail := by
  have hno : s.lots.standing t = none := by rw [LotStore.standing, ht]; rfl
  have hs : ∀ x, (s.lots.announce t k ns).standing x = if x = t then some (.announced, none) else s.lots.standing x := fun x => by
    unfold LotStore.standing
    rw [LotStore.announce_trains]
    split
    · next e => subst e; rw [Tbl.get_put_self]; rfl
    · next e => rw [Tbl.get_put_ne _ _ e]
  refine Rail.Whole.restand h (fun j x hx => ?_) fun x st p e => ?_
  · refine (hs x).trans (if_neg fun e => ?_)
    obtain ⟨y, hy⟩ := (h.sited.secs j).occupied x hx
    rw [e, hno] at hy
    cases hy
  · have e := (hs x).symm.trans e
    split at e
    · cases e
      exact .inr ⟨rfl, rfl⟩
    · exact .inl e

theorem State.WholeRail.cancelled (h : s.WholeRail) (t : Nat) (tr : Train) (ht : s.lots.trains.get t = some tr)
    (ha : tr.state = .announced) : (s.onLots fun ls => ls.cancel t tr).WholeRail := by
  have hp := h.announced_nowhere ((LotStore.trainState_eq ht).trans (congrArg some ha))
  have hs : ∀ x, (s.lots.cancel t tr).standing x = if x = t then none else s.lots.standing x := fun x => by
    unfold LotStore.standing
    rw [LotStore.cancel_trains, Tbl.get_erase]
    split <;> rfl
  refine Rail.Whole.restand h (fun j x hx => (hs x).trans (if_neg fun e => ?_)) fun x st p e => ?_
  · obtain ⟨y, hy⟩ := (h.sited.secs j).occupied x hx
    rw [e, hp] at hy
    cases hy
  · have e := (hs x).symm.trans e
    split at e
    · cases e
    · exact .inl e

theorem State.WholeRail.lotOff (h : s.WholeRail) : s.lotOff.WholeRail := by
  have hx : s.lotOff.rail = s.rail ∧ s.lotOff.lots = s.clock.lot.elim s.lots s.lots.close := by
    unfold State.lotOff
    dsimp only
    cases hl : s.clock.lot <;> simp [hl]
  unfold State.WholeRail
  rw [hx.1, hx.2]
  cases s.clock.lot with
  | none => exact h
  | some n => exact Rail.Whole.done h (s.lots.standing_close n)

theorem State.WholeRail.loadLot (h : s.WholeRail) (n : Nat) : (s.loadLot n).WholeRail := by
  unfold State.WholeRail
  rw [State.loadLot_rail, State.loadLot_lots, LotStore.standing_congr (LotStore.load_trains ..)]
  exact Rail.Whole.lotLoaded (w := s.work) h

theorem State.WholeRail.onRail (g : RailWork → RailWork) (h : (g s.work).rail.Whole s.lots.standing) : (s.onRail g).WholeRail := h

theorem State.WholeRail.fault (h : s.WholeRail) (c : Chan) (k : FaultKind) : (s.latchFault c k).WholeRail :=
  State.WholeRail.onRail _ (Rail.Whole.report (w := { s.work with drive := s.drive.latchFault c k }) h c k)

theorem State.WholeRail.relatched (h : s.WholeRail) :
    (({ s with drive := s.drive.relatchAll s.inputs } : State).onRail fun w => w.reportLatched allChans).WholeRail :=
  State.WholeRail.onRail _ (Rail.Whole.reportLatched (w := { s.work with drive := s.drive.relatchAll s.inputs }) h allChans)

theorem Deed.keeps_wholeRail (hd : Deed s t) (h : s.WholeRail) : t.WholeRail := by
  have r := State.OffRail.refl s
  cases hd with
  | time n => exact Rail.Whole.after h n
  | announce t k ns h0 hl hns ht hc hd => exact h.announced t k ns ht
  | cancel t tr ht ha => exact h.cancelled t tr ht ha
  | post x rest hr => exact ((s.offRail_settleRecord x).trans (State.offRail_dropHead _)).wholeRail h
  | void x n hr hp => exact (s.offRail_voidRecord x).wholeRail h
  | load n hs hn => exact h.loadLot n
  | segment k hs hf ht => exact (s.offRail_beginSegment k).wholeRail h
  | haltDesk hs ht => exact (r.setClock _ _).wholeRail h
  | haltFull hs ht => exact (r.setClock _ _).wholeRail h
  | haltAfter l x hl hs ht hw => exact ((r.onClock _).setClock _ _).wholeRail h
  | restart l hl hs ht hr hf => exact (s.offRail_restart l).wholeRail h
  | tick l hl hs =>
    unfold State.tickTaken
    split
    · exact h
    · exact (s.offRail_enterShowing _).wholeRail h
  | closeLot hs hc => exact h.lotOff
  | openContest x hs ht => exact ((r.onClock _).setClock _ _).wholeRail h
  | insertPress x hs ha hb ht => exact (s.offRail_insertPress x).wholeRail h
  | closeNone hs => exact (((r.onClock _).setClock _ _).onClock _).wholeRail h
  | closeWon n l x after u p a hs hn hl hw => exact (s.offRail_closeWon n x after u p a).wholeRail h
  | moveLimit k v h5 hv => exact Rail.Whole.moveLimit h k v
  | gateTime v h0 hv =>
    exact Rail.Whole.alike h (fun _ => ⟨rfl, rfl⟩) rfl (fun i => ⟨fun m => m.left, Option.map_id'.symm⟩) ⟨rfl, rfl⟩ rfl rfl
      ⟨rfl, rfl⟩ ⟨rfl, rfl, rfl⟩ rfl
  | holdRail hh =>
    exact Rail.Whole.held h nofun fun hj => absurd (hh.symm.trans (h.hold.jog hj)) nofun
  | release hj => exact Rail.Whole.held h nofun fun hj' => by rw [hj] at hj'; cases hj'
  | jog c d n hl hh hd hj =>
    have e : (s.onRail fun w => (w.energiseAll d [c]).1).rail = s.rail := RailWork.energiseAll_rail (w := s.work) d [c]
    have hb := Rail.Whole.jogBegun h hh { chan := c, dir := d, left := n } c
    rw [← e] at hb
    exact hb
  | endJog => exact Rail.Whole.endJog (w := s.work) h
  | stallMove i cause => exact Rail.Whole.stallMove (w := s.work) h i cause
  | stallGate cause hg =>
    have hm : s.rail.gateMoving = true := hg.elim id h.gate.confirm.mpr
    exact Rail.Whole.stallGate (w := s.work) h (h.gate.clear hm).1 (h.gate.clear hm).2 cause
  | stallEdge k hk hb hg => exact Rail.Whole.stallEdge (w := s.work) h hk hb hg
  | settleMove k b st hk hd => exact Rail.Whole.settleMove h hk hd
  | arriveMove k b st hk hd hl hj => exact h.arriveMove hk hd
  | settleEject k st pend hk hd hp => exact h.ejectSettled hk hd hp
  | resolveEject k st hk hd => exact h.resolveEject hk hd
  | emptyEject k st hk hd he => exact h.emptyEject hk hd he
  | settleGate k st hk hd hc => exact h.settleGate hk hd hc
  | settleEdge k st hk hd t ht => exact h.settleEdge hk hd ht
  | unknownEdge st hk hd ht => exact h.unknownEdge hk hd ht
  | clearEdge k st hk hd ht => exact h.clearEdge hk hd ht
  | clearSection k hk hb hn => exact h.clearSection hb hn
  | ejectPends hc he =>
    have he := State.ejectable_iff.mp he
    exact Rail.Whole.pending h (fun _ => he) (he.not_waiting h.intake)
  | decide tag hd => exact h.decide hd
  | admitHeld t ht => exact h.admitHeld ht
  | waitTag hc hk => exact h.waitTag hc hk
  | holdTag tag ha => exact h.holdTag tag
  | endWait ha => exact Rail.Whole.endWait h
  | moved i m b hm hd => exact h.moved hm hd
  | ejected i m hm hd => exact h.ejected hm hd
  | departed t ht hk => exact h.departed ht hk
  | gateTimer => exact Rail.Whole.gateTimer_none h
  | gateDone hg => exact Rail.Whole.completeGate h
  | fault c k hc => exact h.fault c k
  | relatch => exact h.relatched
  | _ => exact h

theorem State.WholeRail.railDone (h : s.WholeRail) (b : State) : (s.railDone b).WholeRail := by
  unfold State.WholeRail
  rw [State.railDone_rail, State.railDone_lots]
  exact Rail.Whole.settle (w := s.work) h

theorem State.WholeRail.reset (s : State) (c : ResetCause) (a : Accounts) (l : Log) : (s.resetWith c a l).WholeRail :=
  Rail.Whole.settle (w := { rail := Rail.surveyed s.inputs, drive := Drive.reset.relatchAll s.inputs, raised := 0 })
    (ls := { lots := [], trains := [], queue := [] }) (Rail.Whole.surveyed s.inputs)

theorem Kept.wholeRail : Kept State.WholeRail :=
  .of_deeds (fun _ _ _ h => h) (fun _ _ h => h) (fun hd h => hd.keeps_wholeRail h) (fun _ h => h) (fun _ b h => h.railDone b)
    (fun s _ => .reset s ..) fun s _ => .reset s ..

end

end Sys2Proof.Machine

/-!
The PRESENT gate apart from a presented train (R42), told of the rail record and of the trains, and what the rail's own operations
keep of it.
-/

namespace Sys2Proof.Machine

/-- A channel that is energised or is about to be. -/
def Channel.Live (c : Channel) : Prop := c.output ≠ .off ∨ c.turn.isSome = true

/-- A train is PRESENTED. -/
def Presented (f : Standing) : Prop := ∃ t p, f t = some (.presented, p)

/-- A move in flight, or one on record as stalled, leads to PRESENT. -/
def Rail.Bound (r : Rail) : Prop :=
  (∃ (i : Fin 3) (m : Move), r.slots[i] = some m ∧ m.dest = .sec 5) ∨
    ∃ (k : Sec) (st : Stall), r.stalls[k] = some st ∧ st.dest = some (.sec 5)

/-- The gate is OPENING or OPEN. -/
def Rail.Open (r : Rail) : Prop := r.gate = .opening ∨ r.gate = .opened

/-- A jog runs D7. -/
def Rail.JogsGate (r : Rail) : Prop := ∃ j, r.jog = some j ∧ j.chan = 7

/-- Why no presented train stands under an open gate (R42). -/
structure Rail.GateApart (r : Rail) (f : Standing) (c : Channel) : Prop where
  energised : c.Live → r.Open ∨ r.JogsGate
  opened : r.Open → ¬ Presented f ∧ ¬ r.Bound
  jogged : r.JogsGate → ¬ Presented f

section
variable {r r' : Rail} {f f' : Standing} {c c' : Channel}

/-- On a consistent rail the presented train is the occupant of PRESENT. -/
theorem Rail.Whole.presented_iff (h : r.Whole f) : Presented f ↔
    ∃ t, r.secs[(5 : Sec)].occupant = some t ∧ (f t).map Prod.fst = some .presented := by
  constructor
  · rintro ⟨t, p, hf⟩
    have hs := h.sited.trains t _ p hf
    cases p with
    | none => cases hs
    | some k =>
      obtain ⟨ho, hk⟩ := hs
      obtain rfl : k = 5 := hk
      exact ⟨t, ho, by rw [hf]; rfl⟩
  · rintro ⟨t, -, ht⟩
    rw [Option.map_eq_some_iff] at ht
    obtain ⟨⟨_, p⟩, hp, rfl⟩ := ht
    exact ⟨t, p, hp⟩

/-- A change keeps the gate apart where it energises D7, opens the gate, jogs D7 or presents a train only as it may. -/
theorem Rail.GateApart.keep (h : r.GateApart f c) (hl : c'.Live → c.Live) (hgo : r'.Open → r.Open) (hjo : r'.JogsGate → r.JogsGate)
    (hkeep : c'.Live → r.Open ∨ r.JogsGate → r'.Open ∨ r'.JogsGate)
    (hp : Presented f' → Presented f ∨ ¬ r.Open ∧ ¬ r.JogsGate) (hb : r'.Bound → r.Bound ∨ ¬ r.Open) : r'.GateApart f' c' where
  energised hc := hkeep hc (h.energised (hl hc))
  opened ho := ⟨fun e => (hp e).elim (h.opened (hgo ho)).1 fun x => x.1 (hgo ho),
    fun e => (hb e).elim (h.opened (hgo ho)).2 fun x => x (hgo ho)⟩
  jogged hj := fun e => (hp e).elim (h.jogged (hjo hj)) fun x => x.2 (hjo hj)

/-- A change of sections, moves and records alone. -/
theorem Rail.GateApart.same (h : r.GateApart f c) (hg : r'.gate = r.gate) (hj : r'.jog = r.jog) (hl : c'.Live → c.Live)
    (hp : Presented f' → Presented f ∨ ¬ r.Open ∧ ¬ r.JogsGate) (hb : r'.Bound → r.Bound ∨ ¬ r.Open) : r'.GateApart f' c' := by
  have ho : r'.Open ↔ r.Open := by unfold Rail.Open; rw [hg]
  have hjg : r'.JogsGate ↔ r.JogsGate := by unfold Rail.JogsGate; rw [hj]
  exact h.keep hl ho.mp hjg.mp (fun _ => .imp ho.mpr hjg.mpr) hp hb

theorem Rail.Bound.mono (h : r'.Bound) (hm : ∀ (i : Fin 3) m, r'.slots[i] = some m → m.dest = .sec 5 → r.Bound)
    (hs : ∀ (k : Sec) st, r'.stalls[k] = some st → st.dest = some (.sec 5) → r.Bound) : r.Bound := by
  rcases h with ⟨i, m, h1, h2⟩ | ⟨k, st, h1, h2⟩
  · exact hm i m h1 h2
  · exact hs k st h1 h2

theorem Rail.Bound.of_move {i : Fin 3} {m : Move} (h : r.slots[i] = some m) (hd : m.dest = .sec 5) : r.Bound := .inl ⟨i, m, h, hd⟩
theorem Rail.Bound.of_record {k : Sec} {st : Stall} (h : r.stalls[k] = some st) (hd : st.dest = some (.sec 5)) : r.Bound :=
  .inr ⟨k, st, h, hd⟩

/-- No new move and no new record. -/
theorem Rail.Bound.fewer (h : r'.Bound) (hm : ∀ (i : Fin 3) m, r'.slots[i] = some m → ∃ m₀, r.slots[i] = some m₀ ∧ m₀.dest = m.dest)
    (hs : ∀ (k : Sec) st, r'.stalls[k] = some st → (∃ st₀, r.stalls[k] = some st₀ ∧ st₀.dest = st.dest) ∨ st.dest = none) :
    r.Bound := by
  refine h.mono (fun i m h1 h2 => ?_) fun k st h1 h2 => ?_
  · obtain ⟨m₀, h₀, hd⟩ := hm i m h1
    exact .of_move h₀ (hd.trans h2)
  · rcases hs k st h1 with ⟨st₀, h₀, hd⟩ | hd
    · exact .of_record h₀ (hd.trans h2)
    · rw [hd] at h2
      cases h2

theorem stalls_set_some {v : Vector (Option Stall) 7} {k j : Sec} {x : Option Stall} {st : Stall} (h : (v.set k x)[j] = some st) :
    (j = k ∧ x = some st) ∨ (j ≠ k ∧ v[j] = some st) := by
  by_cases hj : j = k
  · subst hj
    rw [get_set_self] at h
    exact .inl ⟨rfl, h⟩
  · rw [get_set_ne _ _ hj] at h
    exact .inr ⟨hj, h⟩

/-- Records dropped, and a record of one section set. -/
theorem Rail.Bound.of_set {k : Sec} {x : Option Stall} (h : r'.Bound) (hsl : r'.slots = r.slots)
    (hst : r'.stalls = r.stalls.set k x) (hx : ∀ st, x = some st → st.dest = none) : r.Bound := by
  refine h.fewer (fun i m hm => ⟨m, hsl ▸ hm, rfl⟩) fun j st hs => ?_
  rw [hst] at hs
  rcases stalls_set_some hs with ⟨-, e⟩ | ⟨-, e⟩
  · exact .inr (hx st e)
  · exact .inl ⟨st, e, rfl⟩

end

/-! ## D7 -/

section
variable {c : Channel}

theorem Channel.Ok.halt_dead (h : c.Ok) : ¬ c.halt.Live := by
  cases hl : c.latch with
  | none =>
    rw [Channel.halt_free hl]
    exact fun e => e.elim (· rfl) nofun
  | some k =>
    rw [Channel.halt_latched hl]
    obtain ⟨ho, -, ht⟩ := h.1 (by rw [hl]; rfl)
    rintro (e | e)
    · exact e ho
    · rw [ht] at e; cases e

theorem Channel.Ok.latched_dead (h : c.Ok) (hl : c.latch.isSome = true) : ¬ c.Live := by
  obtain ⟨ho, -, ht⟩ := h.1 hl
  rintro (e | e)
  · exact e ho
  · rw [ht] at e; cases e

theorem Channel.turnOver_live (h : c.turnOver.Live) : c.Live := by
  cases ht : c.turn with
  | none =>
    rw [Channel.turnOver_still ht] at h
    exact h
  | some d => exact .inr (by rw [ht]; rfl)

theorem Channel.relatch_live {x : Option FaultKind} (h : (c.relatch x).Live) : c.Live := by
  cases x with
  | none => exact h
  | some k => exact absurd h fun e => e.elim (· rfl) nofun

end

section
variable {w : RailWork}

theorem RailWork.haltAll_gate {cs : List Chan} (h : (7 : Chan) ∉ cs) : (w.haltAll cs).drive.chans[(7 : Chan)] =
    w.drive.chans[(7 : Chan)] := by
  induction cs generalizing w with
  | nil => rfl
  | cons c cs ih =>
    rw [List.mem_cons, not_or] at h
    obtain ⟨hc, hcs⟩ := h
    exact (ih hcs).trans (Drive.halt_chan_ne _ hc)

theorem castSucc_ne_gate (k : Sec) : k.castSucc ≠ (7 : Chan) := fun e => by
  have := congrArg Fin.val e
  have := k.isLt
  simp at *
  omega

/-- No move runs D7. -/
theorem Move.gate_notMem (m : Move) : (7 : Chan) ∉ m.chans := by
  unfold Move.chans
  split <;> simp [(castSucc_ne_gate _).symm]

end

/-! ## The rail's own operations -/

/-- A consistent rail with the gate apart from a presented train. -/
structure RailWork.Gated (w : RailWork) (f : Standing) : Prop where
  whole : w.rail.Whole f
  drive : w.drive.Ok
  apart : w.rail.GateApart f w.drive.chans[(7 : Chan)]

section
variable {w : RailWork} {f : Standing} {ls : LotStore} {i : Fin 3} {a b : Sec}

theorem RailWork.Gated.stallMove (h : w.Gated f) (i : Fin 3) (cause : Cause) : (w.stallMove i cause).Gated f := by
  refine ⟨h.whole.stallMove i cause, ((RailWork.Steady.refl w).stallMove i cause).1 h.drive, ?_⟩
  cases hm : w.rail.slots[i] with
  | none =>
    have e : w.stallMove i cause = w := by unfold RailWork.stallMove; rw [hm]
    rw [e]
    exact h.apart
  | some m =>
    rw [RailWork.stallMove_eq cause hm]
    refine h.apart.same rfl rfl (fun e => ?_) .inl fun hb => .inl ?_
    · rw [RailWork.haltAll_gate m.gate_notMem] at e
      exact e
    · refine hb.mono (fun j m' hm' hd => .of_move (Rail.set_slot_none.mp hm').1 hd) fun k st hst hd => ?_
      rcases stalls_set_some hst with ⟨-, e⟩ | ⟨-, e⟩
      · cases e
        exact .of_move hm (Option.some.inj hd)
      · exact .of_record e hd

theorem RailWork.Gated.stallGate (h : w.Gated f) (hm : w.rail.secs[(5 : Sec)].cond ≠ .blocked) (hk : w.rail.slotAt 5 = none)
    (cause : Cause) : (w.stallGate cause).Gated f := by
  refine ⟨h.whole.stallGate hm hk cause, ((RailWork.Steady.refl w).stallGate cause).1 h.drive, ?_⟩
  rw [RailWork.stallGate_eq]
  have hdead : ¬ (w.drive.halt 7).chans[(7 : Chan)].Live := by
    rw [Drive.halt_chan_self]
    exact (h.drive 7).halt_dead
  exact h.apart.keep (fun e => absurd e hdead) (fun e => e.elim nofun nofun) id (fun e => absurd e hdead) .inl
    fun hb => .inl (Rail.Bound.of_set (r := w.rail) (k := 5)
          (x := some { train := w.rail.secs[(5 : Sec)].occupant, dest := none, cause := cause }) hb rfl rfl fun st e => by cases e; rfl)

theorem RailWork.Gated.grantMove (h : w.Gated ls.standing) (hi : w.rail.slots[i] = none) (hb : b.val = a.val + 1)
    (hh : w.rail.hold = .none) (hdue : w.rail.moveDue ls a b = true) : (w.grantMove i a b).Gated ls.standing := by
  obtain ⟨-, -, -, -, hgb⟩ := Rail.moveDue_iff.mp hdue
  have hask : (w.asked i a b).Gated ls.standing := by
    refine ⟨h.whole.granted hi hb hh hdue, (h.drive.energise _ _).energise _ _, ?_⟩
    refine h.apart.same rfl rfl (fun e => ?_) .inl fun hbd => ?_
    · have e7 : (w.asked i a b).drive.chans[(7 : Chan)] = w.drive.chans[(7 : Chan)] :=
        (Drive.energise_chan_ne _ _ (castSucc_ne_gate b).symm).trans (Drive.energise_chan_ne _ _ (castSucc_ne_gate a).symm)
      exact e7 ▸ e
    · rcases hbd with ⟨j, m, hm, hd⟩ | ⟨k, st, hs, hd⟩
      · rcases Rail.set_slot_some.mp hm with ⟨-, rfl⟩ | ⟨-, hm⟩
        · refine .inr fun ho => ?_
          have hg := hgb (Dest.sec.inj hd)
          rcases ho with e | e <;> rw [hg] at e <;> cases e
        · exact .inl (.of_move hm hd)
      · exact .inl (.of_record hs hd)
  rw [RailWork.grantMove_eq (ne_of_next hb)]
  split
  · exact hask
  · exact hask.stallMove i .driveFault

theorem RailWork.Gated.grantEject (h : w.Gated f) (hi : w.rail.slots[i] = none) (hh : w.rail.hold = .none)
    (hdue : w.rail.ejectDue = true) : (w.grantEject i).Gated f := by
  have hask : (w.askedOut i).Gated f := by
    refine ⟨h.whole.ejecting hi hh hdue, h.drive.energise _ _, h.apart.same rfl rfl (fun e => ?_) .inl fun hbd => ?_⟩
    · have e7 : (w.askedOut i).drive.chans[(7 : Chan)] = w.drive.chans[(7 : Chan)] := Drive.energise_chan_ne _ _ (by decide)
      exact e7 ▸ e
    · rcases hbd with ⟨j, m, hm, hd⟩ | ⟨k, st, hs, hd⟩
      · rcases Rail.set_slot_some.mp hm with ⟨-, rfl⟩ | ⟨-, hm⟩
        · cases hd
        · exact .inl (.of_move hm hd)
      · exact .inl (.of_record hs hd)
  rw [RailWork.grantEject_eq]
  split
  · exact hask
  · exact hask.stallMove i .driveFault

theorem RailWork.Gated.beginGate (h : w.Gated ls.standing) (hh : w.rail.hold = .none) (hdue : w.rail.gateDue ls = true) :
    (w.beginGate ls).Gated ls.standing := by
  obtain ⟨-, -, hc, hs⟩ := Rail.gateDue_iff.mp hdue
  have hjog : w.rail.jog = none := Option.not_isSome_iff_eq_none.mp fun e => absurd (hh.symm.trans (h.whole.hold.jog e)) nofun
  have hnojog : ¬ w.rail.JogsGate := by
    rintro ⟨j, hj, -⟩
    rw [hjog] at hj
    cases hj
  refine ⟨h.whole.beginGate hh hdue, ((RailWork.Steady.refl w).beginGate ls).1 h.drive, ?_⟩
  by_cases hw : w.rail.wanted ls = .opened
  · cases hl : w.drive.chans[(7 : Chan)].latch with
    | some x =>
      rw [RailWork.beginGate_refused hw (by rw [hl]; rfl)]
      have hdead : ¬ w.drive.chans[(7 : Chan)].Live := (h.drive 7).latched_dead (by rw [hl]; rfl)
      exact h.apart.keep (fun e => absurd e hdead) (fun e => e.elim nofun nofun) id (fun e => absurd e hdead) .inl
        fun hb => .inl (Rail.Bound.of_set (r := w.rail) (k := 5)
          (x := some { train := w.rail.secs[(5 : Sec)].occupant, dest := none, cause := .driveFault }) hb rfl rfl fun st e => by cases e; rfl)
    | none =>
      rw [RailWork.beginGate_opening hw hl]
      obtain ⟨ho, hd⟩ := Rail.wanted_opened.mp hw
      refine ⟨fun _ => .inl (.inl rfl), fun _ => ⟨fun hp => ?_, ?_⟩, fun hj => absurd hj hnojog⟩
      · obtain ⟨t, ht, hst⟩ := h.whole.presented_iff.mp hp
        obtain ⟨t', ht', hst'⟩ := Rail.holdsTrain_iff.mp hd
        obtain rfl := Option.some.inj (ht.symm.trans ht')
        rw [LotStore.trainState_standing, hst] at hst'
        cases hst'
      · rintro (⟨j, m, hm, hd⟩ | ⟨k, st, hst, hd⟩)
        · exact (Move.not_touches.mp (Rail.findSlot_none.mp hs j m hm)).2 hd
        · exact absurd (ho.symm.trans (((h.whole.sited.secs k).stalled st hst).onward 5 hd).2.1) nofun
  · rw [RailWork.beginGate_closing hw]
    have hdead : ¬ (w.drive.halt 7).chans[(7 : Chan)].Live := by
      rw [Drive.halt_chan_self]
      exact (h.drive 7).halt_dead
    exact h.apart.keep (fun e => absurd e hdead) (fun e => e.elim nofun nofun) id (fun e => absurd e hdead) .inl .inl

theorem RailWork.Gated.arbitrate (h : w.Gated ls.standing) (hh : w.rail.hold = .none) (n : Nat) :
    (RailWork.arbitrate ls n w).Gated ls.standing :=
  (RailWork.arbitrate_keeps (P := fun w => w.Gated ls.standing ∧ w.rail.hold = .none)
    (fun v i a b ⟨h, hh⟩ hf hm => by
      obtain ⟨hdue, hb, -⟩ := Rail.nextMove_some hm
      have hi := (Rail.freeSlot_some hf).1
      exact ⟨h.grantMove hi hb hh hdue, (RailWork.spares_grantMove hi (ne_of_next hb) hdue).hold hh⟩)
    (fun v i ⟨h, hh⟩ hf _ he => by
      have hi := (Rail.freeSlot_some hf).1
      exact ⟨h.grantEject hi hh he, (RailWork.spares_grantEject hi he).hold hh⟩) n ⟨h, hh⟩).1

theorem RailWork.Gated.holdTest (h : w.Gated f) : w.holdTest.Gated f := by
  refine ⟨h.whole.holdTest, ?_, ?_⟩
  · rcases w.holdTest_cases with ⟨e, -⟩ | ⟨-, -, -, e⟩ <;> rw [e] <;> exact h.drive
  · rcases w.holdTest_cases with ⟨e, -⟩ | ⟨-, -, -, e⟩ <;> rw [e] <;> exact h.apart.same rfl rfl id .inl .inl

/-- The examination that ends a rail event keeps the gate apart. -/
theorem RailWork.Gated.settle (h : w.Gated ls.standing) : (w.settle ls).Gated ls.standing := by
  by_cases hh : w.rail.hold = .none
  · rw [RailWork.settle_free w ls hh]
    split_ifs with hg
    · exact (h.beginGate hh hg).arbitrate ((w.beginGate_hold ls).trans hh) 10
    · exact h.arbitrate hh 10
  · rw [RailWork.settle_held w ls hh]
    exact h.holdTest

/-! ## Jogs and fault reports -/

/-- A jog gone, with D7 at rest where it ran D7. -/
theorem Rail.GateApart.jogOver {r : Rail} {c c' : Channel} (h : r.GateApart f c) (hl : c'.Live → c.Live)
    (hd : r.JogsGate → ¬ c'.Live) : ({ r with jog := none } : Rail).GateApart f c' :=
  h.keep hl id (fun e => by obtain ⟨j, hj, -⟩ := e; cases hj) (fun e => .imp id fun hj => absurd e (hd hj)) .inl .inl

theorem RailWork.Gated.endJog (h : w.Gated f) : w.endJog.Gated f := by
  refine ⟨h.whole.endJog, ((RailWork.Steady.refl w).endJog).1 h.drive, ?_⟩
  cases hj : w.rail.jog with
  | none =>
    have e : w.endJog = w := by simp only [RailWork.endJog, hj]
    rw [e]
    exact h.apart
  | some j =>
    rw [RailWork.endJog_some hj]
    by_cases hc : j.chan = 7
    · have hdead : ¬ (w.drive.halt j.chan).chans[(7 : Chan)].Live := by
        rw [hc, Drive.halt_chan_self]
        exact (h.drive 7).halt_dead
      exact h.apart.jogOver (fun e => absurd e hdead) fun _ => hdead
    · refine h.apart.jogOver (fun e => ?_) fun ⟨j', hj', hc'⟩ => absurd (by rw [hj] at hj'; cases hj'; exact hc') hc
      rw [Drive.halt_chan_ne _ (Ne.symm hc)] at e
      exact e

theorem RailWork.Gated.lotLoaded (h : w.Gated f) : w.lotLoaded.Gated f := by
  unfold RailWork.lotLoaded
  split
  · split
    · exact h.endJog
    · exact h
  · exact h

theorem RailWork.Gated.note (h : w.Gated f) (e : Event) : (w.note e).Gated f := ⟨h.whole, h.drive, h.apart⟩

/-- A fault report of a channel with a latch. -/
theorem RailWork.Gated.report (h : w.Gated f) {c : Chan} (hc : w.drive.chans[c].latch.isSome = true) (k : FaultKind) :
    (w.report c k).Gated f := by
  rw [RailWork.report_eq]
  obtain ⟨v, hv⟩ : ∃ v, v = if w.drive.reports k then w.note .fault else w := ⟨_, rfl⟩
  rw [← hv]
  have h1 : v.Gated f := by
    rw [hv]
    split
    · exact h.note .fault
    · exact h
  have hvd : v.drive = w.drive := by
    rw [hv]
    split <;> rfl
  have hdead : c = 7 → ¬ v.drive.chans[(7 : Chan)].Live := fun e => (h1.drive 7).latched_dead (by rw [hvd, ← e]; exact hc)
  obtain ⟨h2, hjog, hdead'⟩ : (v.stopFor c).Gated f ∧ (v.stopFor c).rail.jog = v.rail.jog ∧
      (c = 7 → ¬ (v.stopFor c).drive.chans[(7 : Chan)].Live) := by
    unfold RailWork.stopFor
    cases hs : v.rail.slotOfChan c with
    | some i =>
      obtain ⟨m, hm, hmc⟩ := Rail.findSlot_some hs
      refine ⟨h1.stallMove i .driveFault, ?_, fun e => ?_⟩
      · show (v.stallMove i .driveFault).rail.jog = _
        rw [RailWork.stallMove_eq .driveFault hm]
      · rw [e] at hmc
        exact absurd (List.contains_iff_mem.mp hmc) m.gate_notMem
    | none =>
      dsimp only
      split
      · next h7 =>
        split
        · next hg =>
          refine ⟨h1.stallGate (h1.whole.gate.clear hg).1 (h1.whole.gate.clear hg).2 .driveFault, rfl, fun _ => ?_⟩
          show ¬ (v.drive.halt 7).chans[(7 : Chan)].Live
          rw [Drive.halt_chan_self]
          exact (h1.drive 7).halt_dead
        · next hg =>
          refine ⟨⟨h1.whole.gate_named (Bool.not_eq_true _ ▸ hg) (by decide), h1.drive, ?_⟩, rfl, hdead⟩
          exact h1.apart.keep id (fun e => e.elim nofun nofun) id (fun e => absurd e (hdead h7)) .inl .inl
      · next h7 => exact ⟨h1, rfl, fun e => absurd e h7⟩
  unfold RailWork.dropJog
  cases hj : (v.stopFor c).rail.jog with
  | none => exact h2
  | some j =>
    dsimp only
    split
    · next hjc =>
      refine ⟨h2.whole.jogOver, h2.drive, h2.apart.jogOver id fun ⟨j', hj', hc'⟩ => hdead' ?_⟩
      rw [hj] at hj'
      cases hj'
      exact hjc.symm.trans hc'
    · exact h2

end

end Sys2Proof.Machine

/-!
Every deed keeps the PRESENT gate apart from a presented train (R42), and so does every step.
-/

namespace Sys2Proof.Machine

/-! ## The gate in the words of the model -/

/-- The rail agrees, the channels are consistent, and the gate is apart from a presented train. -/
abbrev State.Gated (s : State) : Prop := s.work.Gated s.lots.standing

section
variable {s t : State}

theorem State.WholeRail.presented_iff (h : s.WholeRail) : Presented s.lots.standing ↔
    s.rail.holdsTrain s.lots 5 .presented = true := by
  rw [Rail.Whole.presented_iff h, Rail.holdsTrain_iff]
  simp only [LotStore.trainState_standing]

theorem State.gateOk_iff (h : s.WholeRail) : s.GateOk ↔ s.rail.GateApart s.lots.standing s.drive.chans[(7 : Chan)] := by
  have hp : ¬ Presented s.lots.standing ↔ s.rail.holdsTrain s.lots 5 .presented = false := by
    rw [h.presented_iff, Bool.not_eq_true]
  constructor
  · rintro ⟨he, ho, hj⟩
    refine ⟨fun hl => ?_, fun hg => ?_, fun ⟨j, h1, h2⟩ => hp.mpr (hj j h1 h2)⟩
    · rcases he hl with e | e | e
      · exact .inl (.inl e)
      · exact .inl (.inr e)
      · exact .inr e
    · obtain ⟨h1, h2, h3⟩ := ho hg
      refine ⟨hp.mpr h1, ?_⟩
      rintro (⟨i, m, hm, hd⟩ | ⟨k, st, hst, hd⟩)
      · exact h2 i m hm hd
      · exact h3 k st hst hd
  · rintro ⟨he, ho, hj⟩
    refine ⟨fun hl => ?_, fun hg => ?_, fun j h1 h2 => hp.mp (hj ⟨j, h1, h2⟩)⟩
    · rcases he hl with (e | e) | e
      · exact .inl e
      · exact .inr (.inl e)
      · exact .inr (.inr e)
    · obtain ⟨h1, h2⟩ := ho hg
      exact ⟨hp.mp h1, fun i m hm hd => h2 (.of_move hm hd), fun k st hst hd => h2 (.of_record hst hd)⟩

/-- D7 is at rest while a lot is LOADED or ON_CLOCK (R42). -/
theorem State.Gated.gate_at_rest (h : s.Gated) (hl : s.LotsOk) {n : Nat} {l : Lot} (hn : s.lots.lots.get n = some l)
    (hs : l.state = .loaded ∨ l.state = .onClock) :
    s.drive.chans[(7 : Chan)].output = .off ∧ s.drive.chans[(7 : Chan)].turn = none := by
  have hsale : l.onSale = true := by rcases hs with e | e <;> simp [Lot.onSale, e]
  obtain ⟨-, htrain, -⟩ := (hl.each n l hn).train
  obtain ⟨t, ht⟩ := Option.isSome_iff_exists.mp
    (htrain (by rcases hs with e | e <;> rw [e] <;> nofun) (by rcases hs with e | e <;> rw [e] <;> nofun))
  obtain ⟨r, -, hr, -, -, -, hpres⟩ := hl.placed n l t hn ht
  have hp : Presented s.lots.standing := ⟨t, r.sec, LotStore.standing_some.mpr ⟨r, hr, hpres (.inr hsale), rfl⟩⟩
  have hdead : ¬ s.drive.chans[(7 : Chan)].Live := fun e => by
    rcases h.apart.energised e with ho | hj
    · exact (h.apart.opened ho).1 hp
    · exact h.apart.jogged hj hp
  obtain ⟨ho, ht⟩ := not_or.mp hdead
  exact ⟨not_not.mp ho, Option.not_isSome_iff_eq_none.mp ht⟩

end

/-! ## Trains that change -/

section
variable {ls : LotStore} {t : Nat} {st st' : TrainState} {p p' : Option Sec} {f f' : Standing}

/-- One train's record changed to one that is not PRESENTED. -/
theorem Presented.of_one (hf : ∀ x, x ≠ t → f' x = f x) (ht : (f' t).map Prod.fst ≠ some .presented) (h : Presented f') :
    Presented f := by
  obtain ⟨x, q, hx⟩ := h
  have hne : x ≠ t := by
    rintro rfl
    rw [hx] at ht
    exact ht rfl
  exact ⟨x, q, (hf x hne).symm.trans hx⟩

end

/-! ## Admissions -/

section
variable {w : RailWork} {f : Standing} {r : Rail} {c : Channel} {t : Nat}

theorem RailWork.cutEject_gate : w.cutEject.drive.chans[(7 : Chan)] = w.drive.chans[(7 : Chan)] := by
  cases h : w.rail.ejectSlot with
  | none => rw [w.cutEject_none h]
  | some i =>
    rw [w.cutEject_some h]
    exact Drive.halt_chan_ne _ (by decide)

theorem RailWork.cutEject_bound (h : w.cutEject.rail.Bound) : w.rail.Bound := by
  cases he : w.rail.ejectSlot with
  | none =>
    rw [w.cutEject_none he] at h
    exact h
  | some i =>
    rw [w.cutEject_some he] at h
    exact h.mono (fun j m hm hd => .of_move (Rail.set_slot_none.mp hm).1 hd) fun k st hst hd => .of_record hst hd

theorem Rail.renameEject_bound (h : (r.renameEject t).Bound) : r.Bound := by
  unfold Rail.renameEject at h
  split at h
  · next i he =>
    obtain ⟨x, hx, -⟩ := Rail.findSlot_some he
    refine h.mono (fun j m hm hd => ?_) fun k st hst hd => .of_record hst hd
    rw [hx, Option.map_some] at hm
    rcases Rail.set_slot_some.mp hm with ⟨-, rfl⟩ | ⟨-, hm⟩
    · exact .of_move hx hd
    · exact .of_move hm hd
  · exact h

theorem Rail.intakeTrain_bound (h : (r.intakeTrain t).Bound) : r.Bound := by
  refine h.mono (fun j m hm hd => .of_move hm hd) fun k st hst hd => ?_
  have hst : (r.stalls.set (0 : Sec) (r.stalls[(0 : Sec)].map fun st => { st with train := some t }))[k] = some st := hst
  rcases stalls_set_some hst with ⟨-, e⟩ | ⟨-, e⟩
  · rw [Option.map_eq_some_iff] at e
    obtain ⟨st₀, h₀, rfl⟩ := e
    exact .of_record h₀ hd
  · exact .of_record e hd

end

/-! ## The deeds -/

section
variable {s t : State}

theorem State.Gated.offRail (h : s.Gated) (ho : s.OffRail t) : t.rail.GateApart t.lots.standing t.drive.chans[(7 : Chan)] := by
  rw [ho.rail, ho.drive, LotStore.standing_congr ho.trains]
  exact h.apart

theorem State.Gated.admitHeld (h : s.Gated) {n : Nat} {st : TrainState} {p : Option Sec} (hp : s.lots.standing n = some (st, p)) :
    (s.admitAt n).rail.GateApart (s.admitAt n).lots.standing (s.admitAt n).drive.chans[(7 : Chan)] := by
  rw [State.admitAt_rail, State.admitAt_drive, State.admitAt_lots, RailWork.cutEject_gate]
  obtain ⟨hn, hother⟩ := LotStore.standing_admitTrain hp
  obtain ⟨v, hv⟩ := (s.admitting n).cutEject_rail
  refine h.apart.same ((congrArg Rail.gate hv).trans rfl) ((congrArg Rail.jog hv).trans rfl) id
    (fun e => .inl (e.of_one hother (by rw [hn]; nofun))) fun e => .inl ?_
  exact Rail.intakeTrain_bound (RailWork.cutEject_bound e)

theorem State.Gated.decide (h : s.Gated) (tag : Nat) : (s.decideAdmission tag).rail.GateApart
    (s.decideAdmission tag).lots.standing (s.decideAdmission tag).drive.chans[(7 : Chan)] := by
  have he : (s.mapRail Rail.endWait).Gated := ⟨Rail.Whole.endWait h.whole, h.drive, h.apart.same rfl rfl id .inl .inl⟩
  rw [State.decideAdmission_eq]
  by_cases ht : s.lots.trainState tag = some .announced
  · obtain ⟨p, hp⟩ := LotStore.trainState_some ht
    rw [LotStore.admission, if_pos ht]
    split_ifs with hq
    · exact he.admitHeld hp
    · obtain ⟨hn, hother⟩ := LotStore.standing_misorder hp
      obtain ⟨v, hv⟩ := ((s.mapRail Rail.endWait).rail.intakeTrain tag).renameEject_eq tag
      refine he.apart.same (r' := ((s.mapRail Rail.endWait).misorderAt tag).rail) ?_ ?_ id
        (fun e => .inl (e.of_one hother (by rw [hn]; nofun))) fun e => .inl ?_
      · exact (congrArg Rail.gate hv).trans rfl
      · exact (congrArg Rail.jog hv).trans rfl
      · exact Rail.intakeTrain_bound (Rail.renameEject_bound e)
  · rw [LotStore.admission_unknown ht]
    exact he.apart.same rfl rfl id .inl .inl

/-- A train that leaves a section for the next: it is PRESENTED only where its move led to PRESENT. -/
theorem Presented.of_placed {ls : LotStore} {n : Nat} {a b : Sec} (hv : b.val = a.val + 1)
    (hst : (ls.standing n).map Prod.fst = some (if a = 5 then .done else .onRail))
    (h : Presented (if b = 5 then (ls.placed n b).present n else ls.placed n b).standing) : Presented ls.standing ∨ b = 5 := by
  obtain ⟨hn, hother⟩ := LotStore.standing_placed hv hst
  by_cases h5 : b = 5
  · exact .inr h5
  · refine .inl (h.of_one hother ?_)
    rw [hn, TrainState.arriving, if_neg h5]
    split <;> nofun

theorem State.Gated.moved (h : s.Gated) {i : Fin 3} {m : Move} {b : Sec} (hm : s.rail.slots[i] = some m) (hd : m.dest = .sec b) :
    ((s.onRail fun w => w.haltAll m.chans).carried m.train m.source b).rail.freeMove i |>.GateApart
      ((s.onRail fun w => w.haltAll m.chans).carried m.train m.source b).lots.standing
      (s.work.haltAll m.chans).drive.chans[(7 : Chan)] := by
  have hok := h.whole.sited.moves i m hm
  obtain ⟨hv, -, n, ht, hst⟩ := hok.onward b hd
  rw [hok.train.trans ht, State.carried_rail, State.carried_lots, RailWork.haltAll_gate m.gate_notMem]
  have hrail : (s.onRail fun w => w.haltAll m.chans).rail = s.rail := RailWork.haltAll_rail (w := s.work) m.chans
  rw [hrail, Rail.freeMove, Rail.occupied_slots]
  have hrest := Rail.clearSec_rest (r := s.rail) (k := m.source)
  have hnojog : ¬ s.rail.JogsGate := by
    rintro ⟨j, hj, -⟩
    have hstill := h.whole.hold.still (h.whole.hold.jog (by
      show s.rail.jog.isSome = true
      rw [hj]; rfl))
    have := Rail.moving_false.mp hstill.1 i
    rw [show s.work.rail.slots[i] = s.rail.slots[i] from rfl, hm] at this
    cases this
  refine h.apart.same hrest.gate.1 hrest.hold.2 id (fun e => ?_) fun e => .inl ?_
  · refine (Presented.of_placed hv hst e).imp_right fun h5 => ⟨fun ho => (h.apart.opened ho).2 ?_, hnojog⟩
    exact .of_move hm (hd.trans (congrArg _ h5))
  · refine e.mono (r := s.rail) (fun j m' hm' hd' => .of_move (Rail.set_slot_none.mp hm').1 hd') fun k st hst hd' => ?_
    have hst : (s.rail.clearSec m.source).stalls[k] = some st := hst
    rw [Rail.clearSec_stalls] at hst
    exact .of_record hst hd'

theorem Rail.dropStall_bound {r : Rail} {k : Sec} {j : Sec} {st : Stall} (h : (r.dropStall k).stalls[j] = some st) :
    r.stalls[j] = some st := by
  have h : (r.stalls.set k none)[j] = some st := h
  rcases stalls_set_some h with ⟨-, e⟩ | ⟨-, e⟩
  · cases e
  · exact e

theorem Rail.Bound.dropped {r r' : Rail} {k : Sec} (h : r'.Bound) (hsl : r'.slots = r.slots)
    (hst : r'.stalls = (r.dropStall k).stalls) : r.Bound :=
  h.mono (fun j m hm hd => .of_move (by rw [← hsl]; exact hm) hd) fun j st hs hd =>
    .of_record (Rail.dropStall_bound (k := k) (by rw [← hst]; exact hs)) hd

/-- Clearing a section leaves the gate's part of the record, the moves and the records. -/
theorem Rail.GateApart.cleared {r r₀ : Rail} {f f' : Standing} {c : Channel} {k : Sec} (h : r.GateApart f c) (hg : r₀.gate = r.gate)
    (hj : r₀.jog = r.jog) (hp : Presented f' → Presented f) (hb : r₀.Bound → r.Bound) : (r₀.clearSec k).GateApart f' c := by
  have hrest := Rail.clearSec_rest (r := r₀) (k := k)
  refine h.same (hrest.gate.1.trans hg) (hrest.hold.2.trans hj) id (fun e => .inl (hp e)) fun e => .inl (hb ?_)
  exact e.mono (fun i m hm hd => .of_move (by rw [← Rail.clearSec_slots]; exact hm) hd) fun i st hst hd =>
    .of_record (by rw [← Rail.clearSec_stalls]; exact hst) hd

theorem State.Gated.arriveMove (h : s.Gated) {k b : Sec} {st : Stall} (hst : s.rail.stalls[k] = some st)
    (hd : st.dest = some (.sec b)) (hj : s.rail.jog = none) :
    ((s.mapRail fun r => r.dropStall k).carried st.train k b).rail.GateApart
      ((s.mapRail fun r => r.dropStall k).carried st.train k b).lots.standing s.drive.chans[(7 : Chan)] := by
  have hrec := (h.whole.sited.secs k).stalled st hst
  obtain ⟨hv, -, -, -, n, ht, hft⟩ := hrec.onward b hd
  rw [hrec.train.trans ht, State.carried_rail, State.carried_lots]
  have hrest := Rail.clearSec_rest (r := s.rail.dropStall k) (k := k)
  refine h.apart.same (hrest.gate.1.trans rfl) (hrest.hold.2.trans rfl) id (fun e => ?_) fun e => .inl ?_
  · refine (Presented.of_placed hv hft e).imp_right fun h5 => ⟨fun ho => (h.apart.opened ho).2 ?_, ?_⟩
    · exact .of_record hst (hd.trans (congrArg (fun x => some (Dest.sec x)) h5))
    · rintro ⟨j, hj', -⟩
      have hj' : s.rail.jog = some j := hj'
      rw [hj] at hj'
      cases hj'
  · exact Rail.Bound.dropped (r := s.rail) (k := k) e ((Rail.occupied_slots _).trans rfl) Rail.clearSec_stalls

theorem State.Gated.emptied (h : s.Gated) (hl : t.lots = s.lots) (he : t.rail.Ejects s.lots.standing)
    (hg : t.rail.gate = s.rail.gate) (hj : t.rail.jog = s.rail.jog) (hb : t.rail.Bound → s.rail.Bound) :
    t.intakeEmptied.rail.GateApart t.intakeEmptied.lots.standing s.drive.chans[(7 : Chan)] := by
  obtain ⟨hf, hgone⟩ := State.standing_emptied (s := t) (hl ▸ he)
  rw [State.intakeEmptied_rail]
  refine h.apart.cleared hg hj (fun ⟨x, q, hx⟩ => ?_) hb
  by_cases ho : t.rail.secs[(0 : Sec)].occupant = some x
  · rw [hgone x ho] at hx
    cases hx
  · exact ⟨x, q, hl ▸ (hf x ho).symm.trans hx⟩

theorem State.Gated.gate (h : s.Gated) : s.rail.GateApart s.lots.standing s.drive.chans[(7 : Chan)] := h.apart

theorem State.Gated.onRail (g : RailWork → RailWork) (h : (g s.work).Gated s.lots.standing) : (s.onRail g).Gated :=
  ⟨h.whole, h.drive, h.apart⟩

theorem State.Gated.load (h : s.Gated) (n : Nat) :
    (s.loadLot n).rail.GateApart (s.loadLot n).lots.standing (s.loadLot n).drive.chans[(7 : Chan)] := by
  have hd : (s.loadLot n).drive = s.work.lotLoaded.drive := by simp [State.loadLot, State.work]
  rw [State.loadLot_rail, State.loadLot_lots, LotStore.standing_congr (LotStore.load_trains ..), hd]
  exact h.lotLoaded.apart

theorem State.Gated.lotOff (h : s.Gated) : s.lotOff.rail.GateApart s.lotOff.lots.standing s.lotOff.drive.chans[(7 : Chan)] := by
  obtain ⟨hr, hd, hl⟩ : s.lotOff.rail = s.rail ∧ s.lotOff.drive = s.drive ∧
      s.lotOff.lots = s.clock.lot.elim s.lots s.lots.close := by
    unfold State.lotOff
    dsimp only
    cases hl : s.clock.lot <;> simp [hl]
  rw [hr, hd, hl]
  cases s.clock.lot with
  | none => exact h.apart
  | some n =>
    refine h.apart.same rfl rfl id (fun ⟨x, q, hx⟩ => .inl ⟨x, q, ?_⟩) .inl
    rcases s.lots.standing_close n x with e | ⟨p, -, e⟩
    · exact e.symm.trans hx
    · have hx : (s.lots.close n).standing x = _ := hx
      rw [e] at hx
      cases hx

end

end Sys2Proof.Machine

/-!
Every step keeps the rail consistent and the gate apart (R8, R24 to R53, R42).
-/

namespace Sys2Proof.Machine

section
variable {s t : State}

/-! ## Jogs, faults and resets -/

theorem State.Gated.jogBegun (h : s.Gated) {c : Chan} {d : Dir} {n : Nat} (hl : s.jogLocked c = false) (hj : s.rail.jog = none) :
    ({ s.rail with jog := some { chan := c, dir := d, left := n }, gate := if c = 7 then .unknown else s.rail.gate } :
      Rail).GateApart s.lots.standing (s.drive.energise c d).1.chans[(7 : Chan)] := by
  have hno : ¬ s.rail.JogsGate := by
    rintro ⟨j, hj', -⟩
    rw [hj] at hj'
    cases hj'
  by_cases hc : c = 7
  · subst hc
    rw [if_pos rfl]
    refine ⟨fun _ => .inr ⟨_, rfl, rfl⟩, fun e => e.elim nofun nofun, fun _ hp => ?_⟩
    have hp := (State.WholeRail.presented_iff h.whole).mp hp
    simp only [State.jogLocked, Bool.or_eq_false_iff] at hl
    have hn : s.rail.holdsTrain s.lots 5 .presented = false := by simpa using hl.2
    rw [hp] at hn
    cases hn
  · rw [if_neg hc, Drive.energise_chan_ne _ _ (Ne.symm hc)]
    refine h.apart.keep id id (fun ⟨j, hj', h7⟩ => ?_) (fun _ e => .inl (e.resolve_right hno)) .inl .inl
    cases hj'
    exact absurd h7 hc

theorem RailWork.Gated.reportLatched {w : RailWork} {f : Standing} (h : w.Gated f) (cs : List Chan) :
    (w.reportLatched cs).Gated f := by
  induction cs generalizing w with
  | nil => exact h
  | cons c cs ih =>
    unfold RailWork.reportLatched
    cases hl : w.drive.chans[c].latch with
    | some k => exact ih (h.report (by rw [hl]; rfl) k)
    | none => exact ih h

theorem State.Gated.fault (h : s.Gated) (c : Chan) (k : FaultKind) : (s.latchFault c k).Gated := by
  have h' : RailWork.Gated { s.work with drive := s.drive.latchFault c k } s.lots.standing := by
    refine ⟨h.whole, Drive.Ok.latchFault h.drive c k, h.apart.same rfl rfl (fun e => ?_) .inl .inl⟩
    by_cases hc : (7 : Chan) = c
    · subst hc
      rw [show (s.drive.latchFault 7 k).chans[(7 : Chan)] = _ from get_set_self ..] at e
      exact absurd e fun e => e.elim (· rfl) nofun
    · rw [show (s.drive.latchFault c k).chans[(7 : Chan)] = _ from get_set_ne _ _ hc] at e
      exact e
  refine State.Gated.onRail _ (h'.report (c := c) ?_ k)
  show (s.drive.latchFault c k).chans[c].latch.isSome = true
  rw [show (s.drive.latchFault c k).chans[c] = s.drive.chans[c].latchFault k from get_set_self ..]
  rfl

theorem State.Gated.relatched (h : s.Gated) :
    (({ s with drive := s.drive.relatchAll s.inputs } : State).onRail fun w => w.reportLatched allChans).Gated := by
  have h' : RailWork.Gated { s.work with drive := s.drive.relatchAll s.inputs } s.lots.standing := by
    refine ⟨h.whole, Drive.Ok.relatchAll h.drive _, h.apart.same rfl rfl (fun e => ?_) .inl .inl⟩
    rw [Drive.relatchAll_chan] at e
    exact Channel.relatch_live e
  exact State.Gated.onRail (s := { s with drive := s.drive.relatchAll s.inputs }) _ (h'.reportLatched allChans)

/-! ## Every deed -/

theorem State.Gated.calm (h : s.Gated) {r' : Rail} (hg : r'.gate = s.rail.gate) (hj : r'.jog = s.rail.jog)
    (hb : r'.Bound → s.rail.Bound) : r'.GateApart s.lots.standing s.drive.chans[(7 : Chan)] :=
  h.apart.same hg hj id .inl fun e => .inl (hb e)

/-- A record dropped, and sections changed. -/
theorem State.Gated.dropped (h : s.Gated) {r' : Rail} {k : Sec} (hg : r'.gate = s.rail.gate) (hj : r'.jog = s.rail.jog)
    (hsl : r'.slots = s.rail.slots) (hst : r'.stalls = (s.rail.dropStall k).stalls) :
    r'.GateApart s.lots.standing s.drive.chans[(7 : Chan)] :=
  h.calm hg hj fun e => e.dropped (k := k) hsl hst

theorem Deed.keeps_gateApart (hd : Deed s t) (h : s.Gated) :
    t.rail.GateApart t.lots.standing t.drive.chans[(7 : Chan)] := by
  have r := State.OffRail.refl s
  have a := h.apart
  cases hd with
  | time n =>
    show (s.rail.after n).GateApart s.lots.standing (s.drive.after n).chans[(7 : Chan)]
    rw [Drive.after_chan]
    refine a.keep id id (fun ⟨j, hj, hc⟩ => ?_) (fun _ => .imp id fun ⟨j, hj, hc⟩ => ?_) .inl fun e => .inl ?_
    · obtain ⟨j', hj', rfl⟩ := Option.map_eq_some_iff.mp hj
      exact ⟨j', hj', hc⟩
    · exact ⟨{ j with left := j.left - n }, by
        show s.rail.jog.map _ = _
        rw [show s.rail.jog = some j from hj]; rfl, hc⟩
    · refine e.fewer (fun i m hm => ?_) fun k st hst => .inl ⟨st, hst, rfl⟩
      simp only [Rail.after, Fin.getElem_fin, Vector.getElem_map, Option.map_eq_some_iff] at hm
      obtain ⟨m₀, h₀, rfl⟩ := hm
      exact ⟨m₀, h₀, rfl⟩
  | announce t k ns h0 hl hns ht hc hd =>
    refine a.same rfl rfl id (fun e => .inl (e.of_one (t := t) (fun x hx => ?_) ?_)) .inl
    · show (s.lots.announce t k ns).standing x = _
      unfold LotStore.standing
      rw [LotStore.announce_trains, Tbl.get_put_ne _ _ hx]
    · show ((s.lots.announce t k ns).standing t).map Prod.fst ≠ _
      unfold LotStore.standing
      rw [LotStore.announce_trains, Tbl.get_put_self]
      nofun
  | cancel t tr ht ha =>
    refine a.same rfl rfl id (fun e => .inl (e.of_one (t := t) (fun x hx => ?_) ?_)) .inl
    · show (s.lots.cancel t tr).standing x = _
      unfold LotStore.standing
      rw [LotStore.cancel_trains, Tbl.get_erase_ne _ hx]
    · show ((s.lots.cancel t tr).standing t).map Prod.fst ≠ _
      unfold LotStore.standing
      rw [LotStore.cancel_trains, Tbl.get_erase_self]
      nofun
  | post x rest hr => exact h.offRail ((s.offRail_settleRecord x).trans (State.offRail_dropHead _))
  | void x n hr hp => exact h.offRail (s.offRail_voidRecord x)
  | load n hs hn => exact h.load n
  | segment k hs hf ht => exact h.offRail (s.offRail_beginSegment k)
  | haltDesk hs ht => exact h.offRail (r.setClock _ _)
  | haltFull hs ht => exact h.offRail (r.setClock _ _)
  | haltAfter l x hl hs ht hw => exact h.offRail ((r.onClock _).setClock _ _)
  | restart l hl hs ht hr hf => exact h.offRail (s.offRail_restart l)
  | tick l hl hs =>
    unfold State.tickTaken
    split
    · exact a
    · exact h.offRail (s.offRail_enterShowing _)
  | closeLot hs hc => exact h.lotOff
  | openContest x hs ht => exact h.offRail ((r.onClock _).setClock _ _)
  | insertPress x hs ha hb ht => exact h.offRail (s.offRail_insertPress x)
  | closeNone hs => exact h.offRail (((r.onClock _).setClock _ _).onClock _)
  | closeWon n l x after u p a hs hn hl hw => exact h.offRail (s.offRail_closeWon n x after u p a)
  | jog c d n hl hh hd hj =>
    have hb := h.jogBegun (d := d) (n := n) hl hj
    have e : (s.onRail fun w => (w.energiseAll d [c]).1).rail = s.rail := RailWork.energiseAll_rail (w := s.work) d [c]
    rw [← e] at hb
    exact hb
  | endJog => exact RailWork.Gated.apart (RailWork.Gated.endJog h)
  | stallMove i cause => exact RailWork.Gated.apart (RailWork.Gated.stallMove h i cause)
  | stallGate cause hg =>
    have hm : s.rail.gateMoving = true := hg.elim id h.whole.gate.confirm.mpr
    exact (RailWork.Gated.stallGate h (h.whole.gate.clear hm).1 (h.whole.gate.clear hm).2 cause).apart
  | stallEdge k hk hb hg =>
    have hx : ((s.work.stallEdge k).rail).GateApart s.lots.standing s.drive.chans[(7 : Chan)] := by
      rw [RailWork.stallEdge_rail]
      by_cases h0 : k = 0
      · rw [if_pos h0]
        exact h.calm rfl rfl fun e => Rail.Bound.of_set (r := s.rail) (k := k)
          (x := some { train := s.rail.secs[k].occupant, dest := none, cause := .sensor }) e rfl rfl fun st e => by cases e; rfl
      · rw [if_neg h0]
        exact h.calm rfl rfl fun e => Rail.Bound.of_set (r := s.rail) (k := k)
          (x := some { train := s.rail.secs[k].occupant, dest := none, cause := .sensor }) e rfl rfl fun st e => by cases e; rfl
    exact hx
  | settleMove k b st hk hd =>
    exact a.cleared (r₀ := (s.rail.dropStall k).occupy k st.train) rfl rfl id fun e => e.dropped (k := k) rfl rfl
  | arriveMove k b st hk hd hl hj =>
    have e := h.arriveMove hk hd hj
    have hdr : ((s.mapRail fun r => r.dropStall k).carried st.train k b).drive = s.drive := by
      cases st.train with
      | none => rfl
      | some n => unfold State.carried; dsimp only; split <;> rfl
    rw [hdr]
    exact e
  | settleEject k st pend hk hd hp => exact h.dropped (k := k) rfl rfl rfl rfl
  | resolveEject k st hk hd => exact h.dropped (k := 0) rfl rfl rfl rfl
  | emptyEject k st hk hd he =>
    have e := h.emptied (t := s.mapRail fun r => r.dropStall 0) rfl ((State.ejectable_iff.mp he).same rfl rfl fun _ _ => rfl)
      rfl rfl fun e => e.dropped (k := 0) rfl rfl
    have hdr : (s.mapRail fun r => r.dropStall 0).intakeEmptied.drive = s.drive := by
      unfold State.intakeEmptied
      dsimp only
      split <;> rfl
    rw [hdr]
    exact e
  | settleGate k st hk hd hc =>
    show ((s.rail.dropStall k).presentKept).GateApart s.lots.standing s.drive.chans[(7 : Chan)]
    unfold Rail.presentKept
    split
    · exact h.dropped (k := k) rfl rfl rfl rfl
    · exact a.cleared (r₀ := s.rail.dropStall k) rfl rfl id fun e => e.dropped (k := k) rfl rfl
  | settleEdge k st hk hd t ht => exact h.dropped (k := k) rfl rfl rfl rfl
  | unknownEdge st hk hd ht => exact h.dropped (k := 0) rfl rfl rfl rfl
  | clearEdge k st hk hd ht =>
    exact a.cleared (r₀ := s.rail.dropStall k) rfl rfl id fun e => e.dropped (k := k) rfl rfl
  | clearSection k hk hb hn => exact a.cleared (r₀ := s.rail) rfl rfl id id
  | decide tag hd => exact h.decide tag
  | admitHeld t ht =>
    obtain ⟨p, hp⟩ := LotStore.trainState_some ht
    exact h.admitHeld hp
  | moved i m b hm hd =>
    have e := h.moved hm hd
    have hdr : (((s.onRail fun w => w.haltAll m.chans).carried m.train m.source b).mapRail fun r => r.freeMove i).drive =
        (s.work.haltAll m.chans).drive := by
      show ((s.onRail fun w => w.haltAll m.chans).carried m.train m.source b).drive = _
      cases m.train with
      | none => rfl
      | some n => unfold State.carried; dsimp only; split <;> rfl
    rw [hdr]
    exact e
  | ejected i m hm hd =>
    obtain ⟨hs0, he⟩ := (h.whole.sited.moves i m hm).out hd
    have hrail : (s.work.haltAll m.chans).rail = s.rail := RailWork.haltAll_rail (w := s.work) m.chans
    have e := h.emptied (t := s.onRail fun w => w.haltAll m.chans) rfl ((congrArg (fun r => Rail.Ejects r s.lots.standing) hrail).mpr he) (congrArg Rail.gate hrail)
      (congrArg Rail.jog hrail) fun e => by rw [← hrail]; exact e
    have hdr : (s.completeEject i m).drive.chans[(7 : Chan)] = s.drive.chans[(7 : Chan)] := by
      refine Eq.trans ?_ (RailWork.haltAll_gate (w := s.work) m.gate_notMem)
      show (s.onRail fun w => w.haltAll m.chans).intakeEmptied.drive.chans[(7 : Chan)] = _
      unfold State.intakeEmptied
      dsimp only
      split <;> rfl
    rw [hdr]
    refine Rail.GateApart.same e rfl rfl id .inl fun hb => .inl ?_
    exact hb.mono (fun j m' hm' hd' => .of_move (Rail.set_slot_none.mp hm').1 hd') fun k st hst hd' => .of_record hst hd'
  | departed n ht hk =>
    obtain ⟨-, -, hst⟩ := State.leavingTrain_some ht
    obtain ⟨p, hp⟩ := LotStore.trainState_some hst
    obtain ⟨hn, hother⟩ := LotStore.standing_depart hp
    exact a.cleared (r₀ := s.rail) (k := 6) rfl rfl (fun e => e.of_one hother (by rw [hn]; nofun)) id
  | gateDone hg =>
    show s.rail.completeGate.GateApart s.lots.standing s.drive.chans[(7 : Chan)]
    unfold Rail.completeGate
    split
    · next hg => exact a.keep id (fun _ => .inl hg) id (fun _ => .imp (fun _ => .inr rfl) id) .inl .inl
    · next hg =>
      refine a.keep id (fun e => e.elim nofun nofun) id (fun _ => .imp (fun e => ?_) id) .inl .inl
      rcases e with e | e <;> exact absurd (hg.symm.trans e) nofun
    · exact a
  | driveSetting d hd =>
    refine a.same rfl rfl (fun e => ?_) .inl .inl
    rw [hd 7] at e
    exact e
  | turnOver c =>
    refine a.same rfl rfl (fun e => ?_) .inl .inl
    by_cases hc : (7 : Chan) = c
    · subst hc
      rw [show (s.drive.chans.set (7 : Chan) s.drive.chans[(7 : Chan)].turnOver)[(7 : Chan)] = _ from get_set_self ..] at e
      exact Channel.turnOver_live e
    · rw [show (s.drive.chans.set c s.drive.chans[c].turnOver)[(7 : Chan)] = _ from get_set_ne _ _ hc] at e
      exact e
  | fault c k hc => exact (h.fault c k).gate
  | relatch => exact h.relatched.gate
  | _ => exact h.calm rfl rfl id

theorem Deed.keeps_gated (hd : Deed s t) (h : s.Gated) : t.Gated :=
  ⟨hd.keeps_wholeRail h.whole, hd.steady.1 h.drive, hd.keeps_gateApart h⟩

theorem State.Gated.railDone (h : s.Gated) (b : State) : (s.railDone b).Gated := by
  have hs := RailWork.Gated.settle (w := s.work) h
  have hr : (s.railDone b).rail = (s.work.settle s.lots).rail := State.railDone_rail ..
  have hd : (s.railDone b).drive = (s.work.settle s.lots).drive := State.railDone_drive ..
  refine ⟨State.WholeRail.railDone h.whole b, ?_, ?_⟩
  · show (s.railDone b).drive.Ok
    rw [hd]
    exact hs.drive
  · show (s.railDone b).rail.GateApart (s.railDone b).lots.standing (s.railDone b).drive.chans[(7 : Chan)]
    rw [hr, hd, State.railDone_lots]
    exact hs.apart

theorem State.Gated.reset (s : State) (c : ResetCause) (a : Accounts) (l : Log) : (s.resetWith c a l).Gated := by
  have h : RailWork.Gated { rail := Rail.surveyed s.inputs, drive := Drive.reset.relatchAll s.inputs, raised := 0 }
      ({ lots := [], trains := [], queue := [] } : LotStore).standing := by
    refine ⟨Rail.Whole.surveyed s.inputs, Drive.reset_ok.relatchAll _, ⟨fun e => absurd e ?_, fun e => ?_, fun ⟨j, hj, _⟩ => (by cases hj)⟩⟩
    · show ¬ (Drive.reset.relatchAll s.inputs).chans[(7 : Chan)].Live
      rw [Drive.relatchAll_chan]
      intro e
      have e := Channel.relatch_live e
      simp only [Drive.reset, Fin.getElem_fin, Vector.getElem_replicate] at e
      exact e.elim (· rfl) nofun
    · have e : (Rail.surveyed s.inputs).gate = .opening ∨ (Rail.surveyed s.inputs).gate = .opened := e
      simp only [Rail.surveyed] at e
      split at e <;> exact e.elim nofun nofun
  have hs := h.settle
  exact ⟨hs.whole, hs.drive, hs.apart⟩

theorem Kept.gated : Kept State.Gated :=
  .of_deeds (fun _ _ _ h => h) (fun _ _ h => h) (fun hd h => hd.keeps_gated h) (fun _ h => h) (fun _ b h => h.railDone b)
    (fun s _ => .reset s ..) fun s _ => .reset s ..

end

/-- Settles O58: every deed keeps the rail whole, the gate apart from a presented train, and the examination of eligibility
both. -/
theorem everyStepKeepsRail : Obligations.EveryStepKeepsRail := fun s t _ hr hs => by
  have hw : s.WholeRail := State.railOk_iff.mp hr
  have ht : t.WholeRail := Kept.wholeRail.step hs hw
  refine ⟨State.railOk_iff.mpr ht, fun hd hg => ?_⟩
  have hgt : t.Gated := Kept.gated.step hs ⟨hw, hd, (State.gateOk_iff hw).mp hg⟩
  exact ⟨(State.gateOk_iff ht).mpr hgt.apart, fun hl ⟨n, l, hn, hst⟩ => hgt.gate_at_rest hl hn hst⟩

end Sys2Proof.Machine

/-!
Fault reports (R64 to R67): what a report leaves of the channels, the events, the move that runs the channel, the gate and the
jog.
-/

namespace Sys2Proof.Machine

/-! ## Channels halted -/

/-- Some channels halted, and nothing else of the Drive Unit changed. -/
structure Drive.Halted (d d' : Drive) : Prop where
  chans : ∀ c : Chan, d'.chans[c] = d.chans[c] ∨ d'.chans[c] = d.chans[c].halt
  gens : d'.gens = d.gens
  reports : d'.reports = d.reports

theorem Drive.Halted.refl (d : Drive) : d.Halted d := ⟨fun _ => .inl rfl, rfl, rfl⟩

theorem Drive.Halted.trans {d d' d'' : Drive} (h : d.Halted d') (h' : d'.Halted d'') : d.Halted d'' := by
  refine ⟨fun c => ?_, h'.gens.trans h.gens, h'.reports.trans h.reports⟩
  rcases h'.chans c with e' | e' <;> rcases h.chans c with e | e <;> rw [e', e]
  · exact .inl rfl
  · exact .inr rfl
  · exact .inr rfl
  · exact .inr (Channel.halt_halt _)

theorem Drive.halted_halt (d : Drive) (k : Chan) : d.Halted (d.halt k) := by
  refine ⟨fun c => ?_, rfl, rfl⟩
  by_cases h : c = k
  · subst h
    exact .inr (Drive.halt_chan_self ..)
  · exact .inl (Drive.halt_chan_ne _ h)

theorem RailWork.halted_haltAll (w : RailWork) (cs : List Chan) : w.drive.Halted (w.haltAll cs).drive := by
  induction cs generalizing w with
  | nil => exact .refl _
  | cons c cs ih => exact (w.drive.halted_halt c).trans (ih { w with drive := w.drive.halt c })

/-- A channel with a latch is not halted. -/
theorem Drive.Halted.latched {d d' : Drive} (h : d.Halted d') {c : Chan} (hl : d.chans[c].latch.isSome = true) :
    d'.chans[c] = d.chans[c] := by
  rcases h.chans c with e | e
  · exact e
  · exact e.trans (Channel.halt_of_latched _ hl)

theorem Drive.Halted.latch {d d' : Drive} (h : d.Halted d') (c : Chan) : d'.chans[c].latch = d.chans[c].latch := by
  rcases h.chans c with e | e <;> rw [e]
  exact Channel.halt_latch _

/-! ## What a report leaves -/

/-- The events noted are all noted still, and the Drive Unit has channels halted at most. -/
structure RailWork.Told (w w' : RailWork) : Prop where
  drive : w.drive.Halted w'.drive
  raised : w'.raised ||| w.raised = w'.raised

theorem RailWork.Told.refl (w : RailWork) : w.Told w := ⟨.refl _, BitVec.or_self⟩

theorem RailWork.Told.trans {w w' w'' : RailWork} (h : w.Told w') (h' : w'.Told w'') : w.Told w'' := by
  refine ⟨h.drive.trans h'.drive, ?_⟩
  rw [← h'.raised, BitVec.or_assoc, h.raised]

theorem RailWork.Told.noted {w w' : RailWork} (h : w.Told w') {e : Event} (hn : w.Noted e) : w'.Noted e := by
  unfold RailWork.Noted at hn ⊢
  rw [← h.raised, BitVec.or_assoc, hn]

theorem RailWork.Told.onRail {w w' : RailWork} (h : w.Told w') (f : Rail → Rail) : w.Told (w'.onRail f) := ⟨h.drive, h.raised⟩

theorem byte_or_absorb (a b : Byte) : (a ||| b) ||| a = a ||| b := by
  rw [BitVec.or_comm, ← BitVec.or_assoc, BitVec.or_self]

theorem RailWork.told_note (w : RailWork) (e : Event) : w.Told (w.note e) := ⟨.refl _, byte_or_absorb _ _⟩

theorem RailWork.told_stallMove (w : RailWork) (i : Fin 3) (cause : Cause) : w.Told (w.stallMove i cause) := by
  cases h : w.rail.slots[i] with
  | none =>
    have e : w.stallMove i cause = w := by unfold RailWork.stallMove; rw [h]
    rw [e]
    exact .refl w
  | some m =>
    rw [RailWork.stallMove_eq cause h]
    exact ⟨w.halted_haltAll _, byte_or_absorb _ _⟩

theorem RailWork.told_stallGate (w : RailWork) (cause : Cause) : w.Told (w.stallGate cause) := by
  rw [RailWork.stallGate_eq]
  exact ⟨w.drive.halted_halt 7, byte_or_absorb _ _⟩

theorem RailWork.told_stopFor (w : RailWork) (c : Chan) : w.Told (w.stopFor c) := by
  unfold RailWork.stopFor
  split
  · exact w.told_stallMove _ _
  · split
    · split
      · exact w.told_stallGate _
      · exact (RailWork.Told.refl w).onRail _
    · exact .refl w

theorem RailWork.told_dropJog (w : RailWork) (c : Chan) : w.Told (w.dropJog c) := by
  unfold RailWork.dropJog
  split
  · split
    · exact (RailWork.Told.refl w).onRail _
    · exact .refl w
  · exact .refl w

section
variable (w : RailWork) (c : Chan) (k : FaultKind)

theorem RailWork.told_report : w.Told (w.report c k) := by
  rw [RailWork.report_eq]
  have h : w.Told (if w.drive.reports k then w.note .fault else w) := by
    split
    · exact w.told_note _
    · exact .refl w
  exact (h.trans (RailWork.told_stopFor _ c)).trans (RailWork.told_dropJog _ c)

theorem RailWork.report_noted (h : w.drive.reports k = true) : (w.report c k).Noted .fault := by
  rw [RailWork.report_eq, if_pos h]
  exact ((RailWork.told_stopFor _ c).trans (RailWork.told_dropJog _ c)).noted (w.noted_note .fault)

/-- A report acts as the stop and the jog's end do, whether or not it is raised. -/
theorem RailWork.report_acts : ∃ v : RailWork, v.rail = w.rail ∧ v.drive = w.drive ∧ w.report c k = (v.stopFor c).dropJog c := by
  rw [RailWork.report_eq]
  refine ⟨_, ?_, ?_, rfl⟩ <;> split <;> rfl

theorem RailWork.dropJog_rail : (w.dropJog c).rail = { w.rail with jog := (w.dropJog c).rail.jog } := by
  unfold RailWork.dropJog
  split
  · split <;> rfl
  · rfl

theorem RailWork.dropJog_jog {j : Jog} (h : w.rail.jog = some j) (hc : j.chan = c) : (w.dropJog c).rail.jog = none := by
  simp only [RailWork.dropJog, h]
  rw [if_pos hc]
  rfl

theorem RailWork.stopFor_jog : (w.stopFor c).rail.jog = w.rail.jog := by
  unfold RailWork.stopFor
  split
  · next i h =>
    obtain ⟨m, hm, -⟩ := Rail.findSlot_some h
    rw [RailWork.stallMove_eq _ hm]
  · split
    · split <;> rfl
    · rfl

theorem RailWork.report_jog {j : Jog} (h : w.rail.jog = some j) (hc : j.chan = c) : (w.report c k).rail.jog = none := by
  obtain ⟨v, hr, -, he⟩ := w.report_acts c k
  rw [he]
  exact RailWork.dropJog_jog _ _ ((RailWork.stopFor_jog v c).trans (hr ▸ h)) hc

end

/-- A move stalled with cause DRIVE_FAULT: its from-section BLOCKED, and the record. -/
def Rail.Faulted (r : Rail) (m : Move) : Prop :=
  r.secs[m.source].cond = .blocked ∧
    r.stalls[m.source] = some { train := m.train, dest := some m.dest, cause := .driveFault }

section
variable {w : RailWork} {c : Chan} {i : Fin 3} {m : Move}

/-- The from-section of a stalled move is BLOCKED whatever its to-section. -/
theorem Rail.stalledSecs_blocked (r : Rail) : (r.stalledSecs m)[m.source].cond = .blocked := by
  cases h : m.dest with
  | out => rw [Rail.stalledSecs_eject _ h, Rail.block_self]
  | sec b =>
    by_cases hb : m.source = b
    · simp only [hb]
      exact (r.stalledSecs_dest h).1
    · exact (r.stalledSecs_source fun b' e => by rw [h] at e; cases e; exact hb).1

theorem RailWork.stallMove_faulted (h : w.rail.slots[i] = some m) : (w.stallMove i .driveFault).rail.Faulted m := by
  rw [RailWork.stallMove_eq .driveFault h]
  exact ⟨w.rail.stalledSecs_blocked, get_set_self ..⟩

theorem RailWork.stopFor_move (h : w.rail.slotOfChan c = some i) : w.stopFor c = w.stallMove i .driveFault := by
  simp only [RailWork.stopFor, h]

/-- A report of a channel stalls the move that runs it. -/
theorem RailWork.report_faulted (k : FaultKind) (hs : w.rail.slotOfChan c = some i) (hm : w.rail.slots[i] = some m) :
    (w.report c k).rail.Faulted m ∧ (w.report c k).Noted .stall := by
  obtain ⟨v, hr, -, he⟩ := w.report_acts c k
  rw [← hr] at hs hm
  rw [he, RailWork.stopFor_move hs]
  refine ⟨?_, (RailWork.told_dropJog _ c).noted (RailWork.stallMove_noted .driveFault hm)⟩
  rw [RailWork.dropJog_rail]
  exact RailWork.stallMove_faulted hm

/-- No move runs D7. -/
theorem Rail.slotOfChan_gate (r : Rail) : r.slotOfChan 7 = none :=
  Rail.findSlot_none.mpr fun _ m _ => Bool.eq_false_iff.mpr fun h => m.gate_notMem (List.contains_iff_mem.mp h)

theorem RailWork.stopFor_gate_moving (h : w.rail.gateMoving = true) : w.stopFor 7 = w.stallGate .driveFault := by
  simp only [RailWork.stopFor, Rail.slotOfChan_gate]
  rw [if_pos trivial, if_pos h]

theorem RailWork.stopFor_gate_still (h : ¬ w.rail.gateMoving = true) :
    w.stopFor 7 = w.onRail fun r => { r with gate := .unknown } := by
  simp only [RailWork.stopFor, Rail.slotOfChan_gate]
  rw [if_pos trivial, if_neg h]

/-- A report of D7 leaves the gate's position UNKNOWN, and stalls a gate operation. -/
theorem RailWork.report_gate (w : RailWork) (k : FaultKind) : (w.report 7 k).rail.gate = .unknown ∧
    (w.rail.gateMoving = true → (w.report 7 k).rail.secs[(5 : Sec)] = { w.rail.secs[(5 : Sec)] with cond := .blocked } ∧
      (w.report 7 k).rail.stalls[(5 : Sec)] =
        some { train := w.rail.secs[(5 : Sec)].occupant, dest := none, cause := .driveFault }) := by
  obtain ⟨v, hr, -, he⟩ := w.report_acts 7 k
  rw [he, RailWork.dropJog_rail, ← hr]
  by_cases hg : v.rail.gateMoving = true
  · rw [RailWork.stopFor_gate_moving hg]
    exact ⟨rfl, fun _ => ⟨get_set_self .., get_set_self ..⟩⟩
  · rw [RailWork.stopFor_gate_still hg]
    exact ⟨rfl, fun h => absurd h hg⟩

end

/-! ## The examination after a report -/

section
variable {s b : State}

/-- A move on record as stalled is on record after the examination of eligibility. -/
theorem Rail.Faulted.railDone {m : Move} (h : s.rail.Faulted m) (b : State) : (s.railDone b).rail.Faulted m := by
  obtain ⟨hs, ht, -⟩ := (s.railDone_spares b).held m.source (.inl h.1)
  exact ⟨(congrArg SecRec.cond hs).trans h.1, ht.trans h.2⟩

/-- A gate whose position is UNKNOWN stays so unless a gate operation begins. -/
theorem State.railDone_gate_unknown (h : s.rail.gate = .unknown) : (s.railDone b).rail.gate = .unknown ∨
    (s.railDone b).rail.gateMoving = true := by
  rw [State.railDone_rail]
  show (s.work.settle s.lots).rail.gate = .unknown ∨ (s.work.settle s.lots).rail.gateMoving = true
  by_cases hh : s.rail.hold = .none
  · by_cases hg : s.rail.gateDue s.lots = true
    · obtain ⟨hsp, -⟩ := State.settle_gate hh hg
      have hgate := hsp.gate
      by_cases hw : s.rail.wanted s.lots = .opened
      · cases hl : s.drive.chans[(7 : Chan)].latch with
        | none =>
          rw [RailWork.beginGate_opening (w := s.work) hw hl] at hgate
          refine .inr ?_
          rw [Rail.gateMoving, hgate]
          rfl
        | some x =>
          rw [RailWork.beginGate_refused (w := s.work) hw (by rw [show s.work.drive = s.drive from rfl, hl]; rfl)] at hgate
          exact .inl hgate
      · rw [RailWork.beginGate_closing (w := s.work) hw] at hgate
        refine .inr ?_
        rw [Rail.gateMoving, hgate]
        rfl
    · rw [RailWork.settle_arbitrates (w := s.work) hh (Bool.eq_false_iff.mpr hg)]
      exact .inl ((RailWork.gateSpared_arbitrate s.work s.lots 10).gate.trans h)
  · rw [RailWork.settle_held s.work s.lots hh]
    rcases s.work.holdTest_cases with ⟨e, -⟩ | ⟨-, -, -, e⟩ <;> rw [e] <;> exact .inl h

theorem State.railDone_gate_blocked (h : s.rail.gate = .unknown) (hb : s.rail.secs[(5 : Sec)].cond = .blocked) :
    (s.railDone b).rail.gate = .unknown := by
  rw [State.railDone_rail]
  exact (State.settle_gate_blocked hb).gate.trans h

end

end Sys2Proof.Machine

/-!
A fault input's assertion and release (R64, R65).
-/

namespace Sys2Proof.Machine

section
variable (s : State) (c : Chan) (k : FaultKind) (l : Bool)

theorem State.setFaultInput_eq : s.setFaultInput c k l = { s with inputs := (s.setFaultInput c k l).inputs } := by cases k <;> rfl

theorem State.setFaultInput_level : (s.setFaultInput c k l).inputs.faultInput c k = l := by
  cases k <;> exact get_set_self ..

/-- A state whose fault input has been set, taken as one. -/
theorem State.setFaultInput_with : ∃ i : Inputs, s.setFaultInput c k l = { s with inputs := i } := ⟨_, s.setFaultInput_eq c k l⟩

end

section
variable {s v : State} {c : Chan} {k : FaultKind}

theorem State.jogEnded_inputs (s : State) (j : Option Jog) : (s.jogEnded j).inputs = s.inputs := by
  unfold State.jogEnded; split <;> rfl
theorem State.jogEnded_clock (s : State) (j : Option Jog) : (s.jogEnded j).clock = s.clock := by
  unfold State.jogEnded; split <;> rfl
theorem State.jogEnded_scan (s : State) (j : Option Jog) : (s.jogEnded j).scan = s.scan := by
  unfold State.jogEnded; split <;> rfl
theorem State.jogEnded_accounts (s : State) (j : Option Jog) : (s.jogEnded j).accounts = s.accounts := by
  unfold State.jogEnded; split <;> rfl
theorem State.jogEnded_log (s : State) (j : Option Jog) : (s.jogEnded j).log = s.log := by
  unfold State.jogEnded; split <;> rfl
theorem State.jogEnded_holds {e : Event} (j : Option Jog) (h : s.holds e = true) : (s.jogEnded j).holds e = true := by
  unfold State.jogEnded
  split
  · exact State.holds_raise _ _ _ h
  · exact h

/-- The rail and the Drive Unit with a fault latched, before it is reported. -/
def State.latching (s : State) (c : Chan) (k : FaultKind) : RailWork :=
  { rail := s.rail, drive := s.drive.latchFault c k, raised := 0 }

theorem State.latchFault_eq (s : State) (c : Chan) (k : FaultKind) :
    s.latchFault c k = s.onRail fun w => ({ w with drive := w.drive.latchFault c k } : RailWork).report c k := rfl

theorem State.latchFault_still (s : State) (c : Chan) (k : FaultKind) : (s.latchFault c k).lots = s.lots ∧
    (s.latchFault c k).clock = s.clock ∧ (s.latchFault c k).scan = s.scan ∧ (s.latchFault c k).accounts = s.accounts ∧
    (s.latchFault c k).log = s.log ∧ (s.latchFault c k).inputs = s.inputs := by
  simp only [State.latchFault_eq, State.onRail_lots, State.onRail_clock, State.onRail_scan, State.onRail_accounts, State.onRail_log,
    State.onRail_inputs, and_self]

theorem State.latchFault_work (s : State) (c : Chan) (k : FaultKind) : (s.latchFault c k).rail = ((s.latching c k).report c k).rail ∧
    (s.latchFault c k).drive = ((s.latching c k).report c k).drive := by
  simp only [State.latchFault_eq, State.onRail_rail, State.onRail_drive, State.latching, and_self]

theorem State.latchFault_holds {e : Event} (hr : e.role = .yard) (h : ((s.latching c k).report c k).Noted e) :
    (s.latchFault c k).holds e = true := by
  have hw : s.latching c k = { s.work with drive := s.work.drive.latchFault c k } := rfl
  rw [hw] at h
  rw [State.latchFault_eq]
  exact State.onRail_holds_noted hr h

/-- A latched channel is the same after the report and the examination. -/
theorem State.latchFault_chan (s b : State) (c : Chan) (k : FaultKind) :
    ((s.latchFault c k).railDone b).drive.chans[c] = s.drive.chans[c].latchFault k := by
  have h0 : (s.latching c k).drive.chans[c] = s.drive.chans[c].latchFault k := get_set_self ..
  have h1 : (s.latchFault c k).drive.chans[c] = s.drive.chans[c].latchFault k := by
    rw [(s.latchFault_work c k).2]
    exact (((s.latching c k).told_report c k).drive.latched (by rw [h0]; rfl)).trans h0
  exact (((s.latchFault c k).railDone_spares b).latched c (by
    show (s.latchFault c k).drive.chans[c].latch.isSome = true
    rw [h1]; rfl)).trans h1

theorem exec_faultAssertion (hi : s.inputs.faultInput c k = false) (hl : s.drive.chans[c].latch = none) :
    exec (.faultAssertion c k) s =
      .next ((((s.setFaultInput c k true).latchFault c k).railDone s).jogEnded (s.rail.jogOn c)) := by
  have hd : (s.setFaultInput c k true).drive.latched c = false := by
    rw [s.setFaultInput_eq, Drive.latched, hl]
    rfl
  show execFaultAssertion c k s = _
  rw [execFaultAssertion, if_neg (by rw [hi]; nofun)]
  dsimp only
  rw [if_neg (by rw [hd]; nofun)]

theorem exec_faultAssertion_latched (hi : s.inputs.faultInput c k = false) (hl : s.drive.chans[c].latch.isSome = true) :
    exec (.faultAssertion c k) s = .next (s.setFaultInput c k true) := by
  have hd : (s.setFaultInput c k true).drive.latched c = true := by
    rw [s.setFaultInput_eq]
    exact hl
  show execFaultAssertion c k s = _
  rw [execFaultAssertion, if_neg (by rw [hi]; nofun)]
  dsimp only
  rw [if_pos hd]

/-- What the report of a fault latched leaves of the rail, after the examination. -/
theorem State.latchFault_leaves (s b : State) (c : Chan) (k : FaultKind) :
    (∀ i m, s.rail.slotOfChan c = some i → s.rail.slots[i] = some m → ((s.latchFault c k).railDone b).rail.Faulted m ∧
      (s.latchFault c k).holds .stall = true) ∧
    (c = 7 → s.rail.gateMoving = true → ((s.latchFault c k).railDone b).rail.gate = .unknown ∧
      ((s.latchFault c k).railDone b).rail.secs[(5 : Sec)].cond = .blocked ∧
      ((s.latchFault c k).railDone b).rail.stalls[(5 : Sec)] =
        some { train := s.rail.secs[(5 : Sec)].occupant, dest := none, cause := .driveFault }) ∧
    (c = 7 → ((s.latchFault c k).railDone b).rail.gate = .unknown ∨ ((s.latchFault c k).railDone b).rail.gateMoving = true) ∧
    (∀ j, s.rail.jog = some j → j.chan = c → ((s.latchFault c k).railDone b).rail.jog = none) := by
  obtain ⟨x, hx⟩ : ∃ x, x = s.latchFault c k := ⟨_, rfl⟩
  have hr : x.rail = ((s.latching c k).report c k).rail := hx ▸ (s.latchFault_work c k).1
  rw [← hx]
  refine ⟨fun i m hs hm => ?_, fun h7 hg => ?_, fun h7 => ?_, fun j hj hc => ?_⟩
  · obtain ⟨hf, hn⟩ := RailWork.report_faulted (w := s.latching c k) k hs hm
    rw [← hr] at hf
    exact ⟨hf.railDone b, hx ▸ State.latchFault_holds rfl hn⟩
  · subst h7
    obtain ⟨hu, hst⟩ := (s.latching 7 k).report_gate k
    obtain ⟨h5, hrec⟩ := hst hg
    rw [← hr] at hu h5 hrec
    have hb : x.rail.secs[(5 : Sec)].cond = .blocked := (congrArg SecRec.cond h5).trans rfl
    obtain ⟨e5, erec, -⟩ := (x.railDone_spares b).held 5 (.inl hb)
    exact ⟨State.railDone_gate_blocked hu hb, (congrArg SecRec.cond e5).trans hb, erec.trans hrec⟩
  · subst h7
    exact State.railDone_gate_unknown (hr ▸ ((s.latching 7 k).report_gate k).1)
  · exact ((x.railDone_spares b).jog).trans ((congrArg Rail.jog hr).trans (RailWork.report_jog (w := s.latching c k) c k hj hc))

end

/-- Settles O30: the latch and what the report of it stops. -/
theorem faultsLatchAndStop : Obligations.FaultsLatchAndStop := by
  intro s c k
  refine ⟨fun hi hl => ?_, fun hi hl => exec_faultAssertion_latched hi hl, rfl, s.setFaultInput_level c k false⟩
  refine ⟨_, exec_faultAssertion hi hl, ?_⟩
  obtain ⟨i, hs⟩ := s.setFaultInput_with c k true
  rw [hs]
  obtain ⟨t, ht⟩ : ∃ t : State, t = { s with inputs := i } := ⟨_, rfl⟩
  rw [← ht]
  have hrail : t.rail = s.rail := by rw [ht]
  have hdrive : t.drive = s.drive := by rw [ht]
  obtain ⟨hmove, hgate, hmoving, hjog⟩ := t.latchFault_leaves s c k
  rw [hrail] at hmove hgate hjog
  have hchan := t.latchFault_chan s c k
  obtain ⟨hlots, hclock, hscan, haccounts, hlog, hinputs⟩ := t.latchFault_still c k
  have hholds (e : Event) (h : (t.latchFault c k).holds e = true) :
      (((t.latchFault c k).railDone s).jogEnded (s.rail.jogOn c)).holds e = true :=
    State.jogEnded_holds _ (State.railDone_holds h)
  rw [State.jogEnded_inputs, State.jogEnded_drive, State.jogEnded_rail, State.jogEnded_lots, State.jogEnded_clock,
    State.jogEnded_scan, State.jogEnded_accounts, State.jogEnded_log, hchan, State.railDone_inputs, State.railDone_lots,
    State.railDone_clock, State.railDone_scan, State.railDone_accounts, State.railDone_log, hlots, hclock, hscan, haccounts, hlog,
    hinputs]
  refine ⟨by rw [ht], rfl, rfl, rfl, rfl, fun hrep => ?_, fun j m hj hm => ?_, hgate, hmoving, hjog, ?_⟩
  · exact hholds _ (State.latchFault_holds rfl (RailWork.report_noted _ c k (by
      show t.drive.reports k = true
      rw [hdrive]
      exact hrep)))
  · obtain ⟨⟨hb, hrec⟩, hst⟩ := hmove j m hj hm
    exact ⟨hb, hholds _ hst, hrec⟩
  · rw [ht]
    exact ⟨rfl, rfl, rfl, rfl, rfl⟩

end Sys2Proof.Machine

/-!
CLEAR DRIVE FAULTS (R67): the reports of the latches that the fault inputs give, in channel order.
-/

namespace Sys2Proof.Machine

/-! ## A BLOCKED section under reports -/

section
variable {w : RailWork} {f : Standing} {i : Fin 3} {m : Move} {c : Chan} {k : Sec}

/-- What a report stops leaves a BLOCKED section and its record as they are. -/
theorem Rail.Whole.stopFor_blocked (h : w.rail.Whole f) (hb : w.rail.secs[k].cond = .blocked) (c : Chan) :
    (w.stopFor c).rail.secs[k] = w.rail.secs[k] ∧ (w.stopFor c).rail.stalls[k] = w.rail.stalls[k] := by
  unfold RailWork.stopFor
  split
  · next j hj =>
    obtain ⟨n, hn, -⟩ := Rail.findSlot_some hj
    obtain ⟨hs, hd⟩ := Move.not_touches.mp (h.sited.touches_blocked hb hn)
    rw [RailWork.stallMove_eq _ hn]
    exact ⟨w.rail.stalledSecs_ne (Ne.symm hs) fun b e => fun e' => hd (e' ▸ e), get_set_ne _ _ (Ne.symm hs)⟩
  · split
    · split
      · next hg =>
        have h5 : k ≠ 5 := fun e => (h.gate.clear hg).1 (e ▸ hb)
        exact ⟨get_set_ne _ _ h5, get_set_ne _ _ h5⟩
      · exact ⟨rfl, rfl⟩
    · exact ⟨rfl, rfl⟩

theorem Rail.Whole.report_blocked (h : w.rail.Whole f) (hb : w.rail.secs[k].cond = .blocked) (c : Chan) (x : FaultKind) :
    (w.report c x).rail.secs[k] = w.rail.secs[k] ∧ (w.report c x).rail.stalls[k] = w.rail.stalls[k] := by
  obtain ⟨v, hr, -, he⟩ := w.report_acts c x
  rw [he, RailWork.dropJog_rail, ← hr]
  rw [← hr] at h hb
  exact h.stopFor_blocked hb c

/-- A move stalled for a fault, with STALL noted. -/
def RailWork.FaultNoted (w : RailWork) (m : Move) : Prop := w.rail.Faulted m ∧ w.Noted .stall

theorem RailWork.FaultNoted.report (hf : w.FaultNoted m) (h : w.rail.Whole f) (c : Chan) (x : FaultKind) :
    (w.report c x).FaultNoted m := by
  obtain ⟨⟨hb, hrec⟩, hn⟩ := hf
  obtain ⟨hs, hst⟩ := h.report_blocked hb c x
  exact ⟨⟨(congrArg SecRec.cond hs).trans hb, hst.trans hrec⟩, (w.told_report c x).noted hn⟩

/-- A move in flight stays in its slot under a report of a channel that it does not run. -/
theorem RailWork.report_slot (hm : w.rail.slots[i] = some m) (x : FaultKind) (hs : w.rail.slotOfChan c ≠ some i) :
    (w.report c x).rail.slots[i] = some m := by
  obtain ⟨v, hr, -, he⟩ := w.report_acts c x
  rw [he, RailWork.dropJog_rail]
  rw [← hr] at hm hs
  show (v.stopFor c).rail.slots[i] = some m
  unfold RailWork.stopFor
  split
  · next j hj =>
    obtain ⟨n, hn, -⟩ := Rail.findSlot_some hj
    rw [RailWork.stallMove_eq _ hn]
    exact Rail.set_slot_none.mpr ⟨hm, fun e => hs (e ▸ hj)⟩
  · split
    · split
      · exact hm
      · exact hm
    · exact hm

/-- Moves that lie apart: the channel of a move is run by that move alone. -/
theorem Rail.ChannelsApart.slotOfChan {r : Rail} (h : r.ChannelsApart) (hm : r.slots[i] = some m) (hc : c ∈ m.chans) :
    r.slotOfChan c = some i := by
  cases hs : r.slotOfChan c with
  | none => exact absurd (Rail.findSlot_none.mp hs i m hm) (by simp [hc])
  | some j =>
    obtain ⟨n, hn, hcn⟩ := Rail.findSlot_some hs
    rw [h i j m n hm hn ⟨c, hc, List.contains_iff_mem.mp hcn⟩]

theorem Rail.Whole.movesApart {r : Rail} (h : r.Whole f) : r.MovesApart := by
  refine ⟨fun i m hm => ⟨(h.sited.moves i m hm).source, ?_⟩, h.sited.apart⟩
  cases hd : m.dest with
  | sec b => exact ⟨((h.sited.moves i m hm).onward b hd).1, ((h.sited.moves i m hm).onward b hd).2.1⟩
  | out => exact ((h.sited.moves i m hm).out hd).1

/-- Under reports a move in flight stays, or it is stalled for the fault. -/
theorem RailWork.reported_move (h : w.rail.Whole f) (hm : w.rail.slots[i] = some m ∨ w.FaultNoted m) (c : Chan) (x : FaultKind) :
    (w.report c x).rail.slots[i] = some m ∨ (w.report c x).FaultNoted m := by
  rcases hm with hm | hf
  · by_cases hs : w.rail.slotOfChan c = some i
    · exact .inr (RailWork.report_faulted x hs hm)
    · exact .inl (RailWork.report_slot hm x hs)
  · exact .inr (hf.report h c x)

theorem RailWork.reported_channel (h : w.rail.Whole f) (hm : w.rail.slots[i] = some m ∨ w.FaultNoted m) (hc : c ∈ m.chans)
    (x : FaultKind) : (w.report c x).FaultNoted m := by
  rcases hm with hm | hf
  · exact RailWork.report_faulted x (h.movesApart.channelsApart.slotOfChan hm hc) hm
  · exact hf.report h c x

/-! ## The reports of a list of channels -/

theorem RailWork.reportLatched_cons (w : RailWork) (c : Chan) (cs : List Chan) : w.reportLatched (c :: cs) =
    ((w.drive.chans[c].latch).elim w fun x => w.report c x).reportLatched cs := by
  rw [RailWork.reportLatched]
  cases w.drive.chans[c].latch <;> rfl

theorem RailWork.told_reportLatched (w : RailWork) (cs : List Chan) : w.Told (w.reportLatched cs) := by
  induction cs generalizing w with
  | nil => exact .refl w
  | cons c cs ih =>
    rw [RailWork.reportLatched_cons]
    cases w.drive.chans[c].latch with
    | none => exact ih w
    | some x => exact (w.told_report c x).trans (ih _)

/-- Every latch of the list whose kind is reported raises FAULT. -/
theorem RailWork.reportLatched_noted {cs : List Chan} (hc : c ∈ cs) {x : FaultKind} (hl : w.drive.chans[c].latch = some x)
    (hr : w.drive.reports x = true) : (w.reportLatched cs).Noted .fault := by
  induction cs generalizing w with
  | nil => cases hc
  | cons a cs ih =>
    rw [RailWork.reportLatched_cons]
    by_cases ha : a = c
    · subst ha
      rw [hl]
      exact (RailWork.told_reportLatched _ cs).noted (w.report_noted a x hr)
    · have hc := (List.mem_cons.mp hc).resolve_left (Ne.symm ha)
      cases w.drive.chans[a].latch with
      | none => exact ih hc hl hr
      | some y =>
        have ht := (w.told_report a y).drive
        exact ih hc ((ht.latch c).trans hl) (by
          show (w.report a y).drive.reports x = true
          rw [ht.reports]; exact hr)

theorem RailWork.FaultNoted.reportLatched (hf : w.FaultNoted m) (h : w.rail.Whole f) (cs : List Chan) :
    (w.reportLatched cs).FaultNoted m := by
  induction cs generalizing w with
  | nil => exact hf
  | cons a cs ih =>
    rw [RailWork.reportLatched_cons]
    cases w.drive.chans[a].latch with
    | none => exact ih hf h
    | some y => exact ih (hf.report h a y) (h.report a y)

/-- Every latch of the list stalls the move that runs its channel. -/
theorem RailWork.reportLatched_faulted {cs : List Chan} (h : w.rail.Whole f) (hm : w.rail.slots[i] = some m ∨ w.FaultNoted m)
    (hc : c ∈ cs) (hmc : c ∈ m.chans) {x : FaultKind} (hl : w.drive.chans[c].latch = some x) :
    (w.reportLatched cs).FaultNoted m := by
  induction cs generalizing w with
  | nil => cases hc
  | cons a cs ih =>
    rw [RailWork.reportLatched_cons]
    by_cases ha : a = c
    · subst ha
      rw [hl]
      exact (RailWork.reported_channel h hm hmc x).reportLatched (h.report a x) cs
    · have hc := (List.mem_cons.mp hc).resolve_left (Ne.symm ha)
      cases w.drive.chans[a].latch with
      | none => exact ih h hm hc hl
      | some y => exact ih (h.report a y) (RailWork.reported_move h hm a y) hc (((w.told_report a y).drive.latch c).trans hl)

end

/-! ## The command -/

theorem mem_allChans (c : Chan) : c ∈ allChans := by revert c; decide

section
variable (d : Drive) (i : Inputs) (c : Chan)

theorem Drive.relatchAll_latch : (d.relatchAll i).chans[c].latch = i.fault c := by
  rw [Drive.relatchAll_chan]
  unfold Channel.relatch
  split
  · next k h => rw [h]; rfl
  · next h => rw [h]

theorem Drive.relatchAll_rested {k : FaultKind} (h : i.fault c = some k) :
    (d.relatchAll i).chans[c] = d.chans[c].latchFault k := by
  rw [Drive.relatchAll_chan, h]
  rfl

theorem Inputs.latchCode_fault : num1 (latchCode (i.fault c)) =
    [if i.overcurrent[c] then 1 else if i.openLoad[c] then 2 else 0] := by
  unfold Inputs.fault
  split_ifs <;> rfl

/-- The eight latches in the reply. -/
theorem relatchAll_reply : fixed (fun k : Chan => num1 (latchCode (d.relatchAll i).chans[k].latch)) allChans =
    allChans.map fun c => if i.overcurrent[c] then 1 else if i.openLoad[c] then 2 else 0 := by
  simp only [Drive.relatchAll_latch, Inputs.latchCode_fault, fixed]
  rfl

end

section
variable (s : State)

/-- The rail and the Drive Unit with every channel examined, before the latches are reported. -/
def State.relatching : RailWork := { rail := s.rail, drive := s.drive.relatchAll s.inputs, raised := 0 }

/-- The part with every channel examined and the latches of a list of channels reported (R67). -/
def State.relatched (cs : List Chan) : State :=
  ({ s with drive := s.drive.relatchAll s.inputs } : State).onRail fun w => w.reportLatched cs

theorem State.doneOn_drive (p : Role) (v : State) (x : Reply) :
    (s.doneOn p v x).drive = (v.railDone (s.frameTaken p)).drive := State.giveReply_drive ..

theorem exec_clearDriveFaults (hl : s.listens .yard = true) : exec (.clearDriveFaults .yard) s =
    .next (s.doneOn .yard ((s.frameTaken .yard).relatched allChans) (Reply.done (allChans.map fun c =>
      if s.inputs.overcurrent[c] then 1 else if s.inputs.openLoad[c] then 2 else 0))) := by
  have ht : takeClearDriveFaults (s.frameTaken .yard) =
      (((s.frameTaken .yard).relatched allChans).railDone (s.frameTaken .yard),
        Reply.done (fixed (fun k : Chan => num1 (latchCode (s.drive.relatchAll s.inputs).chans[k].latch)) allChans)) := by
    unfold takeClearDriveFaults State.relatched
    rfl
  rw [relatchAll_reply] at ht
  have hc : takeCommand (.clearDriveFaults .yard) (s.frameTaken .yard) = takeClearDriveFaults (s.frameTaken .yard) := rfl
  rw [exec_yard_answered (.clearDriveFaults .yard) rfl rfl rfl hl, hc, ht, answered_railDone]

variable (cs : List Chan)

theorem State.relatched_work : (s.relatched cs).rail = (s.relatching.reportLatched cs).rail ∧
    (s.relatched cs).drive = (s.relatching.reportLatched cs).drive := ⟨rfl, rfl⟩

theorem State.relatched_holds {e : Event} (hr : e.role = .yard) (h : (s.relatching.reportLatched cs).Noted e) :
    (s.relatched cs).holds e = true :=
  State.onRail_holds_noted (s := { s with drive := s.drive.relatchAll s.inputs }) hr h

theorem State.relatched_checkNow : ((s.relatched cs).port .yard).checkNow = (s.port .yard).checkNow :=
  (congrArg Port.checkNow (State.onRail_port_yard _ _)).trans rfl

/-- The latch of a channel after the reports and the examination. -/
theorem State.relatched_latch (b : State) (c : Chan) : ((s.relatched cs).railDone b).drive.chans[c].latch = s.inputs.fault c := by
  refine (((s.relatched cs).railDone_spares b).latch c).trans ?_
  refine (((s.relatching).told_reportLatched cs).drive.latch c).trans ?_
  exact s.drive.relatchAll_latch s.inputs c

theorem State.relatched_rested (b : State) {c : Chan} {k : FaultKind} (h : s.inputs.fault c = some k) :
    ((s.relatched cs).railDone b).drive.chans[c] = s.drive.chans[c].latchFault k := by
  have h0 : s.relatching.drive.chans[c] = s.drive.chans[c].latchFault k := s.drive.relatchAll_rested s.inputs c h
  have h1 : (s.relatched cs).work.drive.chans[c] = s.drive.chans[c].latchFault k :=
    ((s.relatching.told_reportLatched cs).drive.latched (by rw [h0]; rfl)).trans h0
  exact (((s.relatched cs).railDone_spares b).latched c (by rw [h1]; rfl)).trans h1

theorem State.relatched_gens (b : State) : ((s.relatched cs).railDone b).drive.gens = s.drive.gens :=
  ((s.relatched cs).railDone_spares b).gens.trans (s.relatching.told_reportLatched cs).drive.gens

variable {s cs}

/-- A latch whose kind is reported raises FAULT. -/
theorem State.relatched_fault {c : Chan} {k : FaultKind} (hc : c ∈ cs) (hf : s.inputs.fault c = some k)
    (hr : s.drive.reports k = true) : (s.relatched cs).holds .fault = true :=
  s.relatched_holds cs rfl (RailWork.reportLatched_noted hc ((s.drive.relatchAll_latch s.inputs c).trans hf) hr)

/-- On a consistent rail a latch stalls the move that runs its channel. -/
theorem State.relatched_move {c : Chan} {k : FaultKind} (hc : c ∈ cs) (hf : s.inputs.fault c = some k) (hw : s.WholeRail)
    {i : Fin 3} {m : Move} (hm : s.rail.slots[i] = some m) (hmc : c ∈ m.chans) :
    (s.relatched cs).rail.Faulted m ∧ (s.relatched cs).holds .stall = true := by
  obtain ⟨hfault, hn⟩ := RailWork.reportLatched_faulted (w := s.relatching) hw (.inl hm) hc hmc
    ((s.drive.relatchAll_latch s.inputs c).trans hf)
  exact ⟨hfault, s.relatched_holds cs rfl hn⟩

end

/-- Settles O31: the channels as the examination leaves them, and each latch's report. -/
theorem clearDriveFaultsExamines : Obligations.ClearDriveFaultsExamines := by
  intro s hl
  obtain ⟨cs, hcs⟩ : ∃ cs, cs = allChans := ⟨_, rfl⟩
  have hexec := exec_clearDriveFaults s hl
  have hmem := mem_allChans
  rw [← hcs] at hexec hmem ⊢
  obtain ⟨t, ht⟩ : ∃ t, t = s.frameTaken .yard := ⟨_, rfl⟩
  have hinputs : t.inputs = s.inputs := by rw [ht]; rfl
  have hdrive : t.drive = s.drive := by rw [ht]; rfl
  have hrail : t.rail = s.rail ∧ t.lots = s.lots := by rw [ht]; exact ⟨rfl, rfl⟩
  rw [← ht] at hexec
  obtain ⟨x, hx⟩ : ∃ x, x = Reply.done (cs.map fun c =>
    if s.inputs.overcurrent[c] then 1 else if s.inputs.openLoad[c] then 2 else 0) := ⟨_, rfl⟩
  rw [← hx] at hexec ⊢
  have hd : (s.doneOn .yard (t.relatched cs) x).drive = ((t.relatched cs).railDone t).drive := by
    rw [State.doneOn_drive, ← ht]
  have hr : (s.doneOn .yard (t.relatched cs) x).rail = ((t.relatched cs).railDone t).rail := by
    rw [State.doneOn_rail, ← ht]
  refine ⟨_, hexec, fun c => ?_, fun c k hk => ?_, ?_, ?_, ?_⟩
  · rw [hd, State.relatched_latch, hinputs]
    rfl
  · rw [hd] at hk ⊢
    have hf : t.inputs.fault c = some k := (State.relatched_latch t cs t c).symm.trans hk
    rw [State.relatched_rested t cs t hf]
    refine ⟨rfl, rfl, fun hrep => ?_, fun hok i m hm hc => ?_⟩
    · exact State.doneOn_holds _ (State.relatched_fault (hmem c) hf (hdrive ▸ hrep))
    · have hw : t.WholeRail := by
        unfold State.WholeRail
        rw [hrail.1, hrail.2]
        exact State.railOk_iff.mp hok
      obtain ⟨hfault, hn⟩ := State.relatched_move (hmem c) hf hw (hrail.1.symm ▸ hm) hc
      obtain ⟨hb, hrec⟩ := hfault.railDone t
      rw [hr]
      exact ⟨hb, State.doneOn_holds _ hn, hrec⟩
  · refine State.doneOn_replyLeft _ ((t.relatched_checkNow cs).trans ?_)
    rw [ht]
    exact s.frameTaken_checkNow .yard
  · rw [hd, State.relatched_gens, hdrive]
  · rw [State.doneOn_lots, State.doneOn_inputs, State.doneOn_clock, State.doneOn_scan, State.doneOn_accounts, State.doneOn_log]
    rw [ht]
    exact ⟨rfl, rfl, rfl, rfl, rfl, rfl⟩

end Sys2Proof.Machine

/-!
A forward move completed (R33, R35): what the Rail Controller leaves of it, and what the Clock Engine makes of the notice of a
presentation (R94, R116).
-/

namespace Sys2Proof.Machine

/-! ## Channels stopped -/

theorem RailWork.haltAll_chan {w : RailWork} {cs : List Chan} {c : Chan} (h : c ∈ cs) :
    (w.haltAll cs).drive.chans[c] = w.drive.chans[c].halt := by
  induction cs generalizing w with
  | nil => cases h
  | cons a cs ih =>
    obtain ⟨x, hx⟩ : ∃ x : RailWork, x = { w with drive := w.drive.halt a } := ⟨_, rfl⟩
    have hstep : (w.haltAll (a :: cs)) = x.haltAll cs := hx ▸ rfl
    have ha : x.drive.chans[a] = w.drive.chans[a].halt := hx ▸ Drive.halt_chan_self ..
    rw [hstep]
    rcases List.mem_cons.mp h with rfl | hc
    · rcases (x.halted_haltAll cs).chans c with e | e <;> rw [e, ha]
      exact Channel.halt_halt _
    · by_cases hca : c = a
      · subst hca
        rw [ih hc, ha, Channel.halt_halt]
      · rw [ih hc, hx]
        exact congrArg Channel.halt (Drive.halt_chan_ne _ hca)

theorem Drive.Halted.halt {d d' : Drive} (h : d.Halted d') {c : Chan} {x : Channel} (hc : d.chans[c] = x.halt) :
    d'.chans[c] = x.halt := by
  rcases h.chans c with e | e
  · exact e.trans hc
  · rw [e, hc, Channel.halt_halt]

theorem Channel.halt_rests {c : Channel} (h : c.latch = none) : c.halt.output = .off ∧ c.halt.turn = none := by
  rw [Channel.halt_free h]
  exact ⟨rfl, rfl⟩

/-! ## What the Clock Engine leaves alone when it is told of a presentation -/

/-- Everything but the clock, the lots, the notices that wait, the face and a jog is as before; channels are halted at most, and
no event is lost. -/
structure State.Heard (s u : State) : Prop where
  secs : u.rail.secs = s.rail.secs
  slots : u.rail.slots = s.rail.slots
  drive : s.drive.Halted u.drive
  trains : u.lots.trains = s.lots.trains
  inputs : u.inputs = s.inputs
  accounts : u.accounts = s.accounts
  log : u.log = s.log
  scan : u.scan = s.scan
  holds : ∀ e, s.holds e = true → u.holds e = true

theorem State.Heard.refl (s : State) : s.Heard s := ⟨rfl, rfl, .refl _, rfl, rfl, rfl, rfl, rfl, fun _ h => h⟩

theorem RailWork.lotLoaded_keeps (w : RailWork) : w.lotLoaded.rail.secs = w.rail.secs ∧ w.lotLoaded.rail.slots = w.rail.slots ∧
    w.drive.Halted w.lotLoaded.drive := by
  unfold RailWork.lotLoaded RailWork.endJog
  cases w.rail.jog with
  | none => exact ⟨rfl, rfl, .refl _⟩
  | some j =>
    dsimp only
    split_ifs
    · exact ⟨rfl, rfl, w.halted_haltAll [j.chan]⟩
    · exact ⟨rfl, rfl, .refl _⟩

section
variable (s : State)

theorem State.heard_loadLot (n : Nat) : s.Heard (s.loadLot n) := by
  obtain ⟨hsec, hslot, hd⟩ := s.work.lotLoaded_keeps
  have hdrive : (s.loadLot n).drive = s.work.lotLoaded.drive := by simp [State.loadLot, State.work]
  refine ⟨?_, ?_, ?_, ?_, State.loadLot_inputs .., State.loadLot_accounts .., State.loadLot_log .., State.loadLot_scan .., ?_⟩
  · rw [State.loadLot_rail]; exact hsec
  · rw [State.loadLot_rail]; exact hslot
  · rw [hdrive]; exact hd
  · rw [State.loadLot_lots]; rfl
  · intro e he
    exact State.holds_setClock _ _ _ _ (State.onRail_holds (s := s.onLots fun ls => ls.load n) _ he)

theorem State.heard_autoLoad : s.Heard s.autoLoad := by
  rcases s.autoLoad_cases with ⟨n, -, -, -, -, -, e⟩ | ⟨e, -⟩ <;> rw [e]
  · exact s.heard_loadLot n
  · exact .refl s

theorem State.heard_presentedNotice : s.Heard s.presentedNotice := by
  unfold State.presentedNotice
  split_ifs
  · exact s.heard_autoLoad
  · exact .refl s

/-- The part with one answer to the question whether a notice waits taken (log entry 10). -/
def State.lateTaken : State := { s with choices := { s.choices with late := s.choices.late.tail } }

theorem State.tellClock_waits (h : s.choices.late.head? = some true) :
    s.tellClock = s.lateTaken.onClock fun c => { c with noticeWaiting := true } := if_pos h

theorem State.tellClock_prompt (h : s.choices.late.head? ≠ some true) : s.tellClock = s.lateTaken.presentedNotice := if_neg h

theorem State.heard_tellClock : s.Heard s.tellClock := by
  by_cases h : s.choices.late.head? = some true
  · rw [s.tellClock_waits h]
    exact ⟨rfl, rfl, .refl _, rfl, rfl, rfl, rfl, rfl, fun _ he => he⟩
  · rw [s.tellClock_prompt h]
    obtain ⟨h1, h2, h3, h4, h5, h6, h7, h8, h9⟩ := s.lateTaken.heard_presentedNotice
    exact ⟨h1, h2, h3, h4, h5, h6, h7, h8, h9⟩

theorem State.presentedNotice_choices : s.presentedNotice.choices = s.choices := by
  unfold State.presentedNotice
  split_ifs
  · rcases s.autoLoad_cases with ⟨n, -, -, -, -, -, e⟩ | ⟨e, -⟩ <;> rw [e]
    simp [State.loadLot]
  · rfl

theorem State.tellClock_late : s.tellClock.choices.late = s.choices.late.tail := by
  by_cases h : s.choices.late.head? = some true
  · rw [s.tellClock_waits h]; rfl
  · rw [s.tellClock_prompt h, State.presentedNotice_choices]; rfl

/-- Outside IDLE with auto mode on, or with the notice waiting, the clock's record is as before but for the notice. -/
theorem State.tellClock_still (h : ¬ (s.choices.late.head? ≠ some true ∧ s.clock.state = .idle ∧ s.clock.auto = true)) :
    s.tellClock.clock = { s.clock with
      noticeWaiting := s.clock.noticeWaiting || !decide (s.choices.late.head? ≠ some true) } ∧
    s.tellClock.lots = s.lots := by
  by_cases hl : s.choices.late.head? = some true
  · rw [s.tellClock_waits hl]
    refine ⟨?_, rfl⟩
    simp [hl, State.lateTaken]
  · have hn : ¬ (s.lateTaken.clock.state = .idle ∧ s.lateTaken.clock.auto = true) := fun e => h ⟨hl, e⟩
    rw [s.tellClock_prompt hl, State.presentedNotice, if_neg hn]
    refine ⟨?_, rfl⟩
    simp [hl, State.lateTaken]

variable {s} {n : Nat} {l : Lot}

/-- A notice taken in IDLE with auto mode on loads the first WAITING lot of the presented train (R94). -/
theorem State.presentedNotice_loads (hi : s.clock.state = .idle) (ha : s.clock.auto = true) (hf : s.lots.firstWaiting = some n)
    (hn : s.lots.lots.get n = some l) (hp : ∃ x, l.train = some x ∧ s.lots.trainState x = some .presented) :
    s.presentedNotice = s.loadLot n := by
  rw [State.presentedNotice, if_pos ⟨hi, ha⟩, State.autoLoad_waiting hf hn hp]

/-- What a lot loaded from IDLE in auto mode leaves of the clock and of the lots. -/
theorem State.loadLot_auto (hi : s.clock.state = .idle) (ha : s.clock.auto = true) (hn : s.lots.lots.get n = some l) :
    (s.loadLot n).clock.state = .loaded ∧ (s.loadLot n).clock.lot = some n ∧ (s.loadLot n).clock.price = l.startPrice ∧
    (s.loadLot n).holds .clock = true ∧ (s.loadLot n).clock.autoTimer = some (s.clock.autoDelay * 1000) ∧
    (s.loadLot n).lots.lots.get n = some { l with state := .loaded } ∧
    (s.loadLot n).clock.noticeWaiting = s.clock.noticeWaiting := by
  rw [State.loadLot_clock s hn, State.loadLot_lots]
  refine ⟨rfl, rfl, rfl, s.loadLot_holds_clock n hi, ?_, LotStore.get_load_self hn, rfl⟩
  exact (if_pos ha).trans rfl

end

end Sys2Proof.Machine

/-!
A forward move completed, continued: the records it leaves, and the first lot of a train just presented (R33, R35, R94).
-/

namespace Sys2Proof.Machine

/-! ## The first WAITING lot of a train just presented -/

section
variable {ls : LotStore} {n : Nat} {r : Train} {x : Nat} {l : Lot}

/-- An ANNOUNCED lot of a train is WAITING once the train is presented (R4). -/
def Lot.waitingFor (n : Nat) (l : Lot) : Lot :=
  if l.train = some n ∧ l.state = .announced then { l with state := .waiting } else l

theorem Lot.waitingFor_state (l : Lot) (n : Nat) :
    (l.waitingFor n).state = .waiting ↔ l.state = .waiting ∨ l.train = some n ∧ l.state = .announced := by
  unfold Lot.waitingFor
  split_ifs with h
  · exact ⟨fun _ => .inr h, fun _ => rfl⟩
  · exact ⟨.inl, fun e => e.resolve_right h⟩

theorem Lot.waitingFor_fields (l : Lot) (n : Nat) : (l.waitingFor n).startPrice = l.startPrice ∧ (l.waitingFor n).train = l.train ∧
    ({ l.waitingFor n with state := .loaded } : Lot) = { l with state := .loaded } := by
  unfold Lot.waitingFor
  split <;> exact ⟨rfl, rfl, rfl⟩

/-- The part of the Lot Store in a presentation: the train at PRESENT, PRESENTED. -/
theorem LotStore.presented_trains (hr : ls.trains.get n = some r) :
    ((ls.placed n 5).present n).trains.get n = some { r with state := .presented, sec := some 5 } := by
  simp only [LotStore.present, LotStore.placed, LotStore.onTrain, Tbl.get_modify_self, hr, Option.map_some]
  rfl

theorem LotStore.presented_trains_ne {t : Nat} (h : t ≠ n) :
    ((ls.placed n 5).present n).trains.get t = ls.trains.get t := by
  simp only [LotStore.present, LotStore.placed, LotStore.onTrain, Tbl.get_modify_ne _ _ h]

theorem LotStore.presented_lots (ls : LotStore) (n y : Nat) :
    ((ls.placed n 5).present n).lots.get y = (ls.lots.get y).map (Lot.waitingFor n) :=
  Tbl.get_mapAll ls.lots (fun _ l => l.waitingFor n) y

/-- With no other train PRESENTED, the presented train is the one just presented. -/
theorem LotStore.presented_eq (hw : ls.trains.wf = true) (hr : ls.trains.get n = some r)
    (hno : ∀ t q, ls.trains.get t = some q → q.state ≠ .presented) :
    ((ls.placed n 5).present n).presented = some { r with state := .presented, sec := some 5 } := by
  obtain ⟨w, hwdef⟩ : ∃ w, w = (ls.placed n 5).present n := ⟨_, rfl⟩
  have hn : w.trains.get n = some { r with state := .presented, sec := some 5 } := hwdef ▸ LotStore.presented_trains hr
  have hwf : w.trains.wf = true := by
    rw [hwdef]
    simpa [LotStore.present, LotStore.placed, LotStore.onTrain] using hw
  rw [← hwdef, LotStore.presented]
  cases hf : w.trains.find? fun e => decide (e.2.state = .presented) with
  | none => exact absurd rfl (of_decide_eq_false (Bool.eq_false_iff.mpr (List.find?_eq_none.mp hf _ (Tbl.mem_of_get_eq _ hn))))
  | some e =>
    obtain ⟨t, q⟩ := e
    have hq : w.trains.get t = some q := Tbl.get_eq_of_mem _ hwf (List.mem_of_find?_eq_some hf)
    have hst : q.state = .presented := by simpa using List.find?_some hf
    by_cases ht : t = n
    · subst ht
      rw [hn] at hq
      exact hq.symm
    · rw [hwdef, LotStore.presented_trains_ne ht] at hq
      exact absurd hst (hno t q hq)

/-- The lot that auto mode loads at a presentation: the train's first ANNOUNCED lot (R4, R94). -/
theorem LotStore.firstWaiting_present (hw : ls.trains.wf = true) (hr : ls.trains.get n = some r)
    (hno : ∀ t q, ls.trains.get t = some q → q.state ≠ .presented)
    (hown : ∀ y ∈ r.lots, ∃ e, ls.lots.get y = some e ∧ e.train = some n ∧ e.state ≠ .waiting) :
    ((ls.placed n 5).present n).firstWaiting =
      r.lots.find? fun y => (ls.lots.get y).any fun e => e.state = .announced := by
  rw [LotStore.firstWaiting, LotStore.presented_eq hw hr hno]
  refine List.find?_congr fun y hy => ?_
  obtain ⟨e, he, ht, hs⟩ := hown y hy
  simp only [LotStore.isWaiting, LotStore.presented_lots, he, Option.map_some, Option.any_some, Lot.waitingFor_state, hs, ht,
    true_and, false_or]

end

/-! ## The records of a completed move -/

section
variable {s : State} {i : Fin 3} {m : Move} {b : Sec}

/-- The part after a completed move, before anyone is told of a presentation. -/
def State.movedOn (s : State) (i : Fin 3) (m : Move) (b : Sec) : State :=
  ((s.onRail fun w => w.haltAll m.chans).carried m.train m.source b).mapRail fun r => r.freeMove i

theorem State.completeMove_presents (hb : b = 5) (ht : m.train.isSome) :
    s.completeMove i m b = ((s.movedOn i m b).raise .presented).tellClock := by
  rw [State.completeMove, State.conveyed_eq, if_pos ⟨hb, ht⟩, State.tellClock_freeMove]
  rfl

theorem State.completeMove_moves (h : ¬ (b = 5 ∧ m.train.isSome)) : s.completeMove i m b = s.movedOn i m b := by
  rw [State.completeMove, State.conveyed_eq, if_neg h]
  rfl

theorem State.movedOn_rail : (s.movedOn i m b).rail =
    { (s.rail.clearSec m.source).occupy b m.train with slots := s.rail.slots.set i none } := by
  have hrail : (s.onRail fun w => w.haltAll m.chans).rail = s.rail := RailWork.haltAll_rail (w := s.work) m.chans
  show ((s.onRail fun w => w.haltAll m.chans).carried m.train m.source b).rail.freeMove i = _
  rw [State.carried_rail, hrail, Rail.freeMove, Rail.occupied_slots]

/-- Carrying a train touches the rail's record and the Lot Store's alone. -/
theorem State.carried_eq (s : State) (t : Option Nat) (a c : Sec) :
    s.carried t a c = { s with rail := (s.carried t a c).rail, lots := (s.carried t a c).lots } := by
  cases t with
  | none => rfl
  | some n => unfold State.carried; dsimp only; split <;> rfl

theorem State.movedOn_drive : (s.movedOn i m b).drive = (s.work.haltAll m.chans).drive := by
  show ((s.onRail fun w => w.haltAll m.chans).carried m.train m.source b).drive = _
  rw [State.carried_eq]
  rfl

theorem State.movedOn_still : (s.movedOn i m b).clock = s.clock ∧ (s.movedOn i m b).choices = s.choices ∧
    (s.movedOn i m b).inputs = s.inputs ∧ (s.movedOn i m b).accounts = s.accounts ∧ (s.movedOn i m b).log = s.log ∧
    (s.movedOn i m b).scan = s.scan := by
  rw [State.movedOn, State.carried_eq]
  exact ⟨rfl, rfl, rfl, rfl, rfl, rfl⟩

theorem State.movedOn_lots {n : Nat} (ht : m.train = some n) : (s.movedOn i m b).lots =
    if b = 5 then (s.lots.placed n b).present n else s.lots.placed n b := by
  show ((s.onRail fun w => w.haltAll m.chans).carried m.train m.source b).lots = _
  rw [ht, State.carried_lots]
  rfl

theorem State.movedOn_lots_none (ht : m.train = none) : (s.movedOn i m b).lots = s.lots := by
  show ((s.onRail fun w => w.haltAll m.chans).carried m.train m.source b).lots = _
  rw [ht]
  rfl

theorem State.movedOn_trains {n : Nat} (ht : m.train = some n) : (s.movedOn i m b).lots.trains.get n =
    (s.lots.trains.get n).map fun r =>
      { r with sec := some b, state := if b = 5 then .presented else if b = 6 then .leaving else r.state } := by
  rw [State.movedOn_lots ht]
  split_ifs with h5 h6
  · subst h5
    cases hr : s.lots.trains.get n with
    | none => simp [LotStore.present, LotStore.placed, LotStore.onTrain, hr]
    | some r => exact LotStore.presented_trains hr
  · simp only [LotStore.placed, LotStore.onTrain, Tbl.get_modify_self, h6, if_true]
  · simp only [LotStore.placed, LotStore.onTrain, Tbl.get_modify_self, h6, if_false]

/-- What is left of a move that has ended at the section after its own: the section before it CLEAR, the train at the next, the
slot free and the channels stopped. -/
structure State.Arrived (s v : State) (i : Fin 3) (m : Move) (b : Sec) : Prop where
  left : v.rail.secs[m.source].cond = .clear ∧ v.rail.secs[m.source].occupant = none
  reached : v.rail.secs[b].cond = .occupied ∧ v.rail.secs[b].occupant = m.train
  slot : v.rail.slots[i] = none
  stopped : ∀ c ∈ m.chans, s.drive.chans[c].latch = none → v.drive.chans[c].output = .off ∧ v.drive.chans[c].turn = none
  trains : ∀ n, m.train = some n → v.lots.trains.get n = (s.lots.trains.get n).map fun r =>
    { r with sec := some b, state := if b = 5 then .presented else if b = 6 then .leaving else r.state }
  inputs : v.inputs = s.inputs
  accounts : v.accounts = s.accounts
  log : v.log = s.log
  scan : v.scan = s.scan

theorem State.movedOn_arrived (h : m.source ≠ b) : s.Arrived (s.movedOn i m b) i m b := by
  obtain ⟨-, -, hi, ha, hl, hsc⟩ := State.movedOn_still (s := s) (i := i) (m := m) (b := b)
  have hsrc : ((s.rail.clearSec m.source).occupy b m.train).secs[m.source] =
      { s.rail.secs[m.source] with cond := .clear, occupant := none } := (Rail.occupied_ne _ h).trans Rail.clearSec_sec
  refine ⟨?_, ?_, ?_, fun c hc hlat => ?_, fun n ht => State.movedOn_trains ht, hi, ha, hl, hsc⟩
  · rw [State.movedOn_rail]
    exact ⟨(congrArg SecRec.cond hsrc).trans rfl, (congrArg SecRec.occupant hsrc).trans rfl⟩
  · rw [State.movedOn_rail]
    exact Rail.occupied_sec _
  · rw [State.movedOn_rail]
    exact get_set_self ..
  · rw [State.movedOn_drive, RailWork.haltAll_chan (w := s.work) hc]
    exact Channel.halt_rests hlat

theorem State.Arrived.heard {u v : State} (h : s.Arrived v i m b) (hs : ∀ c ∈ m.chans, v.drive.chans[c] = s.drive.chans[c].halt)
    (hu : v.Heard u) : s.Arrived u i m b := by
  refine ⟨?_, ?_, ?_, fun c hc hl => ?_, fun n ht => ?_, hu.inputs.trans h.inputs, hu.accounts.trans h.accounts,
    hu.log.trans h.log, hu.scan.trans h.scan⟩
  · rw [hu.secs]; exact h.left
  · rw [hu.secs]; exact h.reached
  · rw [hu.slots]; exact h.slot
  · rw [hu.drive.halt (hs c hc)]
    exact Channel.halt_rests hl
  · rw [hu.trains]; exact h.trains n ht

theorem State.completeMove_arrived (h : m.source ≠ b) : s.Arrived (s.completeMove i m b) i m b := by
  by_cases hp : b = 5 ∧ m.train.isSome
  · rw [State.completeMove_presents hp.1 hp.2]
    have hd (c : Chan) (hc : c ∈ m.chans) : (s.movedOn i m b).drive.chans[c] = s.drive.chans[c].halt := by
      rw [State.movedOn_drive]
      exact RailWork.haltAll_chan (w := s.work) hc
    have ha := State.movedOn_arrived (s := s) (i := i) h
    obtain ⟨h1, h2, h3, h4, h5, h6, h7, h8, h9⟩ := State.heard_tellClock ((s.movedOn i m b).raise .presented)
    exact ha.heard hd ⟨h1, h2, h3, h4, h5, h6, h7, h8, fun e he => h9 e (State.holds_raise _ _ _ he)⟩
  · rw [State.completeMove_moves hp]
    exact State.movedOn_arrived h

end

end Sys2Proof.Machine

/-!
Presence edges (R33, R45) of a forward move, and a presentation notice that waited (R94, R116).
-/

namespace Sys2Proof.Machine

/-! ## The edge, by the move it meets -/

section
variable {s : State} {i : Fin 3} {m : Move} {k b : Sec} {level : Bool}

theorem exec_presenceEdge (h : s.inputs.presence[k] ≠ level) :
    exec (.presenceEdge k level) s = .next (((s.setPresence k level).edge k level).railDone s) := by
  show execPresenceEdge k level s = _
  rw [execPresenceEdge, if_neg h]

theorem State.edge_moves (hk : s.rail.slotAt k = some i) (hm : s.rail.slots[i] = some m) :
    s.edge k level = s.moveEdge i m k level := by
  simp only [State.edge, hk, hm]

theorem State.moveEdge_completes (hd : m.dest = .sec b) (he : (k = b ∧ level = true) ∨ (k = m.source ∧ level = false))
    (hb : s.inputs.presence[b] = true) (ha : s.inputs.presence[m.source] = false) :
    s.moveEdge i m k level = s.completeMove i m b := by
  simp only [State.moveEdge, hd]
  rw [if_pos (he.imp_right fun ⟨e, hl⟩ => ⟨e, by rw [hl]; nofun⟩), if_pos ⟨hb, by rw [ha]; nofun⟩]

theorem State.moveEdge_first (hd : m.dest = .sec b) (he : (k = b ∧ level = true) ∨ (k = m.source ∧ level = false))
    (hn : ¬ (s.inputs.presence[b] = true ∧ s.inputs.presence[m.source] = false)) : s.moveEdge i m k level = s := by
  simp only [State.moveEdge, hd]
  rw [if_pos (he.imp_right fun ⟨e, hl⟩ => ⟨e, by rw [hl]; nofun⟩),
    if_neg fun ⟨e, e'⟩ => hn ⟨e, Bool.eq_false_iff.mpr e'⟩]

end

/-! ## A presentation -/

section
variable {s : State} {i : Fin 3} {m : Move} {n : Nat}

/-- With PRESENT empty no train of the table is PRESENTED. -/
theorem State.RailOk.none_presented (h : s.RailOk) (ho : s.rail.secs[(5 : Sec)].occupant = none) (t : Nat) (q : Train)
    (hq : s.lots.trains.get t = some q) : q.state ≠ .presented := by
  intro hst
  have ht := h.trains t q hq
  cases hs : q.sec with
  | none =>
    rw [hs] at ht
    cases hst.symm.trans ht
  | some k =>
    rw [hs] at ht
    obtain ⟨hocc, hk⟩ := ht
    rw [hst] at hk
    obtain rfl : k = 5 := hk
    cases ho.symm.trans hocc

/-- A train's lots are its own, and none is WAITING before a train is presented. -/
theorem State.LotsOk.own_lots (h : s.LotsOk) {r : Train} (hr : s.lots.trains.get n = some r) (hst : r.state ≠ .presented)
    (y : Nat) (hy : y ∈ r.lots) : ∃ e, s.lots.lots.get y = some e ∧ e.train = some n ∧ e.state ≠ .waiting := by
  obtain ⟨-, -, -, hown⟩ := h.listed n r hr
  obtain ⟨e, he, ht⟩ := hown y hy
  refine ⟨e, he, ht, fun hw => hst ?_⟩
  obtain ⟨r', -, hr', -, -, -, hp⟩ := h.placed y e n he ht
  obtain rfl := Option.some.inj (hr'.symm.trans hr)
  exact hp (.inl hw)

/-- The part just told of nothing: a train at PRESENT and the event raised. -/
theorem State.movedOn_presents (ht : m.train = some n) : ((s.movedOn i m 5).raise .presented).lots =
    (s.lots.placed n 5).present n := by
  rw [State.raise_lots, State.movedOn_lots ht, if_pos rfl]

/-- The lots and the clock where the notice of a presentation loads nothing. -/
theorem State.presents_still (ht : m.train = some n)
    (hn : ¬ (s.choices.late.head? ≠ some true ∧ s.clock.state = .idle ∧ s.clock.auto = true)) :
    (s.completeMove i m 5).clock = { s.clock with
      noticeWaiting := s.clock.noticeWaiting || !decide (s.choices.late.head? ≠ some true) } ∧
    ∀ x, (s.completeMove i m 5).lots.lots.get x = (s.lots.lots.get x).map (Lot.waitingFor n) := by
  obtain ⟨hc, hch, -⟩ := State.movedOn_still (s := s) (i := i) (m := m) (b := 5)
  obtain ⟨z, hz⟩ : ∃ z, z = (s.movedOn i m 5).raise .presented := ⟨_, rfl⟩
  have hzc : z.clock = s.clock := hz ▸ hc
  have hzch : z.choices = s.choices := hz ▸ hch
  have hzl : z.lots = (s.lots.placed n 5).present n := hz ▸ State.movedOn_presents ht
  obtain ⟨h1, h2⟩ := State.tellClock_still z (by rw [hzc, hzch]; exact hn)
  rw [State.completeMove_presents rfl (by rw [ht]; rfl), ← hz, h1, h2, hzc, hzch, hzl]
  exact ⟨rfl, LotStore.presented_lots s.lots n⟩

/-- The lots and the clock where the notice of a presentation loads the train's first lot. -/
theorem State.presents_loads (ht : m.train = some n) (hprompt : s.choices.late.head? ≠ some true) (hi : s.clock.state = .idle)
    (ha : s.clock.auto = true) (hw : s.lots.trains.wf = true) {r : Train} (hr : s.lots.trains.get n = some r)
    (hno : ∀ t q, s.lots.trains.get t = some q → q.state ≠ .presented)
    (hown : ∀ y ∈ r.lots, ∃ e, s.lots.lots.get y = some e ∧ e.train = some n ∧ e.state ≠ .waiting)
    {x : Nat} {l : Lot} (hl : s.lots.lots.get x = some l)
    (hx : r.lots.find? (fun y => (s.lots.lots.get y).any fun e => e.state = .announced) = some x) :
    (s.completeMove i m 5).clock.state = .loaded ∧ (s.completeMove i m 5).clock.lot = some x ∧
    (s.completeMove i m 5).clock.price = l.startPrice ∧ (s.completeMove i m 5).holds .clock = true ∧
    (s.completeMove i m 5).clock.autoTimer = some (s.clock.autoDelay * 1000) ∧
    (s.completeMove i m 5).lots.lots.get x = some { l with state := .loaded } ∧
    ∀ y e, y ≠ x → s.lots.lots.get y = some e → e.state ≠ .loaded →
      (s.completeMove i m 5).lots.lots.get y = some (e.waitingFor n) := by
  obtain ⟨hc, hch, -⟩ := State.movedOn_still (s := s) (i := i) (m := m) (b := 5)
  obtain ⟨z, hz⟩ : ∃ z, z = (s.movedOn i m 5).raise .presented := ⟨_, rfl⟩
  have hzc : z.lateTaken.clock = s.clock := hz ▸ hc
  have hzch : z.choices = s.choices := hz ▸ hch
  have hzl : z.lateTaken.lots = (s.lots.placed n 5).present n := hz ▸ State.movedOn_presents (i := i) ht
  have hzx (y : Nat) : z.lateTaken.lots.lots.get y = (s.lots.lots.get y).map (Lot.waitingFor n) := by
    rw [hzl]; exact LotStore.presented_lots s.lots n y
  obtain ⟨hstart, -, hload⟩ := l.waitingFor_fields n
  obtain ⟨e, he, het, -⟩ := hown x (List.mem_of_find?_eq_some hx)
  obtain rfl := Option.some.inj (he.symm.trans hl)
  have hgx : z.lateTaken.lots.lots.get x = some (e.waitingFor n) := by rw [hzx, hl]; rfl
  have hfirst : z.lateTaken.lots.firstWaiting = some x := by
    rw [hzl, LotStore.firstWaiting_present hw hr hno hown]; exact hx
  have hon : z.lateTaken.lots.trainState n = some .presented := by
    rw [hzl]; exact LotStore.trainState_eq (LotStore.presented_trains hr)
  have htold : s.completeMove i m 5 = z.lateTaken.loadLot x := by
    rw [State.completeMove_presents rfl (by rw [ht]; rfl), ← hz, z.tellClock_prompt (by rw [hzch]; exact hprompt)]
    exact State.presentedNotice_loads (by rw [hzc]; exact hi) (by rw [hzc]; exact ha) hfirst hgx
      ⟨n, (e.waitingFor_fields n).2.1.trans het, hon⟩
  obtain ⟨h1, h2, h3, h4, h5, h6, -⟩ := State.loadLot_auto (by rw [hzc]; exact hi) (by rw [hzc]; exact ha) hgx
  rw [htold]
  refine ⟨h1, h2, h3.trans hstart, h4, h5.trans (by rw [hzc]), h6.trans (congrArg some hload), fun y q hy hq hql => ?_⟩
  have hgy : z.lateTaken.lots.lots.get y = some (q.waitingFor n) := by rw [hzx, hq]; rfl
  rw [State.loadLot_lots, LotStore.get_load_ne hy fun q' hq' hs => ?_, hgy]
  obtain rfl := Option.some.inj (hgy.symm.trans hq')
  rw [Lot.waitingFor] at hs
  split_ifs at hs
  exact hql hs

theorem State.completeMove_presented (ht : m.train.isSome) : (s.completeMove i m 5).holds .presented = true := by
  rw [State.completeMove_presents rfl ht]
  exact (State.heard_tellClock _).holds _ (State.holds_raise_self ..)

theorem State.completeMove_late (ht : m.train.isSome) : (s.completeMove i m 5).choices.late = s.choices.late.tail := by
  rw [State.completeMove_presents rfl ht, State.tellClock_late]
  show (s.movedOn i m 5).choices.late.tail = _
  rw [State.movedOn_still.2.1]

theorem State.completeMove_elsewhere {b : Sec} (h : b ≠ 5) : (s.completeMove i m b).lots.lots = s.lots.lots ∧
    (s.completeMove i m b).clock = s.clock ∧ (s.completeMove i m b).choices = s.choices := by
  obtain ⟨hc, hch, -⟩ := State.movedOn_still (s := s) (i := i) (m := m) (b := b)
  rw [State.completeMove_moves fun e => h e.1]
  refine ⟨?_, hc, hch⟩
  cases ht : m.train with
  | none => rw [State.movedOn_lots_none ht]
  | some n => rw [State.movedOn_lots ht, if_neg h]; rfl

end

/-! ## A notice that waited -/

section
variable {s : State}

theorem step_notice (hp : s.pending = []) (hn : s.clock.noticeWaiting = true) : step s = .next s.takeNotice := by
  simp only [step, hp, State.idle, hn, if_true]

/-- The part with the notice taken from the clock's record. -/
def State.noticeDropped (s : State) : State := s.onClock fun c => { c with noticeWaiting := false }

theorem State.takeNotice_acts (h : s.clock.state = .idle ∧ s.clock.auto = true) :
    s.takeNotice = s.noticeDropped.presentedNotice.railDone s := if_pos h

theorem State.presentedNotice_noticeWaiting : s.presentedNotice.clock.noticeWaiting = s.clock.noticeWaiting := by
  unfold State.presentedNotice
  split_ifs
  · rcases s.autoLoad_cases with ⟨n, e, -, -, he, -, h⟩ | ⟨h, -⟩ <;> rw [h]
    rw [State.loadLot_clock s he]
    rfl
  · rfl

end

end Sys2Proof.Machine

/-!
Presence edges of ejects and departures, and unexpected edges (R13, R29, R38, R43 to R45).
-/

namespace Sys2Proof.Machine

/-! ## The lots of a departed train (R13) -/

section
variable {ls : LotStore} {n x : Nat} {ns : List Nat}

/-- What a departure leaves of a lot's entry. -/
def Lot.released (l : Lot) : Option Lot := if l.pendingCount = 0 then none else some { l with train := none, place := none }

/-- One lot of a departed train released (R13). -/
def LotStore.release (ls : LotStore) (n : Nat) : LotStore :=
  match ls.lots.get n with
  | some l =>
    if l.pendingCount = 0 then { ls with lots := ls.lots.erase n }
    else ls.onLot n fun r => { r with train := none, place := none }
  | none => ls

theorem LotStore.releaseLots_cons : ls.releaseLots (n :: ns) = (ls.release n).releaseLots ns := rfl

theorem LotStore.get_release : (ls.release n).lots.get x = if x = n then (ls.lots.get x).bind Lot.released else ls.lots.get x := by
  unfold LotStore.release
  cases h : ls.lots.get n with
  | none =>
    split_ifs with hx
    · rw [hx, h]; rfl
    · rfl
  | some l =>
    by_cases hp : l.pendingCount = 0
    · simp only [hp, if_true, Tbl.get_erase]
      split_ifs with hx
      · rw [hx, h, Option.bind_some, Lot.released, if_pos hp]
      · rfl
    · simp only [hp, if_false, LotStore.onLot]
      split_ifs with hx
      · rw [hx, Tbl.get_modify_self, h, Option.bind_some, Lot.released, if_neg hp]; rfl
      · exact Tbl.get_modify_ne _ _ hx

/-- A lot released twice is as released once. -/
theorem Lot.released_twice (o : Option Lot) : (o.bind Lot.released).bind Lot.released = o.bind Lot.released := by
  cases o with
  | none => rfl
  | some l =>
    rw [Option.bind_some, Lot.released]
    split_ifs with h
    · rfl
    · rw [Option.bind_some, Lot.released, if_neg h]

theorem LotStore.get_releaseLots : (ls.releaseLots ns).lots.get x =
    if x ∈ ns then (ls.lots.get x).bind Lot.released else ls.lots.get x := by
  induction ns generalizing ls with
  | nil => rfl
  | cons n ns ih =>
    rw [LotStore.releaseLots_cons, ih, LotStore.get_release]
    by_cases hx : x = n
    · subst hx
      rw [if_pos rfl, if_pos List.mem_cons_self, Lot.released_twice, ite_self]
    · simp only [hx, if_false, List.mem_cons, false_or]

theorem LotStore.releaseLots_queue : (ls.releaseLots ns).queue = ls.queue := by
  induction ns generalizing ls with
  | nil => rfl
  | cons n ns ih =>
    rw [LotStore.releaseLots_cons, ih, LotStore.release]
    split
    · split <;> rfl
    · rfl

theorem LotStore.depart_eq {r : Train} (h : ls.trains.get n = some r) :
    ls.depart n = { ls.releaseLots r.lots with trains := ls.trains.erase n } := by
  simp only [LotStore.depart, h, LotStore.releaseLots_trains]

end

/-! ## Ejects and departures -/

section
variable {s : State} {i : Fin 3} {m : Move} {k : Sec} {level : Bool} {n : Nat}

theorem State.moveEdge_ejects (hd : m.dest = .out) : s.moveEdge i m k false = s.completeEject i m := by
  simp only [State.moveEdge, hd]
  exact if_neg nofun

theorem Rail.slotAt_touches (h : s.rail.slotAt k = some i) (hm : s.rail.slots[i] = some m) :
    m.source = k ∨ m.dest = .sec k := by
  obtain ⟨m', hm', ht⟩ := Rail.findSlot_some h
  obtain rfl := Option.some.inj (hm'.symm.trans hm)
  simpa [Move.touches] using ht

theorem State.completeEject_rail : (s.completeEject i m).rail = { s.rail.clearSec 0 with slots := s.rail.slots.set i none } := by
  have hrail : (s.onRail fun w => w.haltAll m.chans).rail = s.rail := RailWork.haltAll_rail (w := s.work) m.chans
  show (s.onRail fun w => w.haltAll m.chans).intakeEmptied.rail.freeMove i = _
  rw [State.intakeEmptied_rail, hrail, Rail.freeMove, Rail.clearSec_slots]

theorem State.intakeEmptied_eq : s.intakeEmptied = { s with rail := s.intakeEmptied.rail, lots := s.intakeEmptied.lots } := by
  unfold State.intakeEmptied
  dsimp only
  split <;> rfl

theorem State.completeEject_still : (s.completeEject i m).drive = (s.work.haltAll m.chans).drive ∧
    (s.completeEject i m).clock = s.clock := by
  obtain ⟨x, hx⟩ : ∃ x, x = s.onRail fun w => w.haltAll m.chans := ⟨_, rfl⟩
  have hdrive : x.drive = (s.work.haltAll m.chans).drive := hx ▸ rfl
  have hclock : x.clock = s.clock := hx ▸ rfl
  show (s.onRail fun w => w.haltAll m.chans).intakeEmptied.drive = _ ∧
    (s.onRail fun w => w.haltAll m.chans).intakeEmptied.clock = _
  rw [← hx, State.intakeEmptied_eq]
  exact ⟨hdrive, hclock⟩

theorem State.completeEject_lots : (s.completeEject i m).lots =
    (s.rail.secs[(0 : Sec)].occupant).elim s.lots s.lots.ejected := by
  have hrail : (s.onRail fun w => w.haltAll m.chans).rail = s.rail := RailWork.haltAll_rail (w := s.work) m.chans
  show (s.onRail fun w => w.haltAll m.chans).intakeEmptied.lots = _
  rw [State.intakeEmptied_lots, hrail]
  rfl

theorem LotStore.get_ejected (ls : LotStore) (t n : Nat) : (ls.ejected t).trains.get n = (ls.trains.get n).map fun r =>
    if t = n ∧ r.state = .misorder then { r with state := .announced, sec := none } else r := by
  rw [LotStore.ejected, LotStore.onTrain]
  by_cases h : n = t
  · subst h
    simp only [Tbl.get_modify_self, true_and]
  · simp only [Tbl.get_modify_ne _ _ h, Ne.symm h, false_and, if_false, Option.map_id']

theorem State.completeEject_trains (n : Nat) : (s.completeEject i m).lots.trains.get n = (s.lots.trains.get n).map fun r =>
    if s.rail.secs[(0 : Sec)].occupant = some n ∧ r.state = .misorder then { r with state := .announced, sec := none } else r := by
  rw [State.completeEject_lots]
  cases h : s.rail.secs[(0 : Sec)].occupant with
  | none => simp
  | some t =>
    simp only [Option.elim_some, Option.some.injEq]
    exact s.lots.get_ejected t n

theorem State.leavingTrain_eq {r : Train} (hc : s.rail.secs[(6 : Sec)].cond = .occupied)
    (ho : s.rail.secs[(6 : Sec)].occupant = some n) (hr : s.lots.trains.get n = some r) (hst : r.state = .leaving) :
    s.leavingTrain = some n := by
  simp only [State.leavingTrain, ho]
  exact if_pos ⟨hc, by rw [LotStore.trainState_eq hr, hst]⟩

theorem State.edge_departs (hk : s.rail.slotAt 6 = none) (hl : s.leavingTrain = some n) : s.edge 6 false = s.departure n := by
  simp only [State.edge, hk, hl]
  rfl

/-! ## Unexpected edges (R45) -/

theorem State.moveEdge_unexpected (h : match m.dest with
      | .sec b => b.val = m.source.val + 1 ∧ ((k = b ∧ level = false) ∨ (k = m.source ∧ level = true))
      | .out => level = true) :
    s.moveEdge i m k level = s.onRail fun w => w.stallMove i .sensor := by
  unfold State.moveEdge
  cases hd : m.dest with
  | out =>
    rw [hd] at h
    exact if_pos h
  | sec b =>
    rw [hd] at h
    obtain ⟨hb, he⟩ := h
    have hne : m.source ≠ b := ne_of_next hb
    refine if_neg fun hx => ?_
    rcases he with ⟨rfl, rfl⟩ | ⟨rfl, rfl⟩
    · exact hx.elim (fun e => absurd e.2 nofun) fun e => hne e.1.symm
    · exact hx.elim (fun e => hne e.1) fun e => e.2 rfl

theorem State.edge_unexpected (hk : s.rail.slotAt k = none) (h0 : ¬ (k = 0 ∧ level = true ∧ s.rail.secs[k].cond = .clear))
    (h6 : ¬ (k = 6 ∧ level = false ∧ s.rail.secs[k].cond = .occupied ∧ s.rail.holdsTrain s.lots k .leaving = true)) :
    s.edge k level =
      if s.rail.secs[k].cond = .blocked then s
      else if k = 5 ∧ s.rail.gateMoving = true then s.onRail fun w => w.stallGate .sensor
      else s.onRail fun w => w.stallEdge k := by
  have hnone : (if k = 6 ∧ ¬ level = true then s.leavingTrain else none) = none := by
    split_ifs with hc
    · obtain ⟨rfl, hl⟩ := hc
      refine Option.eq_none_iff_forall_ne_some.mpr fun t ht => h6 ?_
      obtain ⟨ho, hcond, hst⟩ := State.leavingTrain_some ht
      exact ⟨rfl, Bool.eq_false_iff.mpr hl, hcond, Rail.holdsTrain_iff.mpr ⟨t, ho, hst⟩⟩
    · rfl
  simp only [State.edge, hk, hnone]
  exact if_neg h0

theorem RailWork.stallEdge_noted (w : RailWork) (k : Sec) : (w.stallEdge k).Noted .stall :=
  RailWork.noted_note ..

/-- A lone unexpected edge's record: the section BLOCKED with what it keeps, and at INTAKE the admission wait abandoned. -/
theorem State.stallEdge_leaves : let v := s.onRail fun w => w.stallEdge k
    v.rail.secs[k].cond = .blocked ∧ v.rail.secs[k].occupant = s.rail.secs[k].occupant ∧
    v.rail.stalls[k] = some { train := s.rail.secs[k].occupant, dest := none, cause := .sensor } ∧
    (k = 0 → v.rail.adm = .idle ∧ v.rail.heldTag = none ∧ v.rail.admTimer = none ∧ v.rail.unknownTag = s.rail.unknownTag) ∧
    v.rail.gate = s.rail.gate := by
  intro v
  have hv : v.rail = (if k = 0 then s.rail.endWait else s.rail).lone k .sensor := RailWork.stallEdge_rail s.work k
  obtain ⟨r, hr⟩ : ∃ r, r = if k = 0 then s.rail.endWait else s.rail := ⟨_, rfl⟩
  have hkeep : r.secs = s.rail.secs ∧ r.stalls = s.rail.stalls ∧ r.gate = s.rail.gate ∧ r.unknownTag = s.rail.unknownTag := by
    rw [hr]
    split <;> exact ⟨rfl, rfl, rfl, rfl⟩
  obtain ⟨hsec, -, hgate, hunk⟩ := hkeep
  rw [← hr] at hv
  have hk : v.rail.secs[k] = { r.secs[k] with cond := .blocked } := by rw [hv]; exact get_set_self ..
  have hst : v.rail.stalls[k] = some { train := r.secs[k].occupant, dest := none, cause := .sensor } := by
    rw [hv]; exact get_set_self ..
  simp only [hsec] at hk hst
  refine ⟨(congrArg SecRec.cond hk).trans rfl, (congrArg SecRec.occupant hk).trans rfl, hst, fun h0 => ?_, ?_⟩
  · have hwait : r = s.rail.endWait := hr.trans (if_pos h0)
    rw [hv, hwait]
    exact ⟨rfl, rfl, rfl, rfl⟩
  · rw [hv]
    exact hgate

/-- A gate operation stalled by an edge at PRESENT. -/
theorem State.stallGate_leaves (cause : Cause) : let v := s.onRail fun w => w.stallGate cause
    v.rail.secs[(5 : Sec)].cond = .blocked ∧ v.rail.secs[(5 : Sec)].occupant = s.rail.secs[(5 : Sec)].occupant ∧
    v.rail.stalls[(5 : Sec)] = some { train := s.rail.secs[(5 : Sec)].occupant, dest := none, cause := cause } ∧
    v.rail.gate = .unknown ∧ v.rail.gateTimer = none ∧ v.rail.confirmTimer = none ∧
    (s.drive.chans[(7 : Chan)].latch = none → v.drive.chans[(7 : Chan)].output = .off) := by
  intro v
  have hsec : v.rail.secs[(5 : Sec)] = { s.rail.secs[(5 : Sec)] with cond := .blocked } := get_set_self ..
  have hst : v.rail.stalls[(5 : Sec)] = some { train := s.rail.secs[(5 : Sec)].occupant, dest := none, cause := cause } :=
    get_set_self ..
  have hch : v.drive.chans[(7 : Chan)] = s.drive.chans[(7 : Chan)].halt := get_set_self ..
  refine ⟨(congrArg SecRec.cond hsec).trans rfl, (congrArg SecRec.occupant hsec).trans rfl, hst, rfl, rfl, rfl, fun hl => ?_⟩
  rw [hch]
  exact (Channel.halt_rests hl).1

end

end Sys2Proof.Machine

/-!
What a presence edge does, each kind of edge in turn (R33, R35, R38, R45).
-/

namespace Sys2Proof.Machine

/-- Settles O21: the edge that completes a move, the first of its two edges, the notice that waited, the end of an eject, the
departure, and the unexpected edges of a move, of a gate operation and of a section alone. -/
theorem presenceEdgeCompletesMove : Obligations.PresenceEdgeCompletesMove := by
  refine ⟨fun s i m k b level hk hm hd hv hl he hpb hpa => ?_, fun s i m k b level hk hm hd hv hl he hn => ?_,
    fun s hp hn => ?_, fun s i m hk hm hd hpre => ?_, fun s n r hk hc ho hr hst hpre => ?_,
    fun s k level hl => ⟨fun i m hk hm hx => ?_, fun hk h0 h6 => ?_⟩⟩
  case refine_1 =>
    have hexec := exec_presenceEdge hl
    rw [State.edge_moves (s := s.setPresence k level) hk hm, State.moveEdge_completes hd he hpb hpa] at hexec
    have har := State.completeMove_arrived (s := s.setPresence k level) (i := i) (ne_of_next hv)
    refine ⟨_, hexec, har.left.1, har.left.2, har.reached.1, har.reached.2, har.slot, har.stopped, har.trains, ?_, har.inputs,
      har.accounts, har.log, har.scan, fun hb => State.completeMove_elsewhere hb, ?_⟩
    · rintro rfl ht
      exact State.completeMove_presented ht
    intro n hb ht prompt waiting
    subst hb
    refine ⟨State.completeMove_late (by rw [ht]; rfl), fun hno => State.presents_still (s := s.setPresence k level) ht hno,
      fun hprompt hi hauto htab hrail hlots r x l hr hlx hx => ?_⟩
    have ho5 : s.rail.secs[(5 : Sec)].occupant = none := by
      have hw : s.rail.Whole s.lots.standing := State.railOk_iff.mp hrail
      obtain ⟨-, hres, -⟩ := (hw.sited.moves i m hm).onward 5 hd
      exact (hw.sited.secs 5).emptied (.inr hres)
    have hnone := hrail.none_presented ho5
    exact State.presents_loads (s := s.setPresence k level) ht hprompt hi hauto htab.2.1 hr hnone
      (hlots.own_lots hr (hnone n r hr)) hlx hx
  case refine_2 =>
    have hexec := exec_presenceEdge hl
    rw [State.edge_moves (s := s.setPresence k level) hk hm, State.moveEdge_first hd he hn] at hexec
    exact ⟨_, hexec, rfl, ((s.setPresence k level).railDone_spares s).filled i m hm, State.railDone_lots .., State.railDone_clock ..⟩
  case refine_3 =>
    refine ⟨_, step_notice hp hn, ?_, fun h => s.takeNotice_idle h, fun hi ha n l x hf hg ht hpr => ?_⟩
    · by_cases h : s.clock.state = .idle ∧ s.clock.auto = true
      · rw [State.takeNotice_acts h, State.railDone_clock, State.presentedNotice_noticeWaiting]; rfl
      · rw [State.takeNotice_idle _ h]; rfl
    · have hload : s.noticeDropped.presentedNotice = s.noticeDropped.loadLot n :=
        State.presentedNotice_loads (s := s.noticeDropped) hi ha hf hg ⟨x, ht, hpr⟩
      obtain ⟨h1, h2, h3, h4, h5, h6, -⟩ := State.loadLot_auto (s := s.noticeDropped) hi ha hg
      rw [State.takeNotice_acts ⟨hi, ha⟩, hload, State.railDone_clock, State.railDone_lots]
      exact ⟨h1, h2, h3, State.railDone_holds h4, h5, h6⟩
  case refine_4 =>
    have hexec := exec_presenceEdge (s := s) (k := 0) (level := false) (by rw [hpre]; nofun)
    rw [State.edge_moves (s := s.setPresence 0 false) hk hm, State.moveEdge_ejects hd] at hexec
    have hsrc : m.source = 0 := (Rail.slotAt_touches hk hm).resolve_right (by rw [hd]; nofun)
    obtain ⟨hdrive, hclock⟩ := State.completeEject_still (s := s.setPresence 0 false) (i := i) (m := m)
    have hrail := State.completeEject_rail (s := s.setPresence 0 false) (i := i) (m := m)
    have hsec := Rail.clearSec_sec (r := s.rail) (k := 0)
    have hlots := State.completeEject_lots (s := s.setPresence 0 false) (i := i) (m := m)
    have hsame : ((s.setPresence 0 false).completeEject i m).lots.queue = s.lots.queue ∧
        ((s.setPresence 0 false).completeEject i m).lots.lots = s.lots.lots := by
      rw [hlots]
      cases (s.setPresence 0 false).rail.secs[(0 : Sec)].occupant <;> exact ⟨rfl, rfl⟩
    refine ⟨_, hexec, ?_, ?_, ?_, ?_, ?_, fun hlat => ?_, State.completeEject_trains (s := s.setPresence 0 false), hsame.1,
      hsame.2, hclock⟩
    · rw [hrail]; exact (congrArg SecRec.cond hsec).trans rfl
    · rw [hrail]; exact (congrArg SecRec.occupant hsec).trans rfl
    · rw [hrail]; rfl
    · rw [hrail]; rfl
    · rw [hrail]; exact get_set_self ..
    · have hmem : (0 : Chan) ∈ m.chans := by simp [Move.chans, hd, hsrc]
      rw [hdrive, RailWork.haltAll_chan hmem]
      exact Channel.halt_rests hlat
  case refine_5 =>
    have hexec := exec_presenceEdge (s := s) (k := 6) (level := false) (by rw [hpre]; nofun)
    rw [State.edge_departs (s := s.setPresence 6 false) hk (State.leavingTrain_eq (s := s.setPresence 6 false) hc ho hr hst)] at hexec
    have hsec := Rail.clearSec_sec (r := s.rail) (k := 6)
    have hlots : ((s.setPresence 6 false).departure n).lots =
        { s.lots.releaseLots r.lots with trains := s.lots.trains.erase n } := LotStore.depart_eq hr
    refine ⟨_, hexec, (congrArg SecRec.cond hsec).trans rfl, (congrArg SecRec.occupant hsec).trans rfl,
      State.holds_raise_self .., ?_, fun x hx => ?_, fun x hx => ?_, fun x hx => ?_, ?_, rfl, rfl⟩
    · rw [hlots]; exact Tbl.get_erase_self ..
    · rw [hlots]; exact Tbl.get_erase_ne _ hx
    · rw [hlots]; exact LotStore.get_releaseLots.trans (if_pos hx)
    · rw [hlots]; exact LotStore.get_releaseLots.trans (if_neg hx)
    · rw [hlots]; exact LotStore.releaseLots_queue
  case refine_6 =>
    have hexec := exec_presenceEdge hl
    rw [State.edge_moves (s := s.setPresence k level) hk hm, State.moveEdge_unexpected hx] at hexec
    have hslot : (s.setPresence k level).work.rail.slots[i] = some m := hm
    have hfwd (b : Sec) (hb : m.dest = .sec b) : m.source ≠ b := by
      rw [hb] at hx
      exact ne_of_next hx.1
    obtain ⟨hrec, hsrc, hdest⟩ := RailWork.stallMove_stalled .sensor hslot hfwd
    refine ⟨_, hexec, RailWork.stallMove_slot .sensor hslot, hrec, hsrc, hdest, fun c hc hlat => ?_,
      State.onRail_holds_noted rfl (RailWork.stallMove_noted .sensor hslot), rfl, rfl⟩
    have hdrive : ((s.setPresence k level).onRail fun w => w.stallMove i .sensor).drive =
        ((s.setPresence k level).work.haltAll m.chans).drive := (congrArg RailWork.drive (RailWork.stallMove_eq .sensor hslot) :)
    rw [hdrive, RailWork.haltAll_chan hc]
    exact (Channel.halt_rests hlat).1
  case refine_7 =>
    have hexec := exec_presenceEdge hl
    rw [State.edge_unexpected (s := s.setPresence k level) hk h0 h6] at hexec
    by_cases hb : s.rail.secs[k].cond = .blocked
    · rw [if_pos (show (s.setPresence k level).rail.secs[k].cond = .blocked from hb)] at hexec
      exact ⟨_, hexec, rfl, rfl, rfl, by rw [if_pos hb]⟩
    rw [if_neg (show ¬ (s.setPresence k level).rail.secs[k].cond = .blocked from hb)] at hexec
    by_cases hg : k = 5 ∧ s.rail.gateMoving = true
    · obtain ⟨rfl, hmv⟩ := hg
      rw [if_pos (show (5 : Sec) = 5 ∧ (s.setPresence 5 level).rail.gateMoving = true from ⟨rfl, hmv⟩)] at hexec
      obtain ⟨h1, h2, h3, h4, h5, h6', h7⟩ := State.stallGate_leaves (s := s.setPresence 5 level) .sensor
      refine ⟨_, hexec, rfl, rfl, rfl, ?_⟩
      rw [if_neg hb]
      exact ⟨h1, h2, h3, State.onRail_holds_noted rfl (RailWork.stallGate_noted _ _), nofun, fun _ _ => ⟨h4, h5, h6', h7⟩,
        fun hne => absurd ⟨rfl, hmv⟩ hne⟩
    · rw [if_neg (show ¬ (k = 5 ∧ (s.setPresence k level).rail.gateMoving = true) from hg)] at hexec
      obtain ⟨h1, h2, h3, h4, h5⟩ := State.stallEdge_leaves (s := s.setPresence k level) (k := k)
      refine ⟨_, hexec, rfl, rfl, rfl, ?_⟩
      rw [if_neg hb]
      exact ⟨h1, h2, h3, State.onRail_holds_noted rfl (RailWork.stallEdge_noted _ _), h4, fun e e' => absurd ⟨e, e'⟩ hg,
        fun _ => ⟨rfl, h5⟩⟩

end Sys2Proof.Machine

/-!
The levels of the lamps: the places of the chain, and what the character cells show (R181, R188, R189).
-/

namespace Sys2Proof.Machine

/-! ## Numbers in cells (R181) -/

theorem numberCells_length (w n : Nat) : (numberCells w n).length = w := by
  induction w generalizing n with
  | zero => rfl
  | succ w ih =>
    rw [numberCells, List.length_append]
    split_ifs
    · simp
    · rw [ih]; rfl

theorem numberCells_small {w n : Nat} (h : n < 10) :
    numberCells (w + 1) n = List.replicate w .dark ++ [.digit ⟨n % 10, Nat.mod_lt _ (by omega)⟩] := by
  rw [numberCells, if_pos h]

theorem numberCells_large {w n : Nat} (h : ¬ n < 10) :
    numberCells (w + 1) n = numberCells w (n / 10) ++ [.digit ⟨n % 10, Nat.mod_lt _ (by omega)⟩] := by
  rw [numberCells, if_neg h]

/-- The digits of a number that is not 0 begin with one that is not 0. -/
theorem head_ne_zero_of_value {ds : List (Fin 10)} (h : ds.length = 1 ∨ ds.head? ≠ some 0)
    (hv : ds.foldl (fun v d => 10 * v + d.val) 0 ≠ 0) : ds.head? ≠ some 0 := by
  rcases h with h | h
  · obtain ⟨d, rfl⟩ := List.length_eq_one_iff.mp h
    intro e
    obtain rfl := Option.some.inj e
    exact hv rfl
  · exact h

/-- A number that fits its field is shown in decimal, right-aligned. -/
theorem showsNumber_numberCells {w n : Nat} (hw : 0 < w) (h : n < 10 ^ w) : showsNumber w n (numberCells w n) := by
  induction w generalizing n with
  | zero => exact absurd hw (Nat.lt_irrefl 0)
  | succ w ih =>
    by_cases hn : n < 10
    · refine ⟨[⟨n, hn⟩], ?_, nofun, by simp, .inl rfl, by simp⟩
      rw [numberCells_small hn]
      simp [Nat.mod_eq_of_lt hn]
    · have hpos : 0 < w := by
        rcases Nat.eq_zero_or_pos w with rfl | hp
        · exact absurd h (by simpa using hn)
        · exact hp
      have hlt : n / 10 < 10 ^ w := (Nat.div_lt_iff_lt_mul (by omega)).mpr (by rwa [pow_succ] at h)
      obtain ⟨ds, hcells, hne, hlen, hhead, hval⟩ := ih hpos hlt
      have hnz : ds.head? ≠ some 0 := head_ne_zero_of_value hhead (by rw [hval]; omega)
      refine ⟨ds ++ [⟨n % 10, Nat.mod_lt _ (by omega)⟩], ?_, by simp, by simpa using hlen, .inr ?_, ?_⟩
      · rw [numberCells_large hn, hcells]
        simp
      · rw [List.head?_append_of_ne_nil _ hne]
        exact hnz
      · rw [List.foldl_append, hval]
        simp only [List.foldl_cons, List.foldl_nil]
        omega

/-! ## What the groups show -/

theorem PriceShow.cells_length (x : PriceShow) : x.cells.length = 4 := by
  cases x with
  | price n => exact numberCells_length 4 n
  | _ => rfl

theorem lotCells_length (x : Option LotPanel) : (lotCells x).length = 25 := by
  cases x with
  | none => rfl
  | some l => simp [lotCells, numberCells_length]

theorem buyerCells_length (x : Option BuyerPanel) : (buyerCells x).length = 8 := by
  cases x with
  | none => rfl
  | some b => simp [buyerCells, numberCells_length]

theorem flatMap_numberCells_length (l : List Nat) : (l.flatMap (numberCells 5)).length = 5 * l.length := by
  induction l with
  | nil => rfl
  | cons a l ih =>
    rw [List.flatMap_cons, List.length_append, numberCells_length, ih, List.length_cons]
    omega

theorem previewCells_length (l : List Nat) : (previewCells l).length = 5 * l.length + (15 - 5 * l.length) := by
  rw [previewCells, List.length_append, flatMap_numberCells_length, List.length_replicate]

theorem litCells_length (on : Bool) (cs : List Cell) : (litCells on cs).length = cs.length := by
  cases on
  · exact List.length_replicate
  · rfl

theorem litCells_on (cs : List Cell) : litCells true cs = cs := rfl
theorem litCells_off (cs : List Cell) : litCells false cs = List.replicate cs.length .dark := rfl

/-- A field that shows nothing is dark, lit or not. -/
theorem litCells_dark (on : Bool) (n : Nat) : litCells on (List.replicate n .dark) = List.replicate n .dark := by
  cases on
  · rw [litCells_off, List.length_replicate]
  · rfl

/-! ## Places of the chain -/

theorem segmentPlace_eq (i j : Nat) : segmentPlace i j = 100 + i * Config.cellSegments + j := rfl

theorem cellSegments_pos : 0 < Config.cellSegments := Nat.succ_pos _

theorem segmentPlace_inj {i i' j j' : Nat} (hj : j < Config.cellSegments) (hj' : j' < Config.cellSegments)
    (h : segmentPlace i j = segmentPlace i' j') : i = i' ∧ j = j' := by
  have e : j + i * Config.cellSegments = j' + i' * Config.cellSegments := by
    rw [segmentPlace_eq, segmentPlace_eq] at h; omega
  have hd := congrArg (· / Config.cellSegments) e
  have hm := congrArg (· % Config.cellSegments) e
  simp only [Nat.add_mul_div_right _ _ cellSegments_pos, Nat.add_mul_mod_self_right, Nat.div_eq_of_lt hj, Nat.div_eq_of_lt hj',
    Nat.zero_add, Nat.mod_eq_of_lt hj, Nat.mod_eq_of_lt hj'] at hd hm
  exact ⟨hd, hm⟩

theorem segmentPlace_lt {i j : Nat} {n : Nat} (hi : i < n) (hj : j < Config.cellSegments) : segmentPlace i j < segmentPlace n 0 := by
  have := Nat.mul_le_mul_right Config.cellSegments (Nat.succ_le_of_lt hi)
  rw [Nat.succ_mul] at this
  rw [segmentPlace_eq, segmentPlace_eq]
  omega

theorem segmentPlace_top : segmentPlace 52 0 = Config.chainLength := rfl

/-- The lit places of a run of cells lie within the run. -/
theorem cellPlaces_bounds {i p : Nat} {cs : List Cell} (h : p ∈ cellPlaces i cs) :
    segmentPlace i 0 ≤ p ∧ p < segmentPlace (i + cs.length) 0 := by
  obtain ⟨k, c, hc, j, hj, -, rfl⟩ := (mem_cellPlaces p i cs).mp h
  obtain ⟨hk, -⟩ := List.getElem?_eq_some_iff.mp hc
  refine ⟨?_, segmentPlace_lt (by omega) hj⟩
  have := Nat.mul_le_mul_right Config.cellSegments (Nat.le_add_right i k)
  rw [segmentPlace_eq, segmentPlace_eq]
  omega

theorem cellPlaces_sorted (i : Nat) (cs : List Cell) : (cellPlaces i cs).Pairwise (· < ·) := by
  induction cs generalizing i with
  | nil => exact .nil
  | cons c cs ih =>
    have hseg : c.segments.Pairwise (· < ·) := by
      cases c with
      | dark => exact .nil
      | _ => exact List.pairwise_lt_range.filter _
    refine List.pairwise_append.mpr ⟨hseg.map _ fun a b hab => Nat.add_lt_add_left hab _, ih (i + 1), fun a ha b hb => ?_⟩
    obtain ⟨j, hj, rfl⟩ := List.mem_map.mp ha
    exact (segmentPlace_lt (Nat.lt_succ_self i) ((c.mem_segments j).mp hj).1).trans_le (cellPlaces_bounds hb).1

/-! ## The levels -/

section
variable {ring : List Nat} {cs : List Cell}

/-- Lamps of the ring and then those of at most 52 cells are in the form of a record of levels. -/
theorem Lamps.wf_of_parts (hr : ring.Pairwise (· < ·)) (hb : ∀ p ∈ ring, p < 100) (hc : cs.length ≤ 52) :
    (⟨ring ++ cellPlaces 0 cs⟩ : Lamps).wf := by
  have hlow : segmentPlace 0 0 = 100 := by rw [segmentPlace_eq]; omega
  have htop : segmentPlace (0 + cs.length) 0 ≤ Config.chainLength := by
    have := Nat.mul_le_mul_right Config.cellSegments hc
    rw [← segmentPlace_top, segmentPlace_eq, segmentPlace_eq, Nat.zero_add]
    omega
  refine ⟨List.pairwise_append.mpr ⟨hr, cellPlaces_sorted 0 cs, fun a ha b hb' => ?_⟩, fun p hp => ?_⟩
  · have := hb a ha
    have := (cellPlaces_bounds hb').1
    omega
  · rcases List.mem_append.mp hp with h | h
    · have := hb p h
      have : 100 ≤ Config.chainLength := Nat.le_add_right _ _
      omega
    · exact (cellPlaces_bounds h).2.trans_le htop

theorem Lamps.on_iff {l : Lamps} {p : Nat} : l.on p = true ↔ p ∈ l.lit := by
  rw [Lamps.on, List.contains_iff_mem]

theorem Lamps.on_beyond {l : Lamps} (h : l.wf) {p : Nat} (hp : Config.chainLength ≤ p) : l.on p = false := by
  refine Bool.eq_false_iff.mpr fun hon => ?_
  have := h.2 p (Lamps.on_iff.mp hon)
  omega

/-- A cell's segment is lit where its content lights it. -/
theorem Lamps.on_segment (hb : ∀ p ∈ ring, p < 100) {i j : Nat} {c : Cell} (hc : cs[i]? = some c) (hj : j < Config.cellSegments) :
    (⟨ring ++ cellPlaces 0 cs⟩ : Lamps).on (segmentPlace i j) = c.lit j := by
  refine Bool.eq_iff_iff.mpr (Lamps.on_iff.trans (List.mem_append.trans ⟨fun h => ?_, fun h => .inr ?_⟩))
  · rcases h with h | h
    · have := hb _ h
      rw [segmentPlace_eq] at this
      omega
    · obtain ⟨k, d, hd, j', hj', hl, he⟩ := (mem_cellPlaces ..).mp h
      rw [Nat.zero_add] at he
      obtain ⟨rfl, rfl⟩ := segmentPlace_inj hj' hj he
      obtain rfl := Option.some.inj (hd.symm.trans hc)
      exact hl
  · exact (mem_cellPlaces ..).mpr ⟨i, c, hc, j, hj, h, by rw [Nat.zero_add]⟩

theorem Lamps.shows_of_parts (hb : ∀ p ∈ ring, p < 100) : (⟨ring ++ cellPlaces 0 cs⟩ : Lamps).shows cs :=
  fun _ _ hc _ hj => Lamps.on_segment hb hc hj

/-- A lamp of the ring is lit where the ring names it. -/
theorem Lamps.on_ring {p : Nat} (hp : p < 100) : (⟨ring ++ cellPlaces 0 cs⟩ : Lamps).on p = decide (p ∈ ring) := by
  refine Bool.eq_iff_iff.mpr (Lamps.on_iff.trans (List.mem_append.trans ⟨fun h => ?_, fun h => .inl (of_decide_eq_true h)⟩))
  rcases h with h | h
  · exact decide_eq_true h
  · have := (cellPlaces_bounds h).1
    rw [segmentPlace_eq] at this
    omega

end

theorem Lamps.testing_wf : Lamps.testing.wf :=
  Lamps.wf_of_parts (ring := List.range 100) List.pairwise_lt_range (fun _ => List.mem_range.mp) (by simp [Config.faceCells])

theorem Lamps.testing_shows : Lamps.testing.shows (List.replicate 52 .test) :=
  Lamps.shows_of_parts (ring := List.range 100) fun _ => List.mem_range.mp

section
variable (s : State)

theorem State.ringShown_lt : ∀ p ∈ s.ringShown, p < 100 := by
  intro p hp
  unfold State.ringShown at hp
  split_ifs at hp
  · exact of_decide_eq_true (List.mem_filter.mp hp).2
  · cases hp

theorem State.mem_ringShown {p : Nat} (hp : p < 100) : p ∈ s.ringShown ↔ s.groupOn 0 = true ∧ s.face.image.ring = some p := by
  unfold State.ringShown
  split_ifs with h
  · rw [List.mem_filter, Option.mem_toList]
    exact ⟨fun e => ⟨h, e.1⟩, fun e => ⟨e.2, decide_eq_true hp⟩⟩
  · exact ⟨nofun, fun e => absurd e.1 h⟩

theorem State.ringShown_sorted : s.ringShown.Pairwise (· < ·) := by
  unfold State.ringShown
  split_ifs
  · refine List.Pairwise.filter _ ?_
    cases s.face.image.ring with
    | none => exact .nil
    | some x => exact List.pairwise_singleton ..
  · exact .nil

theorem State.levels_test (h : s.face.testTimer.isSome = true) : s.levels = Lamps.testing := if_pos h

theorem State.levels_run (h : s.face.testTimer = none) :
    s.levels = ⟨s.ringShown ++ cellPlaces 0 (s.cellsShown.take 52)⟩ := by
  rw [State.levels, h]
  rfl

theorem State.levels_wf : s.levels.wf := by
  cases h : s.face.testTimer with
  | some n => rw [s.levels_test (by rw [h]; rfl)]; exact Lamps.testing_wf
  | none =>
    rw [s.levels_run h]
    exact Lamps.wf_of_parts s.ringShown_sorted s.ringShown_lt (List.length_take_le ..)

end

/-! ## The pass (R189) -/

theorem Face.Ok.latch {f : Face} (h : f.Ok) {now : Lamps} (hn : now.wf) : (f.latch now).Ok := by
  obtain ⟨-, hc, -⟩ := h
  exact ⟨Lamps.upTo_wf _ hc hn, Lamps.upTo_wf _ hc hn, Nat.zero_le _⟩

theorem Face.Ok.after {f : Face} (h : f.Ok) {now : Lamps} (hn : now.wf) (n draw : Nat) :
    (f.after n draw now).Ok ∧ f.shifted ≤ (f.after n draw now).shifted := by
  obtain ⟨hl, hc, hs⟩ := h
  exact ⟨⟨hl, Lamps.upTo_wf _ hc hn, Nat.min_le_right ..⟩, le_min (Nat.le_add_right ..) hs⟩

end Sys2Proof.Machine

/-!
The face: its commands, the end of a test, and the passes of the chain (R181 to R189).
-/

namespace Sys2Proof.Machine

/-! ## What each group shows -/

section
variable (on : Bool)

theorem litCells_of_on {on : Bool} (h : on = true) (cs : List Cell) : litCells on cs = cs := by rw [h]; rfl

/-- A group whose generator is off, or that shows nothing, is dark. -/
theorem litCells_dark_of {on : Bool} {cs : List Cell} {n : Nat} (hn : cs.length = n) {p : Prop} (h : on = false ∨ p)
    (hd : p → cs = List.replicate n .dark) : litCells on cs = List.replicate n .dark := by
  rcases h with rfl | h
  · rw [litCells_off, hn]
  · rw [hd h, litCells_dark]

theorem priceShown (x : PriceShow) :
    (on = true → ∀ p < 10000, x = .price p → showsNumber 4 p (litCells on x.cells)) ∧
    (on = true → x = .dashes → litCells on x.cells = List.replicate 4 .dash) ∧
    (on = false ∨ x = .blank → litCells on x.cells = List.replicate 4 .dark) := by
  refine ⟨fun h p hp e => ?_, fun h e => ?_, fun h => litCells_dark_of x.cells_length h fun e => by rw [e]; rfl⟩
  · rw [litCells_of_on h, e]
    exact showsNumber_numberCells (by omega) hp
  · rw [litCells_of_on h, e]
    rfl

theorem lotShown (y : Option LotPanel) :
    (on = true → ∀ x, y = some x → x.lot < 100000 → x.product < 10000000000 → x.grower < 100000 → x.grade < 100 →
      x.remaining < 1000 → ∃ c1 c2 c3 c4 c5, litCells on (lotCells y) = c1 ++ c2 ++ c3 ++ c4 ++ c5 ∧
        showsNumber 5 x.lot c1 ∧ showsNumber 10 x.product c2 ∧ showsNumber 5 x.grower c3 ∧ showsNumber 2 x.grade c4 ∧
        showsNumber 3 x.remaining c5) ∧
    (on = false ∨ y = none → litCells on (lotCells y) = List.replicate 25 .dark) := by
  refine ⟨fun h x e h1 h2 h3 h4 h5 => ?_, fun h => litCells_dark_of (lotCells_length y) h fun e => by rw [e]; rfl⟩
  rw [litCells_of_on h, e]
  exact ⟨_, _, _, _, _, rfl, showsNumber_numberCells (by omega) h1, showsNumber_numberCells (by omega) h2,
    showsNumber_numberCells (by omega) h3, showsNumber_numberCells (by omega) h4, showsNumber_numberCells (by omega) h5⟩

theorem buyerShown (y : Option BuyerPanel) :
    (on = true → ∀ x, y = some x → x.buyer < 100000 → x.units < 1000 → ∃ c1 c2, litCells on (buyerCells y) = c1 ++ c2 ∧
      showsNumber 5 x.buyer c1 ∧ showsNumber 3 x.units c2) ∧
    (on = false ∨ y = none → litCells on (buyerCells y) = List.replicate 8 .dark) := by
  refine ⟨fun h x e h1 h2 => ?_, fun h => litCells_dark_of (buyerCells_length y) h fun e => by rw [e]; rfl⟩
  rw [litCells_of_on h, e]
  exact ⟨_, _, rfl, showsNumber_numberCells (by omega) h1, showsNumber_numberCells (by omega) h2⟩

theorem numberCells_fields {l : List Nat} (h : ∀ x ∈ l, x < 100000) :
    List.Forall₂ (fun c x => showsNumber 5 x c) (l.map (numberCells 5)) l := by
  induction l with
  | nil => exact .nil
  | cons a l ih =>
    obtain ⟨ha, hl⟩ := List.forall_mem_cons.mp h
    exact .cons (showsNumber_numberCells (by omega) ha) (ih hl)

theorem previewShown (l : List Nat) :
    ((litCells on (previewCells l)).take 15).length = 15 ∧
    (on = true → l.length ≤ 3 → (∀ x ∈ l, x < 100000) →
      ∃ cs : List (List Cell), List.Forall₂ (fun c x => showsNumber 5 x c) cs l ∧
        (litCells on (previewCells l)).take 15 = cs.flatten ++ List.replicate (15 - 5 * l.length) .dark) ∧
    (on = false ∨ l = [] → (litCells on (previewCells l)).take 15 = List.replicate 15 .dark) := by
  have hlen := previewCells_length l
  refine ⟨?_, fun h h3 hx => ⟨_, numberCells_fields hx, ?_⟩, fun h => ?_⟩
  · rw [List.length_take, litCells_length, hlen]
    omega
  · rw [litCells_of_on h, List.take_of_length_le (by omega), previewCells, List.flatMap_def]
  · rcases h with rfl | rfl
    · rw [litCells_off, List.take_replicate, hlen]
      exact congrArg (fun n => List.replicate n Cell.dark) (by omega)
    · exact (congrArg (List.take 15) (litCells_dark on 15)).trans rfl

end

/-- The first 52 cells: those of PRICE, LOT and BUYER, and 15 of PREVIEW. -/
theorem State.cellsShown_take (s : State) : s.cellsShown.take 52 =
    litCells (s.groupOn 1) s.face.image.price.cells ++ litCells (s.groupOn 2) (lotCells s.face.image.lot) ++
      litCells (s.groupOn 3) (buyerCells s.face.image.buyer) ++
      (litCells (s.groupOn 4) (previewCells s.face.image.preview)).take 15 := by
  have hlen : (litCells (s.groupOn 1) s.face.image.price.cells ++ litCells (s.groupOn 2) (lotCells s.face.image.lot) ++
      litCells (s.groupOn 3) (buyerCells s.face.image.buyer)).length = 37 := by
    simp only [List.length_append, litCells_length, PriceShow.cells_length, lotCells_length, buyerCells_length]
  rw [State.cellsShown, List.take_append, hlen, List.take_of_length_le (by omega)]

/-! ## The commands -/

section
variable {s : State} {x y z : Byte} {g : Fin 5} {f : Fin 3} {n : Gen}

/-- The cell of the phase map for a group and a phase. -/
def cellAt (g : Fin 5) (f : Fin 3) : Fin 15 := ⟨3 * g.val + f.val, by omega⟩

theorem cellOf_eq (hx : x.toNat = g.val) (hy : y.toNat = f.val) : cellOf x y = some (cellAt g f) := by
  rw [cellOf, if_pos ⟨by omega, by omega⟩]
  exact index_some (x := cellAt g f) (by rw [hx, hy]; rfl)

theorem mapBytes_eq (f : Face) : f.mapBytes = f.map.toList.map fun k : Gen => BitVec.ofNat 8 k.val := by
  rw [Face.mapBytes, fixed]
  exact List.flatMap_pure_eq_map ..

theorem exec_setFaceMap (hl : s.listens .desk = true) :
    exec (.setFaceMap .desk x y z) s = answered .desk (takeSetFaceMap x y z (s.frameTaken .desk)) :=
  exec_desk_answered (.setFaceMap .desk x y z) rfl rfl rfl hl

theorem takeSetFaceMap_refused (t : State) (h : 4 < x.toNat ∨ 2 < y.toNat ∨ 5 < z.toNat) :
    takeSetFaceMap x y z t = refuse t .range := by
  unfold takeSetFaceMap
  by_cases hc : x.toNat ≤ 4 ∧ y.toNat ≤ 2
  · have hz : genOf z = none := index_none (by omega)
    rw [hz]
    split
    · next h => cases h
    · rfl
  · rw [cellOf, if_neg hc]

theorem takeSetFaceMap_set (t : State) (hx : x.toNat = g.val) (hy : y.toNat = f.val) (hz : z.toNat = n.val) :
    takeSetFaceMap x y z t = ({ t with face := { t.face with map := t.face.map.set (cellAt g f) n } },
      Reply.done ((t.face.map.set (cellAt g f) n).toList.map fun k : Gen => BitVec.ofNat 8 k.val)) := by
  have hn : genOf z = some n := index_some hz
  simp only [takeSetFaceMap, cellOf_eq hx hy, hn, mapBytes_eq]

theorem exec_faceTest (hl : s.listens .desk = true) :
    exec (.faceTest .desk) s = answered .desk (takeFaceTest (s.frameTaken .desk)) :=
  exec_desk_answered (.faceTest .desk) rfl rfl rfl hl

end

/-- Settles O49: the map, the test and its end, the pass carried place by place, and what the lamps of each group take. -/
theorem faceCommandsAndLatch : Obligations.FaceCommandsAndLatch := by
  intro s
  refine ⟨fun hl x y z g f n hx hy hz => ?_, fun hl x y z h => ?_, fun hl => ?_, fun n hn => ?_, ?_⟩
  · rw [exec_setFaceMap hl, takeSetFaceMap_set _ hx hy hz]
    refine ⟨_, rfl, fun c => ?_, rfl, rfl⟩
    split_ifs with hc
    · obtain rfl : c = cellAt g f := Fin.ext hc
      exact get_set_self ..
    · exact get_set_ne _ _ fun e => hc (congrArg Fin.val e)
  · rw [exec_setFaceMap hl, takeSetFaceMap_refused _ h, answered_refuse]
  · rw [exec_faceTest hl, takeFaceTest, answered_ite, answered_refuse, State.frameTaken_clock]
    split_ifs <;> rfl
  · exact ⟨_, congrArg Host.Outcome.next (s.expire_of_eq_some _ hn), rfl, rfl⟩
  · have hlamps : ({ s with face := { s.face with shifted := 0 } } : State).face.latch s.levels =
        { s.face with lamps := s.levels, carried := s.levels, shifted := 0 } := Face.latch_start _ _ rfl
    have hw : exec .faceChainLatch { s with face := { s.face with shifted := 0 } } =
        .next { s with face := { s.face with lamps := s.levels, carried := s.levels, shifted := 0 } } :=
      congrArg (fun f : Face => Host.Outcome.next ({ s with face := f } : State)) hlamps
    have hwf := s.levels_wf
    refine ⟨_, _, rfl, hw, rfl, ⟨Lamps.upTo_on _ _ _, fun n => ⟨Lamps.upTo_on _ _ _, rfl, fun h => h.after hwf _ _⟩⟩,
      fun h => h.latch hwf, fun p hp => Lamps.on_beyond hwf hp, fun ht => ?_, fun ht => ?_⟩
    · have htest := s.levels_test ht
      have hon (p : Nat) (hp : p < Config.chainLength) : s.levels.on p = true := by
        rw [htest, Lamps.testing_on]; exact decide_eq_true hp
      refine ⟨hon, ?_, fun i hi j hj => ?_⟩
      · show s.levels.shows _
        rw [htest]
        exact Lamps.testing_shows
      · exact (hon _ (segmentPlace_lt hi hj)).trans (Cell.eight_or_dash_lit j).symm
    · have hrun := s.levels_run ht
      have hshows : s.levels.shows (s.cellsShown.take 52) := by
        rw [hrun]; exact Lamps.shows_of_parts s.ringShown_lt
      rw [s.cellsShown_take] at hshows
      obtain ⟨hp1, hp2, hp3⟩ := priceShown (s.groupOn 1) s.face.image.price
      obtain ⟨hl1, hl2⟩ := lotShown (s.groupOn 2) s.face.image.lot
      obtain ⟨hb1, hb2⟩ := buyerShown (s.groupOn 3) s.face.image.buyer
      obtain ⟨hv0, hv1, hv2⟩ := previewShown (s.groupOn 4) s.face.image.preview
      refine ⟨fun i hi => ?_, _, _, _, _, hshows, ?_, ?_, ?_, hv0, hp1, hp2, hp3, hl1, hl2, hb1, hb2, hv1, hv2⟩
      · show s.levels.on i = (s.groupOn 0 && decide (s.face.image.ring = some i))
        rw [hrun, Lamps.on_ring hi, decide_eq_decide.mpr (s.mem_ringShown hi), Bool.decide_and, Bool.decide_eq_true]
      · rw [litCells_length, PriceShow.cells_length]
      · rw [litCells_length, lotCells_length]
      · rw [litCells_length, buyerCells_length]

end Sys2Proof.Machine

/-!
Lots and records over a step (R10, R16): a state that meets every hypothesis of the obligation and that CANCEL TRAIN leads out of
the agreement. `State.LotsOk` says of the lots of an ANNOUNCED train which state they have where they are ANNOUNCED, WAITING or on
sale, and so admits a CLOSED one among them, as no run of the part gives. CANCEL TRAIN returns it to DECLARED (R10 step 2) with the
outcome it closed with, which only a CLOSED lot may have.
-/

namespace Sys2Proof.Machine

/-- A lot closed with no unit sold that still has its place in a train's list. -/
def lotClosedUnsold : Lot :=
  { train := some 7, place := some 1, product := 7, grower := 3, grade := 1, unitsTotal := 10, stems := 20, minimum := 2,
    startPrice := 100, floorPrice := 60, restartRaise := 5, restartLimit := 1, container := 30, state := .closed,
    outcome := some .noSale, remaining := 0, sold := 0, withdrawn := 10, restartsUsed := 0, pendingCount := 0, lastSale := none }

def trainAnnounced : Train := { trolleys := 1, lots := [10], state := .announced, sec := none }

/-- The part after reset with an ANNOUNCED train that lists a CLOSED lot, the yard port's window open, and the train's cancelling
at the front of the queue. -/
def State.closedEarly : State :=
  { State.reset with
    lots := { lots := [(10, lotClosedUnsold)], trains := [(7, trainAnnounced)], queue := [7] },
    ports := { State.reset.ports with yard := { Port.reset with window := .opened, selectLow := true } },
    pending := [.cancelTrain .yard 7] }

namespace State

theorem closedEarly_lot {n : Nat} {l : Lot} (h : closedEarly.lots.lots.get n = some l) : n = 10 ∧ l = lotClosedUnsold := by
  simp only [closedEarly, Tbl.get] at h
  split_ifs at h with hn
  · exact ⟨hn.symm, (Option.some.inj h).symm⟩

theorem closedEarly_train {t : Nat} {r : Train} (h : closedEarly.lots.trains.get t = some r) : t = 7 ∧ r = trainAnnounced := by
  simp only [closedEarly, Tbl.get] at h
  split_ifs at h with hn
  · exact ⟨hn.symm, (Option.some.inj h).symm⟩

theorem lotClosedUnsold_ok : lotClosedUnsold.Ok := by
  constructor <;> simp [lotClosedUnsold, Lot.outcomeOf, Config.maxPrice]

theorem closedEarly_railOk : closedEarly.RailOk := by
  have hreset : Rail.reset.Whole reset.lots.standing := railOk_iff.mp reset_railOk
  have hempty : ∀ k : Sec, Rail.reset.secs[k].occupant = none := by decide
  refine railOk_iff.mpr (hreset.restand (fun k t ht => ?_) fun t st p ht => ?_)
  · cases (hempty k).symm.trans ht
  · obtain ⟨r, hr, hst, hp⟩ := LotStore.standing_some.mp ht
    obtain ⟨-, rfl⟩ := closedEarly_train hr
    exact .inr ⟨hp.symm, hst.symm⟩

theorem closedEarly_lotsOk : closedEarly.LotsOk where
  each n l hn := by
    obtain ⟨-, rfl⟩ := closedEarly_lot hn
    exact lotClosedUnsold_ok
  placed n l t hn ht := by
    obtain ⟨rfl, rfl⟩ := closedEarly_lot hn
    obtain rfl := Option.some.inj ht
    exact ⟨trainAnnounced, 0, rfl, rfl, rfl, nofun, fun h => h.elim nofun nofun⟩
  listed t r hr := by
    obtain ⟨rfl, rfl⟩ := closedEarly_train hr
    refine ⟨nofun, by decide, List.nodup_singleton _, fun n hn => ?_⟩
    obtain rfl := List.mem_singleton.mp hn
    exact ⟨lotClosedUnsold, rfl, rfl⟩
  onSale n l hn hs := by
    obtain ⟨-, rfl⟩ := closedEarly_lot hn
    cases hs
  current n hn := by cases hn

theorem closedEarly_recordsOk : closedEarly.RecordsOk := by
  refine ⟨fun n l hn => ?_, fun n hn => absurd rfl hn⟩
  obtain ⟨-, rfl⟩ := closedEarly_lot hn
  exact ⟨rfl, Nat.le_refl _⟩

/-- The cancelling leaves the lot DECLARED with its outcome. -/
theorem closedEarly_step : ∃ t, step closedEarly = .next t ∧
    t.lots.lots.get 10 = some { lotClosedUnsold with state := .declared, train := none, place := none } := by
  have h := cancelTrainReturnsLots { closedEarly with pending := [] } 7 (by decide)
  have htrain : ({ closedEarly with pending := [] } : State).lots.trains.get (7 : BitVec 16).toNat = some trainAnnounced := rfl
  rw [htrain] at h
  obtain ⟨u, hexec, -, -, -, hlots, -⟩ := h
  exact ⟨u, hexec, hlots 10 (List.mem_singleton_self _)⟩

end State

/-- Refutes O59: in `State.closedEarly`, which meets every hypothesis, CANCEL TRAIN of the ANNOUNCED train makes its CLOSED lot a
DECLARED one with an outcome. -/
theorem not_everyStepKeepsLotsAndRecords : ¬ Obligations.EveryStepKeepsLotsAndRecords := by
  intro h
  obtain ⟨t, hstep, hlot⟩ := State.closedEarly_step
  obtain ⟨hkeep, -⟩ := h State.closedEarly t ⟨rfl, rfl, rfl⟩ State.closedEarly_railOk hstep
  obtain ⟨hlots, -⟩ := hkeep Clock.reset_ok State.closedEarly_lotsOk ((State.logOk_iff _).mpr ⟨.empty 1, nofun⟩)
    State.closedEarly_recordsOk
  obtain ⟨houtcome, -⟩ := (hlots.each 10 _ hlot).outcome
  exact LotState.noConfusion (houtcome.mp rfl)

end Sys2Proof.Machine
